-- ==== Sys2Proof/Word.lean ====
section
/-! DEFINITION. The plainest types of the model: bytes of the two serial lines, the 64-bit tick count, the slot
numbers, and the level of the bank stop input. -/

namespace Sys2Proof

/-- A byte of the supervisory link or of the rotor bus (R160, R199). -/
abbrev Byte := BitVec 8

/-- A value of the free-running 64-bit tick count, 100 ns a count (00_scope.md, Units; chapter 01's state table). -/
abbrev Tick := BitVec 64

/-- A slot of the rotor table, 0 to 15 (R58). The slot number is also the module's bus address (R146). -/
abbrev Slot := Fin 16

/-- The level of the bank stop input; the line is active low and an open line reads asserted (R52, R53, R200). -/
inductive StopLevel where
  | released
  | asserted
deriving DecidableEq, Repr

end Sys2Proof
end

