-- ==== Sys2Proof/Syntax.lean ====
section
/-! DEFINITION. The commands of the WBD16, one constructor for every row of spec/opcode_table.json, in the table's
order. The table gives the rows no operand bits. The operands here are what an arrival brings from outside the part:

* `dt`: the ticks that have passed since the arrival taken before it (log entry 1). A timer expiry carries none: it
  comes at the expiry tick that State holds. An owner's taking of a request, and the arbiter's beginning of a frame,
  carry none either: they come at the tick of the arrival that made them possible;
* `steady`: for how many ticks the stop line has held its new level since its last transition (R201);
* `line`: the level of the stop line at the tick of a reset (R57, R201);
* the byte, with its stop bit, that the supervisory link has brought (R160), and the bytes the rotor bus has
  brought (R199); none of them, when the bus has fallen idle within a frame (log entry 25).

A request row has no operand of its own: its fields are in the payload that the request slot holds (R165). -/

namespace Sys2Proof

/-- The commands, one a row of spec/opcode_table.json. -/
inductive Instr where
  /-- ZERO_CROSSING_EDGE (R2). -/
  | zeroCrossingEdge (dt : Nat)
  /-- MISSING_EDGE_TIMEOUT (R5). -/
  | missingEdgeTimeout
  /-- STOP_ASSERTION (R52, R201). -/
  | stopAssertion (dt steady : Nat)
  /-- STOP_RELEASE (R53, R201). -/
  | stopRelease (dt steady : Nat)
  /-- POWER_ON (R184). -/
  | powerOn (line : StopLevel)
  /-- SUPPLY_DIP (R184). -/
  | supplyDip (line : StopLevel)
  /-- FRAME_COMPLETED (R163). -/
  | frameCompleted
  /-- GAP_TIMER_EXPIRY (R162). -/
  | gapTimerExpiry
  /-- REPLY_SEND (R170). -/
  | replySend
  /-- REQUEST_SLOT_RELEASE (R171, R186). -/
  | requestSlotRelease (dt : Nat) (line : StopLevel)
  /-- START (R187). -/
  | start
  /-- EVENT_CHANGE (R37). -/
  | eventChange
  /-- ROTOR_CHANGE (R144). -/
  | rotorChange
  /-- ORDER_CHANGE (R114). -/
  | orderChange
  /-- MEASUREMENT_CHANGE (R15). -/
  | measurementChange
  /-- HALT_CHANGE (R37). -/
  | haltChange
  /-- IDENTIFY (R180). -/
  | identify
  /-- STATUS (R179). -/
  | status
  /-- CLEAR_SUMMARY (R178). -/
  | clearSummary
  /-- SET_CLOCK (R174). -/
  | setClock
  /-- SET_MODE (R35). -/
  | setMode
  /-- SET_MEASUREMENT (R17). -/
  | setMeasurement
  /-- SET_EVENT (R55). -/
  | setEvent
  /-- SET_BANK_LIMITS (R31). -/
  | setBankLimits
  /-- SET_CURVE (R26). -/
  | setCurve
  /-- READ_CURVE (R30). -/
  | readCurve
  /-- READ_EVENTS (R56). -/
  | readEvents
  /-- SET_NOTICES (R173). -/
  | setNotices
  /-- RESTART (R185). -/
  | restart
  /-- SNAPSHOT_PART_0 (R181). -/
  | snapshotPart0
  /-- SNAPSHOT_PART_1 (R182). -/
  | snapshotPart1
  /-- ENROL (R125). -/
  | enrol
  /-- RELEASE (R142). -/
  | release
  /-- SPIN_UP (R128). -/
  | spinUp
  /-- PARK (R136). -/
  | park
  /-- RESET_FAULT (R141). -/
  | resetFault
  /-- SET_ROTOR_LIMITS (R72). -/
  | setRotorLimits
  /-- SET_ROTOR_ROLE (R61). -/
  | setRotorRole
  /-- ROTOR_STATUS (R76). -/
  | rotorStatus
  /-- PLACE_ORDER (R99). -/
  | placeOrder
  /-- CANCEL_ORDER (R110). -/
  | cancelOrder
  /-- RESUME_ORDER (R109). -/
  | resumeOrder
  /-- ORDER_STATUS (R112). -/
  | orderStatus
  /-- LIST_ORDERS (R113). -/
  | listOrders
  /-- POLL (R149). -/
  | poll (dt : Nat)
  /-- MODULE_REPLY (R152). -/
  | moduleReply (dt : Nat) (bytes : List Byte)
  /-- REPLY_WINDOW_CLOSE (R154). -/
  | replyWindowClose
  /-- LIFT_TIMER_EXPIRY (R129). -/
  | liftTimerExpiry (slot : Slot)
  /-- SPINUP_TIMER_EXPIRY (R131). -/
  | spinupTimerExpiry (slot : Slot)
  /-- SYNC_TIMER_EXPIRY (R134). -/
  | syncTimerExpiry (slot : Slot)
  /-- LINK_BYTE_RECEIVED (R161). `broken`: its stop bit was found low (R160). -/
  | linkByteReceived (dt : Nat) (byte : Byte) (broken : Bool)
  /-- NOTICE_FRAME_END (R170). -/
  | noticeFrameEnd (dt : Nat)
  /-- SUPPLY_FALL (R184). -/
  | supplyFall (dt : Nat)
deriving DecidableEq, Repr

end Sys2Proof
end

