-- ==== Sys2Proof/Decode.lean ====
section
/-! DEFINITION. Reading a command from a word of bits. No row of spec/opcode_table.json gives bits (each row's
"fields" is empty and none has "fixed"), so no word spells a command (log entry 6). -/

namespace Sys2Proof

/-- The command that a word spells by the opcode table's bits: none, since no row of the table gives bits. -/
def decodeTableWord (_nbits _w : Nat) : Option Instr := none

end Sys2Proof
end

