-- ==== Sys2Proof/Machine/State.lean ====
section
/-! DEFINITION. The state of the WBD16 as plain data: the nine blocks of 00_scope.md, each with the state its chapter
gives it, the tick count, the supply, and the queue of commands that wait. Then what stops a step, and the state after
a POWER_ON reset. Quantities are integers (R1): what the spec gives a sign is an Int, what it does not is a Nat. -/

namespace Sys2Proof.Machine

/-! ## Frequency Measurement Unit (chapter 01) -/

/-- The nominal frequency (R3, R17). -/
inductive Nominal where
  | hz50
  | hz60
deriving DecidableEq, Repr

/-- The measurement state (R9 to R12). -/
inductive MeasState where
  | lost
  | valid
  | holding
deriving DecidableEq, Repr

/-- f, df and rocof together: the held values (R9 to R14) and the reported values (R16). -/
structure Measured where
  f : Int
  df : Int
  rocof : Int
deriving DecidableEq, Repr

/-- The state of the FMU: the table at the head of chapter 01, and the reported values of R16. -/
structure Fmu where
  /-- configuration: nominal frequency (R17) -/
  nominal : Nominal
  /-- configuration: averaging count N, 1 to 8 (R17) -/
  n : Nat
  /-- configuration: rocof window W, 1 to 16 (R17) -/
  w : Nat
  /-- last edge time, absent until an edge is recorded (R2) -/
  lastEdge : Option Tick
  /-- valid-period list, oldest first (R4) -/
  periods : List Nat
  /-- expiry tick of the missing-edge timer, which always runs (R5) -/
  expiry : Tick
  /-- previous sample time (R8) -/
  prevSample : Option Tick
  /-- measurement state -/
  state : MeasState
  /-- regain count, 0 to 7 (R9) -/
  regain : Nat
  /-- invalid count, 0 to 3 (R10, R11) -/
  invalid : Nat
  /-- held values, absent in LOST (R12) -/
  held : Option Measured
  /-- sample history queue, oldest first, at most 17 entries (R13) -/
  history : List (Tick × Int)
  /-- reported values for STATUS (R16) -/
  reported : Measured
deriving DecidableEq, Repr

/-! ## Event Monitor (chapter 03) -/

/-- The bank mode (R34). -/
inductive Mode where
  | idle
  | guard
  | armed
  | event
  | halted
deriving DecidableEq, Repr

/-- The three modes the host chooses among (R34): what SET MODE may name, and what the saved mode may be. -/
inductive HostMode where
  | idle
  | guard
  | armed
deriving DecidableEq, Repr

/-- The edge mode (R40). -/
inductive EdgeMode where
  | underOnly
  | overOnly
  | both
deriving DecidableEq, Repr

/-- A df region (R39). -/
inductive DfRegion where
  | low
  | normal
  | high
deriving DecidableEq, Repr

/-- A rocof region (R39). -/
inductive RocofRegion where
  | slow
  | fast
deriving DecidableEq, Repr

/-- The two regions of a classified sample (R40). -/
structure Regions where
  df : DfRegion
  rocof : RocofRegion
deriving DecidableEq, Repr

/-- The set of triggers of one sample (R40). -/
structure Triggers where
  underHit : Bool
  overHit : Bool
  rocofHit : Bool
deriving DecidableEq, Repr

/-- The end cause of an event (R51). -/
inductive EventEnd where
  | recovered
  | lost
  | stop
deriving DecidableEq, Repr

/-- An energy total in kJ with its residue in units of 10^-4 J (R47, R74). -/
structure Energy where
  kJ : Nat
  residue : Nat
deriving DecidableEq, Repr

/-- An event record (R44). `ended` holds the end time and the end cause, absent while the record is open. -/
structure EventRecord where
  number : Nat
  cause : Triggers
  entryMode : HostMode
  startTime : Nat
  dfAtTrigger : Int
  rocofAtTrigger : Int
  nadir : Int
  zenith : Int
  retriggers : Nat
  discharged : Energy
  absorbed : Energy
  peakUnserved : Nat
  ended : Option (Nat × EventEnd)
deriving DecidableEq, Repr

/-- The state of the EVT: the table at the head of chapter 03. -/
structure Evt where
  /-- bank mode (R34) -/
  mode : Mode
  /-- saved mode, present while the mode is EVENT (R34) -/
  savedMode : Option HostMode
  /-- trigger threshold U, 20 to 3,000 mHz (R55) -/
  uThreshold : Nat
  /-- trigger threshold O, 20 to 3,000 mHz (R55) -/
  oThreshold : Nat
  /-- edge mode (R55) -/
  edgeMode : EdgeMode
  /-- trigger threshold Rt, 0 to 5,000 mHz/s; 0 disables rate-of-change triggering (R39) -/
  rocofThreshold : Nat
  /-- recovery band B, 10 to 1,000 mHz (R55) -/
  band : Nat
  /-- recovery hold H, 0 to 60,000 ms (R55) -/
  hold : Nat
  /-- region memory, none when unknown (R40, R41) -/
  memory : Option Regions
  /-- recovery timer: none when stopped, its start tick when running (R48) -/
  recovery : Option Tick
  /-- event history, oldest first, at most 4 records (R44) -/
  history : List EventRecord
  /-- event number of the latest event opened (R44) -/
  eventNumber : Nat
  /-- stop level as the EVT last took it (R52, R53) -/
  stopLevel : StopLevel
deriving DecidableEq, Repr

/-! ## Dispatch Engine (chapters 02 and 05) -/

/-- A breakpoint of a response curve (R19). -/
structure Breakpoint where
  df : Int
  p : Int
deriving DecidableEq, Repr

/-- The shares and the setpoint of one slot, signed kW (R71). -/
structure Shares where
  f : Int
  o : Int
  n : Int
deriving DecidableEq, Repr

/-- The dispatch record (R90). -/
structure DispatchRecord where
  tick : Tick
  plantTime : Nat
  dt : Nat
  state : MeasState
  df : Option Int
  held : Bool
  rocof : Option Int
  pCurve : Int
  pIn : Int
  demand : Int
  saturated : Bool
  fServed : Nat
  fUnserved : Nat
  orderId : Option Nat
  po : Int
  oServed : Nat
  oUnserved : Nat
  exhausted : Bool
  slots : Vector Shares 16
deriving DecidableEq, Repr

/-- The state of the DSE: the table at the head of chapter 02, and the latest dispatch record (R90, R91). -/
structure Dse where
  /-- active curve, 2 to 12 breakpoints (R19) -/
  curve : List Breakpoint
  /-- pending curve, absent or present while an event holds it back (R28) -/
  pendingCurve : Option (List Breakpoint)
  /-- inertia gain K_in, 0 to 4,000 kW per Hz/s (R21) -/
  kIn : Nat
  /-- Pd_bank, 0 to 8,000 kW (R31) -/
  pdBank : Nat
  /-- Pa_bank, 0 to 8,000 kW (R31) -/
  paBank : Nat
  /-- order SoC floor, per mille (R31) -/
  floor : Nat
  /-- order SoC ceiling, per mille (R31) -/
  ceiling : Nat
  /-- spin-up limit, 60 to 3,600 s (R31) -/
  spinUpLimit : Nat
  /-- latest dispatch record, absent until the first dispatch after a reset (R33, R91) -/
  latest : Option DispatchRecord
deriving DecidableEq, Repr

/-! ## Rotor Table (chapter 04) and Rotor Sequencer (chapter 07) -/

/-- A lifecycle state (R120). -/
inductive RotorState where
  | offline
  | probing
  | parked
  | lifting
  | spinupWait
  | accelerating
  | syncWait
  | syncing
  | online
  | decelerating
  | tripped
deriving DecidableEq, Repr

/-- A lifecycle cause (R121). -/
inductive RotorCause where
  | host
  | stop
  | fault
  | lost
  | moduleRestart
  | liftTimeout
  | spinupTimeout
  | syncFail
  | noModule
deriving DecidableEq, Repr

/-- A module fault code (R58, R190). -/
inductive FaultCode where
  | none
  | overspeed
  | bearing
  | thermal
  | converter
  | internal
deriving DecidableEq, Repr

/-- The roles of a rotor (R60). -/
structure Roles where
  discharge : Bool
  absorb : Bool
  frequency : Bool
  order : Bool
deriving DecidableEq, Repr

/-- The module flags (R58, R190). -/
structure ModuleFlags where
  levitated : Bool
  atRest : Bool
  locked : Bool
  powerCycled : Bool
  limitsAck : Bool
deriving DecidableEq, Repr

/-- A rating and a derate temperature: the applied pair, the staged pair, the pair a poll offers (R72, R73). -/
structure Limits where
  rating : Nat
  derate : Nat
deriving DecidableEq, Repr

/-- A rotor record (R58). Where R58 gives a field as absent in an OFFLINE slot, the field of an OFFLINE record here
holds the value that R77 has it read as: zero, clear or empty. -/
structure RotorRecord where
  state : RotorState
  cause : Option RotorCause
  group : Fin 4
  roles : Roles
  /-- applied rating, kW, and applied derate temperature, °C -/
  limits : Limits
  eCap : Nat
  smin : Nat
  sbase : Nat
  smax : Nat
  /-- staged pair, present while a change awaits acknowledgement (R72) -/
  staged : Option Limits
  speed : Nat
  actualPower : Int
  temperature : Int
  flags : ModuleFlags
  faultCode : FaultCode
  lateCount : Nat
  soc : Nat
  ld : Nat
  la : Nat
  derated : Bool
  shares : Shares
  attempts : Nat
  review : Bool
  latched : FaultCode
  discharged : Energy
  absorbed : Energy
  /-- the probe result: set is NO_MODULE (R65) -/
  probeNoModule : Bool
deriving DecidableEq, Repr

/-- The state of the RSQ beside the fields it writes in the rotor records: the table at the head of chapter 07. The set
of spin-up slots is the set of slots in ACCELERATING and is computed from the records (`accelerating`, Ops). -/
structure Rsq where
  /-- spin-up queue, oldest first (R130) -/
  spinUpQueue : List Slot
  /-- sync queue, oldest first (R132) -/
  syncQueue : List Slot
  /-- sync unit: free, or busy with one slot (R133) -/
  syncUnit : Option Slot
  /-- rotor timer of each slot: stopped, or running with an expiry tick (R124) -/
  timers : Vector (Option Tick) 16
  /-- ROTOR CHANGE set, ascending (R144) -/
  changed : List Slot
deriving DecidableEq, Repr

/-! ## Rotor Bus Interface (chapter 08) -/

/-- The command of a poll (R150, R199). -/
inductive PollCommand where
  | ident
  | hold
  | lift
  | motor
  | sync
  | setpoint
  | brake
  | coast
deriving DecidableEq, Repr

/-- A round in progress (R148): its carried setpoints, and the turns of its slot part and probe part that are still
to come. The round's position is what stands at the head of the two. -/
structure Round where
  setpoints : Vector Int 16
  slotPart : List Slot
  probePart : List Slot
deriving DecidableEq, Repr

/-- The poll in flight (R146, R149, R151, R158). -/
structure Poll where
  slot : Slot
  tag : Byte
  command : PollCommand
  /-- the setpoint the poll carries, 0 for every command but SETPOINT (R199) -/
  setpoint : Int
  /-- the pair offered with the poll (R73) -/
  offered : Option Limits
  /-- the tick at which the reply window closes (R152) -/
  windowClose : Tick
  /-- set when a RELEASE was accepted while the poll was in flight (R158) -/
  abandoned : Bool
deriving DecidableEq, Repr

/-- The state of the RBI: the table at the head of chapter 08. -/
structure Rbi where
  round : Option Round
  /-- the setpoints of the newest dispatch result not yet carried (R147) -/
  pendingResult : Option (Vector Int 16)
  /-- pending probes, ascending (R155) -/
  pendingProbes : List Slot
  inFlight : Option Poll
  /-- per slot, the tag of the most recent poll (R151) -/
  tags : Vector Byte 16
  /-- the bytes, from its 0xB2 on, of the frame that is being received on the bus; none while the bus is quiet (R146,
  R199) -/
  assembly : List Byte
deriving DecidableEq, Repr

/-! ## Order List (chapter 06) -/

/-- The direction of an order (R96). -/
inductive Direction where
  | discharge
  | absorb
deriving DecidableEq, Repr

/-- The kind of a repeat condition (R105). -/
inductive RepeatCondition where
  | always
  | above
  | below
deriving DecidableEq, Repr

/-- The repeat part of an order (R96, R98). -/
structure Repeat where
  count : Nat
  condition : RepeatCondition
  x : Nat
deriving DecidableEq, Repr

/-- The suspend cause (R97). -/
inductive SuspendCause where
  | event
  | exhausted
deriving DecidableEq, Repr

/-- The end causes of DONE (R104). -/
inductive DoneCause where
  | quota
  | condition
deriving DecidableEq, Repr

/-- The end causes of CANCELLED (R110, R111). -/
inductive CancelCause where
  | host
  | stop
deriving DecidableEq, Repr

/-- An order's state with its suspend or end cause (R97). EXPIRED has the one end cause DEADLINE. -/
inductive OrderStatus where
  | waiting
  | active
  | suspended (cause : SuspendCause)
  | done (cause : DoneCause)
  | expired
  | cancelled (cause : CancelCause)
deriving DecidableEq, Repr

/-- An order record (R96). Times are plant times in ms; `remaining` and `delivered` are in J, `quota` in kJ. -/
structure Order where
  id : Nat
  direction : Direction
  group : Fin 4
  power : Nat
  quota : Nat
  remaining : Nat
  residue : Nat
  startTime : Option Nat
  deadline : Option Nat
  repeats : Option Repeat
  status : OrderStatus
  placed : Nat
  activated : Option Nat
  ended : Option Nat
  delivered : Nat
deriving DecidableEq, Repr

/-- The state of the ORL (R95, R114). -/
structure Orl where
  /-- the records in placement order, oldest first -/
  orders : List Order
  /-- ORDER CHANGE set: ids, each once -/
  changed : List Nat
deriving DecidableEq, Repr

/-! ## Link Interface (chapter 09) -/

/-- The notice kinds (R172). -/
inductive NoticeKind where
  | start
  | event
  | rotor
  | order
  | measurement
  | halt
deriving DecidableEq, Repr

/-- A subset of the six notice kinds: the pending notice set and the notice mask (R172, R173). -/
structure NoticeSet where
  start : Bool
  event : Bool
  rotor : Bool
  order : Bool
  measurement : Bool
  halt : Bool
deriving DecidableEq, Repr

/-- The receiver (R161): hunting; assembling, with the bytes taken from START on; or with a frame whose last byte has
been taken and whose CRC is still to be checked (log entry 7). -/
inductive Receiver where
  | hunting
  | assembling (bytes : List Byte)
  | complete (bytes : List Byte)
deriving DecidableEq, Repr

/-- The request in the request slot (R165). `taken`: its reply has been formed, so its owner does not take it again. -/
structure Request where
  kind : Byte
  tag : Byte
  payload : List Byte
  taken : Bool
deriving DecidableEq, Repr

/-- The frame the transmitter is sending: a reply or a notice (R170). -/
structure Sending where
  frame : List Byte
  isReply : Bool
deriving DecidableEq, Repr

/-- The state of the LIF: the table at the head of chapter 09. -/
structure Lif where
  receiver : Receiver
  /-- gap timer: stopped, or running with an expiry tick (R162) -/
  gapExpiry : Option Tick
  /-- request slot (R165) -/
  slot : Option Request
  /-- waiting reply: the frame formed and not yet begun (R169, R170) -/
  waiting : Option (List Byte)
  /-- transmitter: free, or busy sending one frame (R170) -/
  sending : Option Sending
  pendingNotices : NoticeSet
  mask : NoticeSet
  gapCount : Nat
  crcCount : Nat
  overrunCount : Nat
  overrunMark : Bool
deriving DecidableEq, Repr

/-! ## Status Unit (chapter 10) -/

/-- The sticky summary flags (R177). -/
structure Summary where
  saturated : Bool
  unserved : Bool
  rotorTrip : Bool
  counter : Bool
  linkError : Bool
  overrun : Bool
deriving DecidableEq, Repr

/-- The cause of the latest reset (R184). -/
inductive ResetCause where
  | powerOn
  | supplyDip
  | restart
deriving DecidableEq, Repr

/-- A snapshot capture (R181): the bank header and the sixteen rotor snapshot records, in the bytes that carry them. -/
structure Capture where
  header : List Byte
  records : Vector (List Byte) 16
deriving DecidableEq, Repr

/-- The state of the STU: the table at the head of chapter 10. The identity is fixed in the part. -/
structure Stu where
  flags : Summary
  capture : Option Capture
  resetCause : ResetCause
  restartPending : Bool
  /-- plant-time offset, signed ms (R174) -/
  offset : Int
deriving DecidableEq, Repr

/-! ## The whole part -/

/-- The supply (R184): at or above the operating level, or below it, where the part is held in reset. -/
inductive Supply where
  | up
  | down
deriving DecidableEq, Repr

/-- The state of the machine: the blocks, the tick count, the supply, and the commands that wait, first in first
out. -/
structure State where
  tickCount : Tick
  supply : Supply
  fmu : Fmu
  evt : Evt
  dse : Dse
  rotors : Vector RotorRecord 16
  rsq : Rsq
  rbi : Rbi
  orl : Orl
  lif : Lif
  stu : Stu
  pending : List Instr
deriving DecidableEq, Repr

/-- What stops the machine with a fault: nothing does. No rule of the spec describes a fault of the part: every
arrival is taken, refused by a reply code, discarded, or finds nothing to act on, and the part goes on (log entry 8).
The type has no constructor, so that no claim about a fault can be made. -/
inductive Fault where
deriving DecidableEq, Repr

/-- Why exec has no meaning for a command. -/
inductive Refusal where
  /-- Raised by exec alone, for a command whose meaning is not written. Safe: the machine stops. No arm raises it. -/
  | notModelled (mnemonic : String)
deriving DecidableEq, Repr

/-! ## Reset values -/

/-- The FMU after a reset that takes effect at a tick (R18). -/
def Fmu.reset (tick : Tick) : Fmu where
  nominal := .hz50
  n := 4
  w := 4
  lastEdge := none
  periods := []
  expiry := tick + 400000
  prevSample := none
  state := .lost
  regain := 0
  invalid := 0
  held := none
  history := []
  reported := ⟨0, 0, 0⟩

/-- The EVT after a reset, before it takes the level of the stop line (R57). -/
def Evt.reset : Evt where
  mode := .idle
  savedMode := none
  uThreshold := 200
  oThreshold := 200
  edgeMode := .both
  rocofThreshold := 0
  band := 50
  hold := 10000
  memory := none
  recovery := none
  history := []
  eventNumber := 0
  stopLevel := .released

/-- The DSE after a reset: the reset curve of R19 and the values of R33. -/
def Dse.reset : Dse where
  curve := [⟨-5000, 0⟩, ⟨5000, 0⟩]
  pendingCurve := none
  kIn := 0
  pdBank := 0
  paBank := 0
  floor := 200
  ceiling := 900
  spinUpLimit := 900
  latest := none

/-- No role, no module flag, no energy, no share. -/
def Roles.none : Roles := ⟨false, false, false, false⟩
/-- No module flag. -/
def ModuleFlags.none : ModuleFlags := ⟨false, false, false, false, false⟩
/-- No energy and no residue. -/
def Energy.zero : Energy := ⟨0, 0⟩
/-- No share and setpoint 0. -/
def Shares.zero : Shares := ⟨0, 0, 0⟩

/-- The record of an empty slot: OFFLINE, no cause, no probe result, every other field reading zero, clear or empty
(R77). -/
def RotorRecord.empty : RotorRecord where
  state := .offline
  cause := Option.none
  group := 0
  roles := Roles.none
  limits := ⟨0, 0⟩
  eCap := 0
  smin := 0
  sbase := 0
  smax := 0
  staged := Option.none
  speed := 0
  actualPower := 0
  temperature := 0
  flags := ModuleFlags.none
  faultCode := .none
  lateCount := 0
  soc := 0
  ld := 0
  la := 0
  derated := false
  shares := Shares.zero
  attempts := 0
  review := false
  latched := .none
  discharged := Energy.zero
  absorbed := Energy.zero
  probeNoModule := false

/-- The RSQ after a reset (R145). -/
def Rsq.reset : Rsq where
  spinUpQueue := []
  syncQueue := []
  syncUnit := none
  timers := Vector.ofFn fun _ => none
  changed := []

/-- The RBI after a reset (R159). -/
def Rbi.reset : Rbi where
  round := none
  pendingResult := none
  pendingProbes := []
  inFlight := none
  tags := Vector.ofFn fun _ => 0
  assembly := []

/-- The ORL after a reset (R118). -/
def Orl.reset : Orl where
  orders := []
  changed := []

/-- No notice kind. -/
def NoticeSet.none : NoticeSet := ⟨false, false, false, false, false, false⟩
/-- All six notice kinds. -/
def NoticeSet.all : NoticeSet := ⟨true, true, true, true, true, true⟩
/-- START alone. -/
def NoticeSet.startOnly : NoticeSet := ⟨true, false, false, false, false, false⟩

/-- The LIF after a reset with the stop line released: START alone is pending (R176, R187). -/
def Lif.reset : Lif where
  receiver := .hunting
  gapExpiry := none
  slot := none
  waiting := none
  sending := none
  pendingNotices := NoticeSet.startOnly
  mask := NoticeSet.all
  gapCount := 0
  crcCount := 0
  overrunCount := 0
  overrunMark := false

/-- No summary flag. -/
def Summary.none : Summary := ⟨false, false, false, false, false, false⟩

/-- The STU after a reset with a cause (R188). -/
def Stu.reset (cause : ResetCause) : Stu where
  flags := Summary.none
  capture := none
  resetCause := cause
  restartPending := false
  offset := 0

/-- Every block in the reset state its chapter gives, at a tick, for a cause, with the stop line released (R184). -/
def State.blocksReset (cause : ResetCause) (tick : Tick) (queue : List Instr) : State where
  tickCount := tick
  supply := .up
  fmu := Fmu.reset tick
  evt := Evt.reset
  dse := Dse.reset
  rotors := Vector.ofFn fun _ => RotorRecord.empty
  rsq := Rsq.reset
  rbi := Rbi.reset
  orl := Orl.reset
  lif := Lif.reset
  stu := Stu.reset cause
  pending := queue

/-- The machine right after a POWER_ON reset that found the stop line released (R184; the level of the line is an
input, log entry 9), at tick 0, with no command waiting. -/
def State.reset : State := State.blocksReset .powerOn 0 []

/-! ## Named updates: one a field of State. Their lemmas are in Laws/State.lean. -/

/-- s with its tickCount replaced. -/
def State.withTick (s : State) (x : Tick) : State := { s with tickCount := x }

/-- s with its supply replaced. -/
def State.withSupply (s : State) (x : Supply) : State := { s with supply := x }

/-- s with its fmu replaced. -/
def State.withFmu (s : State) (x : Fmu) : State := { s with fmu := x }

/-- s with its evt replaced. -/
def State.withEvt (s : State) (x : Evt) : State := { s with evt := x }

/-- s with its dse replaced. -/
def State.withDse (s : State) (x : Dse) : State := { s with dse := x }

/-- s with its rotors replaced. -/
def State.withRotors (s : State) (x : Vector RotorRecord 16) : State := { s with rotors := x }

/-- s with its rsq replaced. -/
def State.withRsq (s : State) (x : Rsq) : State := { s with rsq := x }

/-- s with its rbi replaced. -/
def State.withRbi (s : State) (x : Rbi) : State := { s with rbi := x }

/-- s with its orl replaced. -/
def State.withOrl (s : State) (x : Orl) : State := { s with orl := x }

/-- s with its lif replaced. -/
def State.withLif (s : State) (x : Lif) : State := { s with lif := x }

/-- s with its stu replaced. -/
def State.withStu (s : State) (x : Stu) : State := { s with stu := x }

/-- s with its pending replaced. -/
def State.withPending (s : State) (x : List Instr) : State := { s with pending := x }

end Sys2Proof.Machine
end

