-- ==== Sys2Proof/Machine/Flags.lean ====
section
/-! DEFINITION. The sticky summary flags (R177) and the pending notice set with its mask (R172, R173): how a block raises
a flag and how it adds a notice. -/

namespace Sys2Proof.Machine

/-- The sticky summary flags (R177). -/
inductive SummaryFlag where
  | saturated
  | unserved
  | rotorTrip
  | counter
  | linkError
  | overrun
deriving DecidableEq, Repr

/-- The flags with one of them set. -/
def Summary.raise (f : Summary) : SummaryFlag → Summary
  | .saturated => { f with saturated := true }
  | .unserved => { f with unserved := true }
  | .rotorTrip => { f with rotorTrip := true }
  | .counter => { f with counter := true }
  | .linkError => { f with linkError := true }
  | .overrun => { f with overrun := true }

/-- Whether any flag is set: the SUMMARY mark of the status byte (R169). -/
def Summary.any (f : Summary) : Bool :=
  f.saturated || f.unserved || f.rotorTrip || f.counter || f.linkError || f.overrun

/-- Whether a kind is in a set. -/
def NoticeSet.has (n : NoticeSet) : NoticeKind → Bool
  | .start => n.start
  | .event => n.event
  | .rotor => n.rotor
  | .order => n.order
  | .measurement => n.measurement
  | .halt => n.halt

/-- A set with a kind put in or taken out. -/
def NoticeSet.put (n : NoticeSet) (b : Bool) : NoticeKind → NoticeSet
  | .start => { n with start := b }
  | .event => { n with event := b }
  | .rotor => { n with rotor := b }
  | .order => { n with order := b }
  | .measurement => { n with measurement := b }
  | .halt => { n with halt := b }

/-- The kinds in both sets. -/
def NoticeSet.inter (a b : NoticeSet) : NoticeSet :=
  ⟨a.start && b.start, a.event && b.event, a.rotor && b.rotor, a.order && b.order, a.measurement && b.measurement,
   a.halt && b.halt⟩

/-- The kinds in the order the arbiter takes them, the lowest first (R170). -/
def noticeKinds : List NoticeKind := [.start, .event, .rotor, .order, .measurement, .halt]

/-- The pending notice of the lowest kind (R170). -/
def NoticeSet.lowest (n : NoticeSet) : Option NoticeKind := noticeKinds.find? n.has

/-- Whether any kind is in a set: the NOTICE_PENDING mark of the status byte (R169). -/
def NoticeSet.any (n : NoticeSet) : Bool := n.lowest.isSome

/-- The block raises a sticky flag in the STU (R177). -/
def State.raise (s : State) (f : SummaryFlag) : State := s.withStu { s.stu with flags := s.stu.flags.raise f }

/-- A flag raised when a condition holds, left as it stood otherwise (R24, R83). -/
def State.raiseIf (s : State) (b : Bool) (f : SummaryFlag) : State := if b then s.raise f else s

/-- An owner adds a notice kind: a kind that is not enabled in the mask is not added (R172). -/
def State.addNotice (s : State) (k : NoticeKind) : State :=
  if s.lif.mask.has k then s.withLif { s.lif with pendingNotices := s.lif.pendingNotices.put true k } else s

/-- A notice added when a condition holds. -/
def State.addNoticeIf (s : State) (b : Bool) (k : NoticeKind) : State := if b then s.addNotice k else s

end Sys2Proof.Machine
end

