-- ==== Sys2Proof/Config.lean ====
section
/-! DEFINITION. What the spec leaves to the part: constants with no body, of which nothing can be proved but that they
are the same in every state. -/

namespace Sys2Proof

/-- The revision byte that IDENTIFY returns. R180 and R192 fix its place and its one-byte width and say that it is
fixed in the part; no rule states the value (log entry 5). -/
opaque Config.revision : Byte

end Sys2Proof
end

