-- ==== Sys2Proof/Machine/Operands.lean ====
section
/-! DEFINITION. How values are carried in bytes: the field encoding of R189, the codes of R190 and R191, the check value
of R163 and R199, and the frames of the two serial lines. -/

namespace Sys2Proof.Machine

/-! ## Fields, most significant byte first (R189) -/

/-- A number in n bytes, most significant byte first. -/
def beBytes : Nat → Nat → List Byte
  | 0, _ => []
  | n + 1, v => BitVec.ofNat 8 (v / 256 ^ n) :: beBytes n v

/-- A signed number in n bytes, two's complement. -/
def beIntBytes (n : Nat) (v : Int) : List Byte := beBytes n (v % (256 ^ n : Nat)).toNat

/-- The number that bytes carry, most significant byte first. -/
def beNat (bytes : List Byte) : Nat := bytes.foldl (fun acc b => acc * 256 + b.toNat) 0

/-- The signed number that bytes carry. -/
def beInt (bytes : List Byte) : Int :=
  if 2 * beNat bytes < 256 ^ bytes.length then (beNat bytes : Int)
  else (beNat bytes : Int) - (256 ^ bytes.length : Nat)

/-- An unsigned field of a payload. -/
def field (payload : List Byte) (offset len : Nat) : Nat := beNat ((payload.drop offset).take len)

/-- A signed field of a payload. -/
def signedField (payload : List Byte) (offset len : Nat) : Int := beInt ((payload.drop offset).take len)

/-- A one-byte field. -/
def byteOf (v : Nat) : Byte := BitVec.ofNat 8 v

/-- A bit of a byte, at its place. -/
def bitAt (place : Nat) (b : Bool) : Nat := if b then 2 ^ place else 0

/-! ## Clamping (00_scope.md; R168) -/

/-- A natural number clamped to a range. -/
def clampNat (lo hi v : Nat) : Nat := max lo (min hi v)

/-- An integer clamped to a range. -/
def clampInt (lo hi v : Int) : Int := max lo (min hi v)

/-! ## Codes (R190) -/

def modeCode : Mode → Nat
  | .idle => 0
  | .guard => 1
  | .armed => 2
  | .event => 3
  | .halted => 4

def hostModeCode : HostMode → Nat
  | .idle => 0
  | .guard => 1
  | .armed => 2

def hostModeOfCode : Nat → Option HostMode
  | 0 => some .idle
  | 1 => some .guard
  | 2 => some .armed
  | _ => none

def measStateCode : MeasState → Nat
  | .lost => 0
  | .valid => 1
  | .holding => 2

def nominalOfCode : Nat → Option Nominal
  | 50 => some .hz50
  | 60 => some .hz60
  | _ => none

def edgeModeOfCode : Nat → Option EdgeMode
  | 1 => some .underOnly
  | 2 => some .overOnly
  | 3 => some .both
  | _ => none

def rotorStateCode : RotorState → Nat
  | .offline => 0
  | .probing => 1
  | .parked => 2
  | .lifting => 3
  | .spinupWait => 4
  | .accelerating => 5
  | .syncWait => 6
  | .syncing => 7
  | .online => 8
  | .decelerating => 9
  | .tripped => 10

def rotorCauseCode : Option RotorCause → Nat
  | none => 0
  | some .host => 1
  | some .stop => 2
  | some .fault => 3
  | some .lost => 4
  | some .moduleRestart => 5
  | some .liftTimeout => 6
  | some .spinupTimeout => 7
  | some .syncFail => 8
  | some .noModule => 9

def faultCodeCode : FaultCode → Nat
  | .none => 0
  | .overspeed => 1
  | .bearing => 2
  | .thermal => 3
  | .converter => 4
  | .internal => 5

/-- A fault code as a module reports it; one above 5 is stored as INTERNAL (R62, R199). -/
def faultCodeOfByte (b : Byte) : FaultCode :=
  match b.toNat with
  | 0 => .none
  | 1 => .overspeed
  | 2 => .bearing
  | 3 => .thermal
  | 4 => .converter
  | _ => .internal

def rolesByte (r : Roles) : Byte :=
  byteOf (bitAt 0 r.discharge + bitAt 1 r.absorb + bitAt 2 r.frequency + bitAt 3 r.order)

/-- The roles a byte names; none where it names a role outside the four (R59, R61, R189). -/
def rolesOfByte (b : Byte) : Option Roles :=
  if b.toNat < 16 then some ⟨b.getLsbD 0, b.getLsbD 1, b.getLsbD 2, b.getLsbD 3⟩ else none

/-- The group a byte names (R59, R61, R98). -/
def groupOfCode (v : Nat) : Option (Fin 4) := if h : v < 4 then some ⟨v, h⟩ else none

/-- The slot a byte names (R61, R72, R76, R125, R128, R136, R141, R142). -/
def slotOfCode (v : Nat) : Option Slot := if h : v < 16 then some ⟨v, h⟩ else none

def moduleFlagsByte (m : ModuleFlags) : Byte :=
  byteOf (bitAt 0 m.levitated + bitAt 1 m.atRest + bitAt 2 m.locked + bitAt 3 m.powerCycled + bitAt 4 m.limitsAck)

/-- The module flags of a reply; bits above bit 4 are ignored (R199). -/
def moduleFlagsOfByte (b : Byte) : ModuleFlags :=
  ⟨b.getLsbD 0, b.getLsbD 1, b.getLsbD 2, b.getLsbD 3, b.getLsbD 4⟩

def directionCode : Direction → Nat
  | .discharge => 1
  | .absorb => 2

def directionOfCode : Nat → Option Direction
  | 1 => some .discharge
  | 2 => some .absorb
  | _ => none

def conditionCode : RepeatCondition → Nat
  | .always => 1
  | .above => 2
  | .below => 3

def conditionOfCode : Nat → Option RepeatCondition
  | 1 => some .always
  | 2 => some .above
  | 3 => some .below
  | _ => none

def orderStateCode : OrderStatus → Nat
  | .waiting => 0
  | .active => 1
  | .suspended _ => 2
  | .done _ => 3
  | .expired => 4
  | .cancelled _ => 5

def orderCauseCode : OrderStatus → Nat
  | .waiting => 0
  | .active => 0
  | .suspended .event => 1
  | .suspended .exhausted => 2
  | .done .quota => 3
  | .done .condition => 4
  | .expired => 5
  | .cancelled .host => 6
  | .cancelled .stop => 7

def triggersByte (t : Triggers) : Byte := byteOf (bitAt 0 t.underHit + bitAt 1 t.overHit + bitAt 2 t.rocofHit)

def eventEndCode : EventEnd → Nat
  | .recovered => 1
  | .lost => 2
  | .stop => 3

/-- The mask a byte names; none where it names a kind outside the six (R173, R190). -/
def noticeSetOfByte (b : Byte) : Option NoticeSet :=
  if b.toNat < 64 then
    some ⟨b.getLsbD 0, b.getLsbD 1, b.getLsbD 2, b.getLsbD 3, b.getLsbD 4, b.getLsbD 5⟩
  else none

def summaryByte (f : Summary) : Byte :=
  byteOf (bitAt 0 f.saturated + bitAt 1 f.unserved + bitAt 2 f.rotorTrip + bitAt 3 f.counter + bitAt 4 f.linkError +
    bitAt 5 f.overrun)

def resetCauseCode : ResetCause → Nat
  | .powerOn => 1
  | .supplyDip => 2
  | .restart => 3

def stopLevelCode : StopLevel → Nat
  | .released => 0
  | .asserted => 1

def pollCommandCode : PollCommand → Nat
  | .ident => 1
  | .hold => 2
  | .lift => 3
  | .motor => 4
  | .sync => 5
  | .setpoint => 6
  | .brake => 7
  | .coast => 8

/-! ## Kinds and result codes of the link (catalogue of chapter 09; R168, R191) -/

/-- The request kinds of the catalogue. -/
inductive RequestKind where
  | identify
  | status
  | clearSummary
  | setClock
  | setMode
  | setMeasurement
  | setEvent
  | setBankLimits
  | setCurve
  | readCurve
  | readEvents
  | setNotices
  | restart
  | snapshot
  | enrol
  | release
  | spinUp
  | park
  | resetFault
  | setRotorLimits
  | setRotorRole
  | rotorStatus
  | placeOrder
  | cancelOrder
  | resumeOrder
  | orderStatus
  | listOrders
deriving DecidableEq, Repr

/-- The KIND byte of a request. -/
def requestKindByte : RequestKind → Byte
  | .identify => 0x01
  | .status => 0x02
  | .clearSummary => 0x03
  | .setClock => 0x04
  | .setMode => 0x05
  | .setMeasurement => 0x06
  | .setEvent => 0x07
  | .setBankLimits => 0x08
  | .setCurve => 0x09
  | .readCurve => 0x0A
  | .readEvents => 0x0B
  | .setNotices => 0x0C
  | .restart => 0x0D
  | .snapshot => 0x0E
  | .enrol => 0x20
  | .release => 0x21
  | .spinUp => 0x22
  | .park => 0x23
  | .resetFault => 0x24
  | .setRotorLimits => 0x25
  | .setRotorRole => 0x26
  | .rotorStatus => 0x27
  | .placeOrder => 0x40
  | .cancelOrder => 0x41
  | .resumeOrder => 0x42
  | .orderStatus => 0x43
  | .listOrders => 0x44

/-- Every request kind, in the catalogue's order. -/
def requestKinds : List RequestKind :=
  [.identify, .status, .clearSummary, .setClock, .setMode, .setMeasurement, .setEvent, .setBankLimits, .setCurve,
   .readCurve, .readEvents, .setNotices, .restart, .snapshot, .enrol, .release, .spinUp, .park, .resetFault,
   .setRotorLimits, .setRotorRole, .rotorStatus, .placeOrder, .cancelOrder, .resumeOrder, .orderStatus, .listOrders]

/-- The request kind that a KIND byte names, if any (R167). -/
def requestKindOfByte (b : Byte) : Option RequestKind := requestKinds.find? fun k => requestKindByte k == b

/-- The payload length fixed for a kind; none for SET CURVE and PLACE ORDER (R167, R192). -/
def fixedLength : RequestKind → Option Nat
  | .identify => some 0
  | .status => some 0
  | .clearSummary => some 0
  | .setClock => some 6
  | .setMode => some 1
  | .setMeasurement => some 3
  | .setEvent => some 13
  | .setBankLimits => some 10
  | .setCurve => none
  | .readCurve => some 0
  | .readEvents => some 0
  | .setNotices => some 1
  | .restart => some 0
  | .snapshot => some 1
  | .enrol => some 16
  | .release => some 1
  | .spinUp => some 1
  | .park => some 1
  | .resetFault => some 1
  | .setRotorLimits => some 4
  | .setRotorRole => some 3
  | .rotorStatus => some 2
  | .placeOrder => none
  | .cancelOrder => some 2
  | .resumeOrder => some 2
  | .orderStatus => some 2
  | .listOrders => some 0

/-- The KIND byte of a notice: 0x60 + n (R190). -/
def noticeKindByte : NoticeKind → Byte
  | .start => 0x60
  | .event => 0x61
  | .rotor => 0x62
  | .order => 0x63
  | .measurement => 0x64
  | .halt => 0x65

/-- The result codes (R168). -/
inductive ResultCode where
  | ok
  | clamped
  | badKind
  | badLength
  | badValue
  | inconsistent
  | wrongState
  | occupied
  | noSuch
  | full
  | duplicate
  | tooLate
  | inEvent
  | halted
  | notIdle
  | noSnapshot
deriving DecidableEq, Repr

/-- The byte of a result code (R191). -/
def resultCodeByte : ResultCode → Byte
  | .ok => 0x00
  | .clamped => 0x01
  | .badKind => 0x10
  | .badLength => 0x11
  | .badValue => 0x12
  | .inconsistent => 0x13
  | .wrongState => 0x20
  | .occupied => 0x21
  | .noSuch => 0x22
  | .full => 0x23
  | .duplicate => 0x24
  | .tooLate => 0x25
  | .inEvent => 0x26
  | .halted => 0x27
  | .notIdle => 0x28
  | .noSnapshot => 0x29

/-- The result of an accepted request: CLAMPED when a field was clamped, OK when none was (R168). -/
def acceptedCode (clamped : Bool) : ResultCode := if clamped then .clamped else .ok

/-! ## The check value and the frames (R163, R191, R199) -/

/-- One bit of the check: the polynomial x^16 + x^12 + x^5 + 1, most significant bit first (R163). -/
def crcBit (c : BitVec 16) : BitVec 16 := if c.getLsbD 15 then (c <<< 1) ^^^ 0x1021#16 else c <<< 1

/-- One byte of the check. -/
def crcByte (c : BitVec 16) (b : Byte) : BitVec 16 :=
  crcBit (crcBit (crcBit (crcBit (crcBit (crcBit (crcBit (crcBit (c ^^^ (b.zeroExtend 16 <<< 8)))))))))

/-- The check of bytes, from the initial value 0xFFFF, neither reflected nor inverted (R163). -/
def crc (bytes : List Byte) : BitVec 16 := bytes.foldl crcByte 0xFFFF#16

/-- The check value as it is sent, high byte first. -/
def crcBytes (bytes : List Byte) : List Byte := beBytes 2 (crc bytes).toNat

/-- A frame of the supervisory link (R161, R191). -/
def linkFrame (kind tag : Byte) (payload : List Byte) : List Byte :=
  0xC3#8 :: (kind :: tag :: byteOf payload.length :: payload) ++ crcBytes (kind :: tag :: byteOf payload.length :: payload)

/-- The bytes of a link frame that its CRC covers: all but START and the two CRC bytes (R163). -/
def coveredBytes (frame : List Byte) : List Byte := (frame.drop 1).take (frame.length - 3)

/-- A completed link frame whose two CRC bytes agree with its covered bytes (R163). -/
def linkFrameAgrees (frame : List Byte) : Bool := frame.drop (frame.length - 2) == crcBytes (coveredBytes frame)

/-- The twelve bytes of a poll (R199). -/
def pollFrame (p : Poll) : List Byte :=
  let body := [0xB1#8, byteOf p.slot.val, p.tag, byteOf (pollCommandCode p.command)] ++ beIntBytes 2 p.setpoint ++
    [0#8, byteOf (bitAt 0 p.offered.isSome),
     byteOf (match p.offered with | some l => l.rating / 2 | none => 0),
     byteOf (match p.offered with | some l => l.derate | none => 0)]
  body ++ crcBytes body

/-- What a reply frame of the rotor bus carries (R199). -/
structure ModuleReport where
  slot : Slot
  tag : Byte
  speed : Nat
  actualPower : Int
  temperature : Int
  flags : ModuleFlags
  faultCode : FaultCode
deriving DecidableEq, Repr

/-- Received bytes from their first 0xB2 on: those before it are discarded (R199). -/
def replyBytesFrom (bytes : List Byte) : List Byte := bytes.dropWhile fun b => b != 0xB2#8

/-- The twelve bytes that the RBI assembles from received bytes: a 0xB2 and the eleven bytes after it; fewer than twelve
make no frame (R199). -/
def assembleReply (bytes : List Byte) : Option (List Byte) :=
  let frame := (replyBytesFrom bytes).take 12
  if frame.length = 12 then some frame else none

/-- The report of a frame that passes the frame check: type byte 0xB2, slot byte 0 to 15, check agreeing (R199). -/
def readReply (frame : List Byte) : Option ModuleReport :=
  match slotOfCode (field frame 1 1) with
  | none => none
  | some slot =>
    if frame.length = 12 ∧ frame.take 1 = [0xB2#8] ∧ frame.drop 10 = crcBytes (frame.take 10) then
      some
        { slot := slot
          tag := byteOf (field frame 2 1)
          speed := field frame 3 2
          actualPower := signedField frame 5 2
          temperature := signedField frame 7 1
          flags := moduleFlagsOfByte (byteOf (field frame 8 1))
          faultCode := faultCodeOfByte (byteOf (field frame 9 1)) }
    else none

end Sys2Proof.Machine
end

