-- ==== Sys2Proof/Machine/Ops.lean ====
section
/-! DEFINITION. Shared operations: time, plant time, energy counting, access to the rotor records, the sets of slots, and
what every command does first: find the part in reset, or take its time. -/

namespace Sys2Proof.Machine

/-! ## Time (00_scope.md, Units; R174, R184) -/

/-- The ticks from one tick to a later one, on the free-running 64-bit count (log entry 2). -/
def ticksFrom (earlier later : Tick) : Nat := (later - earlier).toNat

/-- The tick that lies a number of ticks after another. -/
def tickAfter (t : Tick) (dt : Nat) : Tick := t + BitVec.ofNat 64 dt

/-- Whether a tick lies at or after another: less than half the count's range ahead of it (log entry 2). -/
def notBefore (t earlier : Tick) : Bool := decide (ticksFrom earlier t < 2 ^ 63)

/-- The tick count runs on by dt ticks (log entry 1). -/
def State.advance (s : State) (dt : Nat) : State := s.withTick (tickAfter s.tickCount dt)

/-- The tick count runs on to an expiry tick. It never runs back (log entry 3). -/
def State.advanceTo (s : State) (t : Tick) : State := if notBefore t s.tickCount then s.withTick t else s

/-- Ticks in a millisecond of plant time. -/
def ticksPerMs : Nat := 10000

/-- The largest plant time, 2^48 - 1 ms (R174). -/
def maxPlantTime : Nat := 2 ^ 48 - 1

/-- Plant time at a tick: the tick count divided by 10,000 plus the offset, limited to 0 to 2^48 - 1 (R174). -/
def State.plantTimeAt (s : State) (t : Tick) : Nat :=
  (clampInt 0 maxPlantTime ((t.toNat / ticksPerMs : Nat) + s.stu.offset)).toNat

/-- The present plant time (R99, R174). -/
def State.plantTime (s : State) : Nat := s.plantTimeAt s.tickCount

/-! ## Commands and the held reset (R184) -/

/-- Every command that is not a rise of the supply: while the supply lies below the operating level the part takes no
arrival (R184). Otherwise the part does what the command says. -/
def State.taking (s : State) (f : State → State) : Host.Outcome State Fault Refusal :=
  match s.supply with
  | .down => .next s
  | .up => .next (f s)

/-! ## Energy counting (R47, R74, R75) -/

/-- Units of 10^-4 J in a kJ. -/
def unitsPerKJ : Nat := 10000000

/-- The largest kJ total (R47, R75). -/
def maxKJ : Nat := 4294967295

/-- A total with units of 10^-4 J counted into it, saturating; the residue takes the remainder (R47, R74, R75). -/
def Energy.count (e : Energy) (units : Nat) : Energy :=
  ⟨min maxKJ (e.kJ + (units + e.residue) / unitsPerKJ), (units + e.residue) % unitsPerKJ⟩

/-- Whether counting units into a total would carry it past its largest value (R75). -/
def Energy.passes (e : Energy) (units : Nat) : Bool := decide (maxKJ < e.kJ + (units + e.residue) / unitsPerKJ)

/-! ## Slots and rotor records -/

/-- All sixteen slots, ascending. -/
def allSlots : List Slot := List.finRange 16

/-- The record of a slot. -/
def State.rotor (s : State) (i : Slot) : RotorRecord := s.rotors[i]

/-- A vector of sixteen with one place replaced. -/
def setSlot {α : Type} (v : Vector α 16) (i : Slot) (x : α) : Vector α 16 := v.set i.val x i.isLt

/-- The record of a slot replaced. -/
def State.setRotor (s : State) (i : Slot) (r : RotorRecord) : State := s.withRotors (setSlot s.rotors i r)

/-- Enrolled: any state other than OFFLINE (R58). -/
def RotorRecord.enrolled (r : RotorRecord) : Bool := r.state != .offline

/-- The shares, the setpoint and the limits zeroed at once (R71). -/
def RotorRecord.zeroed (r : RotorRecord) : RotorRecord := { r with shares := Shares.zero, ld := 0, la := 0 }

/-- The spin-up slots: the slots in ACCELERATING (chapter 07). -/
def State.accelerating (s : State) : List Slot := allSlots.filter fun i => (s.rotor i).state == .accelerating

/-- A slot put into an ascending list of slots, once. -/
def insertAscending (i : Slot) : List Slot → List Slot
  | [] => [i]
  | j :: rest => if i < j then i :: j :: rest else if i = j then j :: rest else j :: insertAscending i rest

/-- A list of which only the newest entries are kept, at most cap of them, after one has been appended (R4, R13). -/
def appendNewest {α : Type} (cap : Nat) (l : List α) (x : α) : List α := (l ++ [x]).drop (l.length + 1 - cap)

/-- The last entry of a list changed. -/
def mapLast {α : Type} (f : α → α) : List α → List α
  | [] => []
  | [x] => [f x]
  | x :: y :: rest => x :: mapLast f (y :: rest)

/-- A lifecycle or cause change of a slot joins the ROTOR CHANGE set, while the kind is enabled, and ROTOR CHANGE then
stands in the pending notice set (R144). -/
def State.noteRotor (s : State) (i : Slot) : State :=
  if s.lif.mask.has .rotor then
    (s.withRsq { s.rsq with changed := insertAscending i s.rsq.changed }).addNotice .rotor
  else s

end Sys2Proof.Machine
end

