-- ==== Sys2Proof/Machine/Fmu.lean ====
section
/-! DEFINITION. The Frequency Measurement Unit (chapter 01): periods, the frequency estimate, the measurement states,
rocof, and the sample record it hands on. -/

namespace Sys2Proof.Machine

/-- The nominal frequency in mHz. -/
def nominalMHz : Nominal → Nat
  | .hz50 => 50000
  | .hz60 => 60000

/-- The shortest valid period in ticks (R3). -/
def shortestPeriod : Nominal → Nat
  | .hz50 => 181819
  | .hz60 => 153847

/-- The longest valid period in ticks (R3). -/
def longestPeriod : Nominal → Nat
  | .hz50 => 222222
  | .hz60 => 181818

/-- The ticks from the start of the missing-edge timer to its expiry (R5). -/
def missingEdgeTicks : Nominal → Nat
  | .hz50 => 400000
  | .hz60 => 333334

/-- A period within the band, bounds included (R3). -/
def periodValid (nom : Nominal) (period : Nat) : Bool :=
  decide (shortestPeriod nom ≤ period ∧ period ≤ longestPeriod nom)

/-- The valid-period list after a period has been classified (R4). -/
def Fmu.classify (u : Fmu) (period : Nat) : Fmu :=
  { u with periods := if periodValid u.nominal period then appendNewest u.n u.periods period else [] }

/-- The frequency estimate over the listed periods: k × 10^10 / S, rounded half up (R7). -/
def estimate (periods : List Nat) : Nat :=
  let total := periods.sum
  let q := periods.length * 10 ^ 10 / total
  let r := periods.length * 10 ^ 10 % total
  if total ≤ 2 * r then q + 1 else q

/-- The deviation from nominal, clamped (R7). -/
def deviation (nom : Nominal) (f : Nat) : Int := clampInt (-5000) 5000 ((f : Int) - nominalMHz nom)

/-- Rocof across the newest W intervals of the history queue; 0 while it holds W entries or fewer (R14). -/
def rocofOf (w : Nat) (history : List (Tick × Int)) : Int :=
  match history.reverse[0]?, history.reverse[w]? with
  | some newest, some older =>
    clampInt (-20000) 20000 (((newest.2 - older.2) * 10 ^ 7).tdiv (ticksFrom older.1 newest.1 : Int))
  | _, _ => 0

/-- The sample record (R16). -/
structure Sample where
  tick : Tick
  dt : Nat
  valid : Bool
  state : MeasState
  df : Option Int
  held : Bool
  rocof : Option Int
deriving DecidableEq, Repr

/-- Nothing measured: what is reported in LOST and after a reset (R16). -/
def nothingMeasured : Measured := ⟨0, 0, 0⟩

/-- The interval of a sample (R8). -/
def Fmu.interval (u : Fmu) (t : Tick) : Nat :=
  match u.prevSample with
  | some p => ticksFrom p t
  | none => 0

/-- The FMU enters LOST, or has the LOST state set afresh: history empty, held values absent, both counts 0 (R12, R17).
The reported values read 0 (R16). -/
def Fmu.enterLost (u : Fmu) : Fmu :=
  { u with state := .lost, regain := 0, invalid := 0, held := none, history := [], reported := nothingMeasured }

/-- A valid sample that leaves the state VALID: its f and df become the held values, it joins the history queue, rocof
is formed and held, and the sample is handed on fresh (R9, R10, R11, R13, R14). -/
def Fmu.handFresh (u : Fmu) (t : Tick) (dt : Nat) : Fmu × Sample :=
  let f := estimate u.periods
  let df := deviation u.nominal f
  let history := appendNewest 17 u.history (t, df)
  let rocof := rocofOf u.w history
  ({ u with state := .valid, held := some ⟨f, df, rocof⟩, history := history, reported := ⟨f, df, rocof⟩ },
   { tick := t, dt := dt, valid := true, state := .valid, df := some df, held := false, rocof := some rocof })

/-- An invalid sample handed on as HOLDING with the held values (R10, R11). The held values are present in VALID and
HOLDING. -/
def Fmu.handHeld (u : Fmu) (t : Tick) (dt : Nat) : Fmu × Sample :=
  let h := u.held.getD nothingMeasured
  ({ u with state := .holding, reported := h },
   { tick := t, dt := dt, valid := false, state := .holding, df := some h.df, held := true, rocof := some h.rocof })

/-- A sample handed on as LOST: no df, no rocof, reported values 0 (R9, R11, R16). -/
def Fmu.handLost (u : Fmu) (t : Tick) (dt : Nat) (valid : Bool) : Fmu × Sample :=
  ({ u with reported := nothingMeasured },
   { tick := t, dt := dt, valid := valid, state := .lost, df := none, held := false, rocof := none })

/-- A sample, once its period has been classified: the interval is taken, the measurement state is advanced, the
history queue updated, rocof formed and the record built (R6, R8 to R16). -/
def Fmu.sample (u0 : Fmu) (t : Tick) (valid : Bool) : Fmu × Sample :=
  let dt := u0.interval t
  let u := { u0 with prevSample := some t }
  match u.state, valid with
  | .lost, true =>
    if 8 ≤ u.regain + 1 then { u with regain := 0 }.handFresh t dt
    else { u with regain := u.regain + 1 }.handLost t dt true
  | .lost, false => { u with regain := 0 }.handLost t dt false
  | .valid, true => u.handFresh t dt
  | .valid, false => { u with invalid := 1 }.handHeld t dt
  | .holding, true => { u with invalid := 0 }.handFresh t dt
  | .holding, false =>
    if 4 ≤ u.invalid + 1 then u.enterLost.handLost t dt false
    else { u with invalid := u.invalid + 1 }.handHeld t dt

/-- The missing-edge timer restarted at a tick (R5). -/
def Fmu.restartTimer (u : Fmu) (t : Tick) : Fmu := { u with expiry := tickAfter t (missingEdgeTicks u.nominal) }

/-- The FMU's part of a sample: the sample record, with MEASUREMENT CHANGE added when the measurement state has changed
(R15). -/
def State.measure (s : State) (t : Tick) (valid : Bool) : State × Sample :=
  let r := s.fmu.sample t valid
  ((s.withFmu r.1).addNoticeIf (r.1.state != s.fmu.state) .measurement, r.2)

/-- An accepted SET MEASUREMENT at a tick (R17): the three values stored, the LOST state set, the period list empty, no
last edge, the timer restarted with the new nominal; the previous sample time is kept (R8). -/
def Fmu.configure (u : Fmu) (nom : Nominal) (n w : Nat) (t : Tick) : Fmu :=
  { u.enterLost with
    nominal := nom
    n := n
    w := w
    periods := []
    lastEdge := none
    expiry := tickAfter t (missingEdgeTicks nom) }

end Sys2Proof.Machine
end

