-- ==== Sys2Proof/Machine/Orl.lean ====
section
/-! DEFINITION. The Order List (chapter 06): expiry, selection and supply at the demand request, accounting, completion and
repeat, suspension and release, cancellation, and the ORDER CHANGE set. -/

namespace Sys2Proof.Machine

/-- A terminal state (R97). -/
def OrderStatus.terminal : OrderStatus → Bool
  | .waiting => false
  | .active => false
  | .suspended _ => false
  | .done _ => true
  | .expired => true
  | .cancelled _ => true

/-- Ids put into the ORDER CHANGE set, each once (R114). -/
def insertIds (ids set : List Nat) : List Nat := ids.foldl (fun acc i => if acc.contains i then acc else acc ++ [i]) set

/-- The id that a change of a record brings to the ORDER CHANGE set: entries to WAITING bring none, and neither does a
change that leaves the state as it was (R114). -/
def enteredId (before after_ : Order) : Option Nat :=
  if after_.status != before.status && after_.status != .waiting then some after_.id else none

/-- Every record of the list revised. The ids of the records that entered ACTIVE, SUSPENDED or a terminal state join the
ORDER CHANGE set, while the kind is enabled, and ORDER CHANGE then stands in the pending notice set (R114). -/
def State.reviseOrders (s : State) (f : Order → Order) : State :=
  let ids := s.orl.orders.filterMap fun o => enteredId o (f o)
  if s.lif.mask.has .order && !ids.isEmpty then
    (s.withOrl { s.orl with orders := s.orl.orders.map f, changed := insertIds ids s.orl.changed }).addNotice .order
  else s.withOrl { s.orl with orders := s.orl.orders.map f }

/-- The ACTIVE record, if there is one (R95: at most one). -/
def Orl.active (l : Orl) : Option Order := l.orders.find? fun o => o.status == .active

/-! ## The demand request (R100 to R102) -/

/-- A record whose deadline has come at a plant time becomes EXPIRED, unless it is terminal (R100). -/
def Order.expire (plant : Nat) (o : Order) : Order :=
  match o.deadline with
  | none => o
  | some d =>
    if d ≤ plant ∧ o.status.terminal = false then { o with status := .expired, ended := some plant } else o

/-- A WAITING record whose start is absent or has come (R101). -/
def Order.selectable (plant : Nat) (o : Order) : Bool :=
  o.status == .waiting && (match o.startTime with | none => true | some t => decide (t ≤ plant))

/-- The record with an id becomes ACTIVE at a plant time (R101). -/
def Order.activateIf (id plant : Nat) (o : Order) : Order :=
  if o.id = id then { o with status := .active, activated := some plant } else o

/-- In GUARD and ARMED the ORL selects and supplies (R101, R102, R117). -/
def modeServes : Mode → Bool
  | .idle => false
  | .guard => true
  | .armed => true
  | .event => false
  | .halted => false

/-- Selection: with no record ACTIVE, the oldest selectable record becomes ACTIVE (R101). -/
def State.selectOrder (s : State) (plant : Nat) : State :=
  if modeServes s.evt.mode && s.orl.active.isNone then
    match s.orl.orders.find? (Order.selectable plant) with
    | some o => s.reviseOrders (Order.activateIf o.id plant)
    | none => s
  else s

/-- The ORL's state after a demand request: it has expired, then selected (R100, R101). -/
def State.demandRequest (s : State) (plant : Nat) : State := (s.reviseOrders (Order.expire plant)).selectOrder plant

/-- The answer of the ORL: in GUARD or ARMED the ACTIVE record, in every other case none (R84, R102). -/
def State.suppliedOrder (s : State) : Option Order := if modeServes s.evt.mode then s.orl.active else none

/-! ## Accounting, completion and repeat (R103 to R106) -/

/-- Units of 10^-4 J in a joule. -/
def unitsPerJ : Nat := 10000

/-- Energy credited to an order: the remaining quota falls, not below 0, and the delivered total rises by as much
(R103). -/
def Order.credit (o : Order) (units : Nat) : Order :=
  let delivered := (units + o.residue) / unitsPerJ
  { o with
    remaining := o.remaining - delivered
    residue := (units + o.residue) % unitsPerJ
    delivered := o.delivered + min delivered o.remaining }

/-- A run has been completed (R104). `holds` says whether a repeat condition holds (R105). -/
def Order.complete (o : Order) (holds : RepeatCondition → Nat → Bool) (plant : Nat) : Order :=
  match o.repeats with
  | none => { o with status := .done .quota, ended := some plant }
  | some r =>
    if r.count = 0 then { o with status := .done .quota, ended := some plant }
    else if holds r.condition r.x then
      { o with repeats := some { r with count := r.count - 1 }, remaining := o.quota * 1000, residue := 0 }
    else { o with repeats := some { r with count := r.count - 1 }, status := .done .condition, ended := some plant }

/-- A dispatch result accounted to an order: exhausted, it is suspended and nothing is delivered (R106); otherwise it is
credited, and a completed run is acted on within the same result (R103, R104). -/
def Order.account (o : Order) (units : Nat) (exhausted : Bool) (holds : RepeatCondition → Nat → Bool) (plant : Nat) :
    Order :=
  if exhausted then { o with status := .suspended .exhausted }
  else if (o.credit units).remaining = 0 then (o.credit units).complete holds plant
  else o.credit units

/-- The ONLINE rotors of a group, with no regard to their roles (R105). -/
def State.groupOnline (s : State) (g : Fin 4) : List RotorRecord :=
  (allSlots.map s.rotor).filter fun r => r.state == .online && r.group == g

/-- The group SoC, in per mille (R105). -/
def groupSoc (rotors : List RotorRecord) : Nat :=
  1000 * (rotors.map fun r => r.eCap * r.soc / 1000).sum / (rotors.map fun r => r.eCap).sum

/-- Whether a repeat condition holds for the ONLINE rotors of a group (R105). -/
def conditionHolds (rotors : List RotorRecord) (c : RepeatCondition) (x : Nat) : Bool :=
  match c with
  | .always => true
  | .above => !rotors.isEmpty && decide (x < groupSoc rotors)
  | .below => !rotors.isEmpty && decide (groupSoc rotors < x)

/-- The ORL takes a dispatch result (R103 to R106). Only a result that carries an order id concerns it. -/
def State.accountOrder (s : State) (d : DispatchRecord) : State :=
  match d.orderId with
  | none => s
  | some id =>
    s.reviseOrders fun o =>
      if o.id = id then
        o.account (d.oServed * d.dt) d.exhausted (conditionHolds (s.groupOnline o.group)) d.plantTime
      else o

/-! ## Events, cancellation, retirement (R107 to R112) -/

/-- An event opens: the ACTIVE record becomes SUSPENDED with cause EVENT (R107). -/
def State.suspendForEvent (s : State) : State :=
  s.reviseOrders fun o => if o.status = .active then { o with status := .suspended .event } else o

/-- An event ends: every record SUSPENDED with cause EVENT becomes WAITING (R108). -/
def State.releaseEventOrders (s : State) : State :=
  s.reviseOrders fun o => if o.status = .suspended .event then { o with status := .waiting } else o

/-- A record that is not terminal becomes CANCELLED at a plant time (R110, R111). -/
def Order.cancel (cause : CancelCause) (plant : Nat) (o : Order) : Order :=
  if o.status.terminal then o else { o with status := .cancelled cause, ended := some plant }

/-- A stop assertion cancels every record that is not terminal (R111). -/
def State.cancelAll (s : State) (plant : Nat) : State := s.reviseOrders (Order.cancel .stop plant)

/-- The record that holds an id. -/
def Orl.find (l : Orl) (id : Nat) : Option Order := l.orders.find? fun o => o.id == id

/-- A terminal record leaves the list, and its id the ORDER CHANGE set; if that empties the set, ORDER CHANGE leaves the
pending notice set (R112, R114). -/
def State.retireOrder (s : State) (id : Nat) : State :=
  let changed := s.orl.changed.filter fun i => i != id
  let s' := s.withOrl { s.orl with orders := s.orl.orders.filter fun o => o.id != id, changed := changed }
  if changed.isEmpty then
    s'.withLif { s'.lif with pendingNotices := s'.lif.pendingNotices.put false .order }
  else s'

end Sys2Proof.Machine
end

