-- ==== Sys2Proof/Machine/Evt.lean ====
section
/-! DEFINITION. The Event Monitor (chapter 03): regions, triggers, opening, running and ending an event, and the bank modes
it sets. -/

namespace Sys2Proof.Machine

/-- The mode a host's choice names. -/
def modeOfHost : HostMode → Mode
  | .idle => .idle
  | .guard => .guard
  | .armed => .armed

/-! ## Regions and triggers (R39 to R41) -/

/-- The df region (R39). -/
def dfRegion (e : Evt) (df : Int) : DfRegion :=
  if df ≤ -(e.uThreshold : Int) then .low else if (e.oThreshold : Int) ≤ df then .high else .normal

/-- The rocof region (R39). -/
def rocofRegion (e : Evt) (rocof : Int) : RocofRegion :=
  if 0 < e.rocofThreshold ∧ e.rocofThreshold ≤ rocof.natAbs then .fast else .slow

/-- The regions of a VALID sample (R39). -/
def classify (e : Evt) (df rocof : Int) : Regions := ⟨dfRegion e df, rocofRegion e rocof⟩

/-- Whether the edge mode counts UNDER triggers (R40). -/
def countsUnder : EdgeMode → Bool
  | .underOnly => true
  | .overOnly => false
  | .both => true

/-- Whether the edge mode counts OVER triggers (R40). -/
def countsOver : EdgeMode → Bool
  | .underOnly => false
  | .overOnly => true
  | .both => true

/-- No trigger. -/
def noTriggers : Triggers := ⟨false, false, false⟩

/-- The triggers that a sample's regions give against the region memory; none while it is unknown (R40). -/
def triggersOf (edge : EdgeMode) (memory : Option Regions) (now : Regions) : Triggers :=
  match memory with
  | none => noTriggers
  | some was =>
    ⟨was.df != .low && now.df == .low && countsUnder edge,
     was.df != .high && now.df == .high && countsOver edge,
     was.rocof == .slow && now.rocof == .fast⟩

/-- At least one trigger. -/
def Triggers.any (t : Triggers) : Bool := t.underHit || t.overHit || t.rocofHit

/-! ## Event records (R44 to R47) -/

/-- The number of the next event (R44). -/
def nextEventNumber (n : Nat) : Nat := if 65535 < n + 1 then 1 else n + 1

/-- The record of an event that opens (R44). -/
def openRecord (number : Nat) (cause : Triggers) (entry : HostMode) (plant : Nat) (df rocof : Int) : EventRecord where
  number := number
  cause := cause
  entryMode := entry
  startTime := plant
  dfAtTrigger := df
  rocofAtTrigger := rocof
  nadir := df
  zenith := df
  retriggers := 0
  discharged := Energy.zero
  absorbed := Energy.zero
  peakUnserved := 0
  ended := none

/-- The open record, the newest of the history while it has no end, changed (R44). -/
def updateOpen (f : EventRecord → EventRecord) (history : List EventRecord) : List EventRecord :=
  mapLast (fun r => if r.ended.isNone then f r else r) history

/-- A trigger in GUARD or ARMED opens an event (R43, R44). -/
def State.openEvent (s : State) (entry : HostMode) (t : Tick) (df rocof : Int) (cause : Triggers) : State :=
  let number := nextEventNumber s.evt.eventNumber
  let record := openRecord number cause entry (s.plantTimeAt t) df rocof
  let s1 := s.withEvt
    { s.evt with
      mode := .event
      savedMode := some entry
      history := appendNewest 4 s.evt.history record
      eventNumber := number
      recovery := none }
  (s1.suspendForEvent).addNotice .event

/-- A trigger in EVENT is a retrigger: the count rises, saturating at 255, and the recovery timer stops (R45). -/
def Evt.retrigger (e : Evt) : Evt :=
  { e with
    history := updateOpen (fun r => { r with retriggers := min 255 (r.retriggers + 1) }) e.history
    recovery := none }

/-- The open record's nadir and zenith follow a VALID sample's df (R46). -/
def Evt.follow (e : Evt) (df : Int) : Evt :=
  { e with history := updateOpen (fun r => { r with nadir := min r.nadir df, zenith := max r.zenith df }) e.history }

/-- The recovery timer after a VALID sample that did not trigger (R48). -/
def Evt.recoveryTest (e : Evt) (t : Tick) (df : Int) : Evt :=
  { e with
    recovery :=
      if df.natAbs ≤ e.band then
        match e.recovery with
        | none => some t
        | some start => some start
      else none }

/-- The hold time has passed with the recovery timer running (R49). -/
def Evt.recovered (e : Evt) (t : Tick) : Bool :=
  match e.recovery with
  | none => false
  | some start => decide (e.hold * ticksPerMs ≤ ticksFrom start t)

/-- The mode an event's end leaves (R51). -/
def modeAfter (e : Evt) : EventEnd → Mode
  | .stop => .halted
  | .recovered => modeOfHost (e.savedMode.getD .idle)
  | .lost => modeOfHost (e.savedMode.getD .idle)

/-- On an event's end a pending curve becomes the active curve (R29). -/
def Dse.activatePending (d : Dse) : Dse :=
  match d.pendingCurve with
  | none => d
  | some c => { d with curve := c, pendingCurve := none }

/-- The open event ends with a cause at a plant time (R51): the record closes, the recovery timer stops, the mode is
restored or becomes HALTED, the DSE and the ORL are told, EVENT CHANGE is added. -/
def State.endEvent (s : State) (cause : EventEnd) (plant : Nat) : State :=
  let s1 := s.withEvt
    { s.evt with
      mode := modeAfter s.evt cause
      savedMode := none
      history := updateOpen (fun r => { r with ended := some (plant, cause) }) s.evt.history
      recovery := none }
  let s2 := s1.withDse s1.dse.activatePending
  (s2.releaseEventOrders).addNotice .event

/-! ## A sample record at the EVT (R38) -/

/-- A VALID sample handled in EVENT, with the triggers it gave: a retrigger if there is one, then nadir and zenith, then,
without a trigger, the recovery test, which may end the event (R45, R46, R48, R49). -/
def State.duringEvent (s : State) (t : Tick) (df : Int) (triggered : Bool) : State :=
  if triggered then s.withEvt (s.evt.retrigger.follow df)
  else
    let e := (s.evt.follow df).recoveryTest t df
    if e.recovered t then (s.withEvt e).endEvent .recovered (s.plantTimeAt t) else s.withEvt e

/-- A VALID sample (R38): classified, compared with the region memory, which is then rewritten, and its triggers acted on
by the mode (R42). -/
def State.evtValid (s : State) (t : Tick) (df rocof : Int) : State :=
  let now := classify s.evt df rocof
  let triggers := triggersOf s.evt.edgeMode s.evt.memory now
  let s1 := s.withEvt { s.evt with memory := some now }
  match s.evt.mode with
  | .idle => s1
  | .guard => if triggers.any then s1.openEvent .guard t df rocof triggers else s1
  | .armed => if triggers.any then s1.openEvent .armed t df rocof triggers else s1
  | .event => s1.duringEvent t df triggers.any
  | .halted => s1

/-- A record in LOST: the region memory becomes unknown, and an open event ends (R38, R50). -/
def State.evtLost (s : State) (t : Tick) : State :=
  let s1 := s.withEvt { s.evt with memory := none }
  match s.evt.mode with
  | .idle => s1
  | .guard => s1
  | .armed => s1
  | .event => s1.endEvent .lost (s.plantTimeAt t)
  | .halted => s1

/-- The EVT handles a sample record by the measurement state it carries (R38). A VALID record carries df and rocof
(R16). -/
def State.monitor (s : State) (sm : Sample) : State :=
  match sm.state with
  | .lost => s.evtLost sm.tick
  | .holding => s
  | .valid => s.evtValid sm.tick (sm.df.getD 0) (sm.rocof.getD 0)

/-! ## The dispatch result at the EVT (R47) -/

/-- A result added to the open record: net served energy by its sign, and the peak unserved (R47). -/
def EventRecord.addResult (net : Int) (unserved dt : Nat) (r : EventRecord) : EventRecord :=
  { r with
    discharged := if 0 < net then r.discharged.count (net.natAbs * dt) else r.discharged
    absorbed := if net < 0 then r.absorbed.count (net.natAbs * dt) else r.absorbed
    peakUnserved := max r.peakUnserved unserved }

/-- The served power of the frequency pass with the sign of F (R82). -/
def DispatchRecord.signedServed (d : DispatchRecord) : Int := if d.demand < 0 then -(d.fServed : Int) else d.fServed

/-- The served power of the order pass with the sign of the order's direction (R86). -/
def DispatchRecord.signedOrderServed (d : DispatchRecord) : Int := if d.po < 0 then -(d.oServed : Int) else d.oServed

/-- The EVT takes a dispatch result: it concerns the open record alone (R47, R92). -/
def State.countEvent (s : State) (d : DispatchRecord) : State :=
  s.withEvt
    { s.evt with
      history := updateOpen
        (EventRecord.addResult (d.signedServed + d.signedOrderServed) d.fUnserved d.dt) s.evt.history }

end Sys2Proof.Machine
end

