-- ==== Sys2Proof/Machine/Dse.lean ====
section
/-! DEFINITION. The Dispatch Engine (chapters 02 and 05) and what the RTB does at a dispatch (chapter 04): the demand stage,
the derived values, the share procedure, the two passes, the setpoints and the dispatch record. -/

namespace Sys2Proof.Machine

/-! ## The demand stage (R20 to R25) -/

/-- The active curve at a deviation (R20). Below the first breakpoint its power, at and above the last its power, and on
the segment that holds df a quotient truncated toward zero added to the segment's first power. -/
def curveAt : List Breakpoint → Int → Int
  | [], _ => 0
  | [b], _ => b.p
  | b :: c :: rest, df =>
    if df ≤ b.df then b.p
    else if df < c.df then b.p + ((c.p - b.p) * (df - b.df)).tdiv (c.df - b.df)
    else curveAt (c :: rest) df

/-- The inertia term (R21). -/
def inertiaTerm (kIn : Nat) (rocof : Int) : Int := -(((kIn : Int) * rocof).tdiv 1000)

/-- The raw frequency demand by mode, with the measurement state not LOST (R23, R34). -/
def rawDemand (m : Mode) (pCurve pIn : Int) : Int :=
  match m with
  | .idle => 0
  | .guard => 0
  | .armed => pCurve
  | .event => pCurve + pIn
  | .halted => 0

/-- What the demand stage writes into the dispatch record (R25). -/
structure Demand where
  pCurve : Int
  pIn : Int
  demand : Int
  saturated : Bool
deriving DecidableEq, Repr

/-- The demand stage for a sample record, in a mode (R22 to R24): in LOST, where df and rocof are absent, every term is
0. -/
def demandStage (d : Dse) (m : Mode) (sm : Sample) : Demand :=
  match sm.df, sm.rocof with
  | some df, some rocof =>
    let raw := rawDemand m (curveAt d.curve df) (inertiaTerm d.kIn rocof)
    let f := clampInt (-(d.paBank : Int)) d.pdBank raw
    ⟨curveAt d.curve df, inertiaTerm d.kIn rocof, f, f != raw⟩
  | _, _ => ⟨0, 0, 0, false⟩

/-! ## Derived values of the rotor records (R66 to R70) -/

/-- The state of charge at the reported speed (R67). -/
def socOf (r : RotorRecord) : Nat :=
  (clampInt 0 1000 ((1000 * ((r.speed : Int) ^ 2 - (r.smin : Int) ^ 2)).tdiv ((r.smax : Int) ^ 2 - (r.smin : Int) ^ 2))).toNat

/-- The power a rotor's rating and torque allow at its speed (R68). -/
def speedLimit (r : RotorRecord) : Nat := r.limits.rating * min r.speed r.sbase / r.sbase

/-- The reported temperature is at least the applied derate temperature (R69). -/
def isHot (r : RotorRecord) : Bool := decide ((r.limits.derate : Int) ≤ r.temperature)

/-- A limit halved when the rotor is derated (R69). -/
def halveIf (hot : Bool) (v : Nat) : Nat := if hot then v / 2 else v

/-- The derived values recomputed at a dispatch (R66): of an OFFLINE slot all zero, of an ONLINE rotor all derived, of
every other enrolled rotor the SoC and the derated mark alone. -/
def RotorRecord.derive (r : RotorRecord) : RotorRecord :=
  if r.state = .offline then { r with soc := 0, ld := 0, la := 0, derated := false }
  else if r.state = .online then
    { r with
      soc := socOf r
      ld := halveIf (isHot r) (if socOf r = 0 ∨ r.roles.discharge = false then 0 else speedLimit r)
      la := halveIf (isHot r) (if socOf r = 1000 ∨ r.roles.absorb = false then 0 else speedLimit r)
      derated := isHot r }
  else { r with soc := socOf r, ld := 0, la := 0, derated := isHot r }

/-- The discharge weight (R70). -/
def dischargeWeight (r : RotorRecord) : Nat := r.eCap * r.soc / 1000

/-- The absorb weight (R70). -/
def absorbWeight (r : RotorRecord) : Nat := r.eCap * (1000 - r.soc) / 1000

/-! ## The share procedure (R79, R80) -/

/-- An eligible rotor with its weight and its room. -/
structure Candidate where
  slot : Slot
  weight : Nat
  room : Nat
deriving DecidableEq, Repr

/-- A rotor's share of a pass. -/
structure Share where
  slot : Slot
  amount : Nat
deriving DecidableEq, Repr

/-- The share of pass 1: the proportion of the target by weight, truncated, at most the room (R79). -/
def proportion (target total : Nat) (c : Candidate) : Nat := min c.room (target * c.weight / total)

/-- The shares after pass 2: one sweep in ascending slot order gives what pass 1 left to the rotors with spare room
(R80). -/
def sweep (target total : Nat) : Nat → List Candidate → List Share
  | _, [] => []
  | remainder, c :: rest =>
    let first := proportion target total c
    let add := min remainder (c.room - first)
    ⟨c.slot, first + add⟩ :: sweep target total (remainder - add) rest

/-- The sum of the weights of the eligible rotors (R79). -/
def totalWeight (cs : List Candidate) : Nat := (cs.map fun c => c.weight).sum

/-- The share procedure: the final shares of the eligible rotors (R79, R80). -/
def shareOut (target : Nat) (cs : List Candidate) : List Share :=
  sweep target (totalWeight cs) (target - (cs.map (proportion target (totalWeight cs))).sum) cs

/-- The served amount: the sum of the shares (R80). -/
def servedOf (shares : List Share) : Nat := (shares.map fun x => x.amount).sum

/-- The share of a slot; 0 for a slot that is not eligible (R82, R87). -/
def shareOf (shares : List Share) (i : Slot) : Nat := ((shares.find? fun x => x.slot == i).map fun x => x.amount).getD 0

/-! ## The frequency pass (R81 to R83) -/

/-- Whether and how a rotor takes part in the frequency pass, for discharge or for absorbing (R81). -/
def frequencyCandidate (discharge : Bool) (i : Slot) (r : RotorRecord) : Option Candidate :=
  let room := if discharge then r.ld else r.la
  let weight := if discharge then dischargeWeight r else absorbWeight r
  if r.state = .online ∧ r.roles.frequency = true ∧ 0 < room ∧ 0 < weight then some ⟨i, weight, room⟩ else none

/-- The eligible rotors of the frequency pass, ascending (R81). -/
def State.frequencyCandidates (s : State) (discharge : Bool) : List Candidate :=
  allSlots.filterMap fun i => frequencyCandidate discharge i (s.rotor i)

/-- The shares of the frequency pass; with F = 0 it chooses no rotor (R81, R82). -/
def State.frequencyPass (s : State) (f : Int) : List Share :=
  if f = 0 then [] else shareOut f.natAbs (s.frequencyCandidates (decide (0 < f)))

/-! ## The order pass (R85 to R88) -/

/-- The weight of a rotor in the order pass: its distance from the order SoC bound (R85). -/
def orderWeight (dir : Direction) (floor ceiling : Nat) (r : RotorRecord) : Nat :=
  match dir with
  | .discharge => r.eCap * (r.soc - floor) / 1000
  | .absorb => r.eCap * (ceiling - r.soc) / 1000

/-- The room of a rotor in the order pass: what its own limit leaves after its frequency share (R86). -/
def orderRoom (dir : Direction) (f : Int) (r : RotorRecord) : Nat :=
  match dir with
  | .discharge => ((r.ld : Int) - f).toNat
  | .absorb => ((r.la : Int) + f).toNat

/-- The order role, the role of the order's direction, and the right side of the order SoC bound (R85). -/
def orderEligible (dir : Direction) (floor ceiling : Nat) (r : RotorRecord) : Bool :=
  r.state == .online && r.roles.order &&
    (match dir with
     | .discharge => r.roles.discharge && decide (floor < r.soc)
     | .absorb => r.roles.absorb && decide (r.soc < ceiling))

/-- The eligible rotors of the order pass, ascending, given the frequency shares (R85, R86). -/
def State.orderCandidates (s : State) (o : Order) (f : Slot → Int) : List Candidate :=
  allSlots.filterMap fun i =>
    if orderEligible o.direction s.dse.floor s.dse.ceiling (s.rotor i) && (s.rotor i).group == o.group then
      some ⟨i, orderWeight o.direction s.dse.floor s.dse.ceiling (s.rotor i), orderRoom o.direction (f i) (s.rotor i)⟩
    else none

/-- The bank room in the order's direction (R86). -/
def bankRoom (d : Dse) (dir : Direction) (signedServed : Int) : Int :=
  match dir with
  | .discharge => (d.pdBank : Int) - signedServed
  | .absorb => (d.paBank : Int) + signedServed

/-- The target of the order pass: the order's power, at most the bank room floored at 0 (R86). -/
def orderTarget (power : Nat) (room : Int) : Nat := min power room.toNat

/-- A magnitude with the sign of a direction (R87). -/
def directed (dir : Direction) (v : Nat) : Int :=
  match dir with
  | .discharge => v
  | .absorb => -(v : Int)

/-- What the order pass writes into the dispatch record, and its shares. -/
structure OrderResult where
  id : Option Nat
  po : Int
  served : Nat
  unserved : Nat
  exhausted : Bool
  direction : Direction
  shares : List Share
deriving DecidableEq, Repr

/-- The order pass for the ORL's answer: it does not run without an order (R84); an empty eligible set marks the order
exhausted (R88); otherwise the share procedure divides the target (R87). -/
def State.orderPass (s : State) (answer : Option Order) (f : Slot → Int) (signedServed : Int) : OrderResult :=
  match answer with
  | none => ⟨none, 0, 0, 0, false, .discharge, []⟩
  | some o =>
    let cs := s.orderCandidates o f
    let shares := if cs.isEmpty then []
      else shareOut (orderTarget o.power (bankRoom s.dse o.direction signedServed)) cs
    ⟨some o.id, directed o.direction o.power, servedOf shares, o.power - servedOf shares, cs.isEmpty, o.direction, shares⟩

/-! ## Setpoints, record and the RTB's counters (R74, R75, R89, R90) -/

/-- A magnitude with the sign of F (R82). -/
def withSignOf (f : Int) (v : Nat) : Int := if f < 0 then -(v : Int) else v

/-- The shares and the setpoint of an ONLINE rotor (R89). -/
def composeShares (f o : Int) : Shares := ⟨f, o, f + o⟩

/-- The energy of a setpoint over an interval counted into a rotor's counters (R74, R75). -/
def RotorRecord.countSetpoint (dt : Nat) (r : RotorRecord) : RotorRecord :=
  if r.enrolled then
    { r with
      discharged := if 0 < r.shares.n then r.discharged.count (r.shares.n.natAbs * dt) else r.discharged
      absorbed := if r.shares.n < 0 then r.absorbed.count (r.shares.n.natAbs * dt) else r.absorbed }
  else r

/-- Counting a setpoint would carry a counter past its largest value (R75). -/
def RotorRecord.counterPasses (dt : Nat) (r : RotorRecord) : Bool :=
  r.enrolled &&
    ((decide (0 < r.shares.n) && r.discharged.passes (r.shares.n.natAbs * dt)) ||
     (decide (r.shares.n < 0) && r.absorbed.passes (r.shares.n.natAbs * dt)))

/-- A change made to every rotor record by its slot. -/
def State.mapRotors (s : State) (f : Slot → RotorRecord → RotorRecord) : State :=
  s.withRotors (Vector.ofFn fun i : Fin 16 => f i (s.rotor i))

/-- The RTB takes a dispatch result: every enrolled rotor's energy is counted, and COUNTER is set if a counter would have
passed its largest value (R74, R75). The setpoints are those the dispatch has just written (R89). -/
def State.countThroughput (s : State) (d : DispatchRecord) : State :=
  (s.mapRotors fun _ r => r.countSetpoint d.dt).raiseIf
    (allSlots.any fun i => (s.rotor i).counterPasses d.dt) .counter

/-- The dispatch record from its parts (R90). -/
def makeRecord (sm : Sample) (plant : Nat) (dm : Demand) (served : Nat) (o : OrderResult) (slots : Vector Shares 16) :
    DispatchRecord where
  tick := sm.tick
  plantTime := plant
  dt := sm.dt
  state := sm.state
  df := sm.df
  held := sm.held
  rocof := sm.rocof
  pCurve := dm.pCurve
  pIn := dm.pIn
  demand := dm.demand
  saturated := dm.saturated
  fServed := served
  fUnserved := dm.demand.natAbs - served
  orderId := o.id
  po := o.po
  oServed := o.served
  oUnserved := o.unserved
  exhausted := o.exhausted
  slots := slots

/-- A dispatch, to the point where its record has become the latest dispatch record (R78): the demand stage, the derived
values, the frequency pass, the demand request, the order pass, the setpoints, the record. -/
def State.computeDispatch (s : State) (sm : Sample) : State × DispatchRecord :=
  let plant := s.plantTimeAt sm.tick
  let dm := demandStage s.dse s.evt.mode sm
  let s1 := (s.raiseIf dm.saturated .saturated).mapRotors fun _ r => r.derive
  let fs := s1.frequencyPass dm.demand
  let served := servedOf fs
  let s2 := (s1.raiseIf (decide (served < dm.demand.natAbs)) .unserved).demandRequest plant
  let f := fun i => withSignOf dm.demand (shareOf fs i)
  let o := s2.orderPass s2.suppliedOrder f (withSignOf dm.demand served)
  let slots := Vector.ofFn fun i : Fin 16 =>
    if (s2.rotor i).state = .online then composeShares (f i) (directed o.direction (shareOf o.shares i)) else Shares.zero
  let s3 := s2.mapRotors fun i r => { r with shares := slots[i] }
  let d := makeRecord sm plant dm served o slots
  (s3.withDse { s3.dse with latest := some d }, d)

end Sys2Proof.Machine
end

