-- ==== Sys2Proof/Machine/Rsq.lean ====
section
/-! DEFINITION. The Rotor Sequencer (chapter 07): queues, spin-up slots, the sync unit, rotor timers, trips, and what a reply,
a late poll, a timer and the stop input do to a rotor's lifecycle. -/

namespace Sys2Proof.Machine

/-! ## Timers (R124) -/

/-- Ticks of the lift timer: 5,000 ms (R124). -/
def liftTicks : Nat := 50000000

/-- Ticks of the sync timer: 2,000 ms (R124). -/
def syncTicks : Nat := 20000000

/-- Ticks in a second of the spin-up limit (R124). -/
def ticksPerSecond : Nat := 10000000

/-- Spin-up slots (R130). -/
def spinUpSlots : Nat := 4

/-- A rotor's timer set or stopped. -/
def Rsq.setTimer (q : Rsq) (i : Slot) (t : Option Tick) : Rsq := { q with timers := setSlot q.timers i t }

/-- The timer of a slot. -/
def Rsq.timer (q : Rsq) (i : Slot) : Option Tick := q.timers[i]

/-! ## Changes of state (R120, R121, R144) -/

/-- A slot's lifecycle state written, with the cause written where the change names one and left as it stood where it
does not (R121). The slot joins the ROTOR CHANGE set (R144). -/
def State.changeRotor (s : State) (i : Slot) (st : RotorState) (cause : Option RotorCause) : State :=
  (s.setRotor i
    { s.rotor i with state := st, cause := match cause with | none => (s.rotor i).cause | some c => some c }).noteRotor i

/-- A slot leaves the resources of the RSQ: either queue, the sync unit, its timer (R124, R130, R132, R133). A spin-up
slot is freed by the change of state itself. -/
def Rsq.leave (q : Rsq) (i : Slot) : Rsq :=
  { q.setTimer i none with
    spinUpQueue := q.spinUpQueue.filter fun j => j != i
    syncQueue := q.syncQueue.filter fun j => j != i
    syncUnit := if q.syncUnit = some i then none else q.syncUnit }

/-- A slot leaves the resources of the RSQ. -/
def State.leaveRoad (s : State) (i : Slot) : State := s.withRsq (s.rsq.leave i)

/-- The sync attempts count written. -/
def State.setAttempts (s : State) (i : Slot) (n : Nat) : State := s.setRotor i { s.rotor i with attempts := n }

/-! ## Admission and hand-over (R130, R133) -/

/-- The head of the spin-up queue becomes ACCELERATING, with its spin-up timer started (R130, R124). -/
def State.admitHead (s : State) (i : Slot) (rest : List Slot) : State :=
  (s.withRsq
    ({ s.rsq with spinUpQueue := rest }.setTimer i
      (some (tickAfter s.tickCount (s.dse.spinUpLimit * ticksPerSecond))))).changeRotor i .accelerating none

/-- Admission repeats while the spin-up queue is not empty and fewer than four rotors accelerate; at most fuel times,
and four are enough (R130). -/
def State.admitAll : Nat → State → State
  | 0, s => s
  | fuel + 1, s =>
    match s.rsq.spinUpQueue with
    | [] => s
    | i :: rest => if s.accelerating.length < spinUpSlots then State.admitAll fuel (s.admitHead i rest) else s

/-- The head of the sync queue becomes SYNCING: the unit is busy with it, its attempts count rises by 1, its sync timer
starts (R133, R124). -/
def State.handHead (s : State) (i : Slot) (rest : List Slot) : State :=
  ((s.withRsq
    ({ s.rsq with syncQueue := rest, syncUnit := some i }.setTimer i (some (tickAfter s.tickCount syncTicks)))).setAttempts
      i ((s.rotor i).attempts + 1)).changeRotor i .syncing none

/-- Hand-over: a free unit takes the head of the sync queue (R133). -/
def State.handOver (s : State) : State :=
  match s.rsq.syncUnit, s.rsq.syncQueue with
  | none, i :: rest => s.handHead i rest
  | _, _ => s

/-- A freed or filled resource is handed on at once, within the same arrival (R130, R133). -/
def State.handOn (s : State) : State := (s.admitAll spinUpSlots).handOver

/-! ## Moves (R127 to R138) -/

/-- A slot joins the tail of the spin-up queue in SPINUP_WAIT (R130). -/
def State.joinSpinUp (s : State) (i : Slot) : State :=
  let s1 := s.leaveRoad i
  ((s1.withRsq { s1.rsq with spinUpQueue := s1.rsq.spinUpQueue ++ [i] }).changeRotor i .spinupWait none).handOn

/-- A slot joins the tail of the sync queue in SYNC_WAIT (R132). -/
def State.joinSync (s : State) (i : Slot) : State :=
  let s1 := s.leaveRoad i
  ((s1.withRsq { s1.rsq with syncQueue := s1.rsq.syncQueue ++ [i] }).changeRotor i .syncWait none).handOn

/-- A slot is braked toward rest with a cause (R131, R134, R137). What an ONLINE rotor had is zeroed (R71). -/
def State.brake (s : State) (i : Slot) (cause : RotorCause) : State :=
  let s1 := s.leaveRoad i
  ((s1.setRotor i
    (if (s1.rotor i).state = .online then (s1.rotor i).zeroed else s1.rotor i)).changeRotor i .decelerating
      (some cause)).handOn

/-- A slot comes to PARKED, its sync attempts count 0, with a cause or with its cause kept (R137, R138, R141). -/
def State.settle (s : State) (i : Slot) (cause : Option RotorCause) : State :=
  (((s.leaveRoad i).setAttempts i 0).changeRotor i .parked cause).handOn

/-! ## Trips (R139, R140) -/

/-- A slot tripped, before anything is handed on: out of queue and unit, timer stopped, shares, setpoint and limits
zeroed, TRIPPED with its cause, ROTOR_TRIP set (R139). -/
def State.tripOnly (s : State) (i : Slot) (cause : RotorCause) : State :=
  let s1 := s.leaveRoad i
  ((s1.setRotor i (s1.rotor i).zeroed).changeRotor i .tripped (some cause)).raise .rotorTrip

/-- A trip, after which a freed slot or unit is handed on at once (R139). -/
def State.trip (s : State) (i : Slot) (cause : RotorCause) : State := (s.tripOnly i cause).handOn

/-- A trip with cause FAULT latches the reply's fault code (R63, R139). -/
def State.tripFault (s : State) (i : Slot) (code : FaultCode) : State :=
  (s.setRotor i { s.rotor i with latched := code }).trip i .fault

/-- The states that a stop assertion trips (R140): a rotor on its road, in service or being braked. -/
def movingState : RotorState → Bool
  | .offline => false
  | .probing => false
  | .parked => false
  | .lifting => true
  | .spinupWait => true
  | .accelerating => true
  | .syncWait => true
  | .syncing => true
  | .online => true
  | .decelerating => true
  | .tripped => false

/-- A slot tripped by the stop input if it is moving. -/
def State.stopTrip (s : State) (i : Slot) : State := if movingState (s.rotor i).state then s.tripOnly i .stop else s

/-- A stop assertion at the RSQ, taken whole: no admission and no hand-over follows (R140). -/
def State.tripAll (s : State) : State := allSlots.foldl State.stopTrip s

/-! ## A matching reply (R122, R127) -/

/-- A rotor at or below this speed is taken as at rest by a probe (R127). -/
def restSpeed : Nat := 60

/-- The probe reply decides where the rotor goes (R127). The reply has been written into the record. -/
def State.probeReply (s : State) (i : Slot) : State :=
  let r := s.rotor i
  if r.faultCode ≠ .none then s.tripFault i r.faultCode
  else if r.speed ≤ restSpeed then s.changeRotor i .parked none
  else if s.evt.mode = .halted then s.trip i .stop
  else if r.smin ≤ r.speed then s.joinSync i
  else s.joinSpinUp i

/-- The states in which a module restart trips the rotor (R122). -/
def restartTrips : RotorState → Bool
  | .offline => false
  | .probing => false
  | .parked => false
  | .lifting => true
  | .spinupWait => false
  | .accelerating => true
  | .syncWait => false
  | .syncing => true
  | .online => true
  | .decelerating => false
  | .tripped => false

/-- The progress test of a state (R122): levitated in LIFTING (R129), speed in ACCELERATING (R131) and SYNC_WAIT (R132),
locked in SYNCING (R134), at_rest in DECELERATING (R138). -/
def State.progress (s : State) (i : Slot) : State :=
  let r := s.rotor i
  match r.state with
  | .offline => s
  | .probing => s
  | .parked => s
  | .lifting => if r.flags.levitated then s.joinSpinUp i else s
  | .spinupWait => s
  | .accelerating => if r.smin ≤ r.speed then s.joinSync i else s
  | .syncWait => if r.speed < r.smin then s.joinSpinUp i else s
  | .syncing =>
    if r.flags.locked then (((s.leaveRoad i).setAttempts i 0).changeRotor i .online none).handOn else s
  | .online => s
  | .decelerating => if r.flags.atRest then s.settle i none else s
  | .tripped => s

/-- The three tests of a reply in a state other than PROBING and TRIPPED, the first that holds deciding (R122). -/
def State.replyTests (s : State) (i : Slot) : State :=
  let r := s.rotor i
  if r.faultCode ≠ .none then s.tripFault i r.faultCode
  else if r.flags.powerCycled && restartTrips r.state then s.trip i .moduleRestart
  else s.progress i

/-- The RSQ acts on a reply that has been written into the record (R122). -/
def State.sequenceReply (s : State) (i : Slot) : State :=
  match (s.rotor i).state with
  | .offline => s
  | .probing => s.probeReply i
  | .parked => s.replyTests i
  | .lifting => s.replyTests i
  | .spinupWait => s.replyTests i
  | .accelerating => s.replyTests i
  | .syncWait => s.replyTests i
  | .syncing => s.replyTests i
  | .online => s.replyTests i
  | .decelerating => s.replyTests i
  | .tripped => s

/-! ## A late poll (R123, R126, R154) -/

/-- The late count at which a silent module is LOST (R123). -/
def lateLimit : Nat := 3

/-- A probe with no reply: the slot returns to OFFLINE with cause and probe result NO_MODULE (R126, R58). -/
def State.probeFailed (s : State) (i : Slot) : State :=
  ((s.leaveRoad i).setRotor i
    { RotorRecord.empty with cause := some .noModule, probeNoModule := true }).noteRotor i

/-- In TRIPPED, a third late poll rewrites the cause to LOST if it was another (R123). -/
def State.rewriteLost (s : State) (i : Slot) : State :=
  if (s.rotor i).cause = some .lost then s
  else (s.setRotor i { s.rotor i with cause := some .lost }).noteRotor i

/-- The late count raised by 1, unless it already stands at 3 (R154). -/
def RotorRecord.countLate (r : RotorRecord) : RotorRecord := { r with lateCount := min lateLimit (r.lateCount + 1) }

/-- The late poll of an enrolled rotor that is neither PROBING nor TRIPPED (R123). -/
def State.lateTrip (s : State) (i : Slot) : State :=
  let s1 := s.setRotor i (s.rotor i).countLate
  if (s1.rotor i).lateCount = lateLimit then s1.trip i .lost else s1

/-- A poll to a slot has closed late: the probe's ends the enrolment; any other raises the late count, and a count of 3
trips the rotor, or in TRIPPED rewrites its cause (R123, R126, R154). -/
def State.sequenceLate (s : State) (i : Slot) : State :=
  match (s.rotor i).state with
  | .offline => s
  | .probing => s.probeFailed i
  | .tripped =>
    let s1 := s.setRotor i (s.rotor i).countLate
    if (s1.rotor i).lateCount = lateLimit then s1.rewriteLost i else s1
  | .parked => s.lateTrip i
  | .lifting => s.lateTrip i
  | .spinupWait => s.lateTrip i
  | .accelerating => s.lateTrip i
  | .syncWait => s.lateTrip i
  | .syncing => s.lateTrip i
  | .online => s.lateTrip i
  | .decelerating => s.lateTrip i

end Sys2Proof.Machine
end

