-- ==== Sys2Proof/Machine/Rbi.lean ====
section
/-! DEFINITION. The Rotor Bus Interface (chapter 08): rounds, polls, tags, the reply window, what a matching reply delivers;
and the whole passage of a sample, which hands the dispatch result to the RBI and its other consumers (R92). -/

namespace Sys2Proof.Machine

/-! ## Rounds (R147, R148, R156) -/

/-- A slot polled by its state: neither OFFLINE nor PROBING (R148). -/
def polledState : RotorState → Bool
  | .offline => false
  | .probing => false
  | .parked => true
  | .lifting => true
  | .spinupWait => true
  | .accelerating => true
  | .syncWait => true
  | .syncing => true
  | .online => true
  | .decelerating => true
  | .tripped => true

/-- A round begins with setpoints: its slot part from the states, its probe part from the pending probes, which it takes.
With both parts empty it ends as soon as it begins (R148, R156). -/
def State.beginRound (s : State) (setpoints : Vector Int 16) : State :=
  let slotPart := allSlots.filter fun i => polledState (s.rotor i).state
  let probePart := s.rbi.pendingProbes
  s.withRbi
    { s.rbi with
      round := if slotPart.isEmpty && probePart.isEmpty then none else some ⟨setpoints, slotPart, probePart⟩
      pendingProbes := [] }

/-- The setpoints of a dispatch record. -/
def DispatchRecord.setpoints (d : DispatchRecord) : Vector Int 16 := Vector.ofFn fun i : Fin 16 => d.slots[i].n

/-- The RBI takes a dispatch result: a round begins with its setpoints, or, with a round in progress, they become the
pending result (R147). -/
def State.takeSetpoints (s : State) (d : DispatchRecord) : State :=
  match s.rbi.round with
  | none => s.beginRound d.setpoints
  | some _ => s.withRbi { s.rbi with pendingResult := some d.setpoints }

/-- The last turn of a round is over: the round ends, and a pending result begins a new one at once (R156). -/
def State.endRound (s : State) : State :=
  match s.rbi.pendingResult with
  | none => s.withRbi { s.rbi with round := none }
  | some setpoints => (s.withRbi { s.rbi with round := none, pendingResult := none }).beginRound setpoints

/-- The round goes on: it ends if no turn is left and no poll is in flight (R156). -/
def State.continueRound (s : State) : State :=
  match s.rbi.round, s.rbi.inFlight with
  | some r, none => if r.slotPart.isEmpty && r.probePart.isEmpty then s.endRound else s
  | _, _ => s

/-! ## Polls (R149 to R152) -/

/-- The command of a poll by the slot's lifecycle state (R150). An OFFLINE slot is never polled. -/
def commandOf : RotorState → PollCommand
  | .offline => .ident
  | .probing => .ident
  | .parked => .hold
  | .lifting => .lift
  | .spinupWait => .hold
  | .accelerating => .motor
  | .syncWait => .hold
  | .syncing => .sync
  | .online => .setpoint
  | .decelerating => .brake
  | .tripped => .coast

/-- Ticks of the reply window, from a poll's complete sending: 400 µs (R152). -/
def replyWindowTicks : Nat := 4000

/-- One poll to a slot with a command: the slot's tag rises by 1, from 255 to 0; a SETPOINT poll carries the carried
setpoint; a staged pair is offered; the reply window opens at the present tick, at which the poll has been completely
sent (R149, R151, R152). -/
def State.sendPoll (s : State) (i : Slot) (command : PollCommand) (carried : Int) : State :=
  let tag := s.rbi.tags[i] + 1
  s.withRbi
    { s.rbi with
      tags := setSlot s.rbi.tags i tag
      inFlight := some
        { slot := i
          tag := tag
          command := command
          setpoint := if command = .setpoint then carried else 0
          offered := (s.rotor i).staged
          windowClose := tickAfter s.tickCount replyWindowTicks
          abandoned := false } }

/-- The bus is quiet: no frame is being received (R146). -/
def Rbi.quiet (b : Rbi) : Bool := b.assembly.isEmpty

/-- The next turn of a round: a slot of the slot part is polled by its state at that moment, or passed over; then a slot
of the probe part is sent its IDENT probe (R149, R150, R155). While a frame is being received on the bus no poll is sent,
and the turn waits (R146). Passing over the last turn ends the round (R156). -/
def State.takeTurn (s : State) (r : Round) : State :=
  match r.slotPart, r.probePart with
  | i :: rest, _ =>
    let s1 := s.withRbi { s.rbi with round := some { r with slotPart := rest } }
    if polledState (s.rotor i).state then
      if s.rbi.quiet then s1.sendPoll i (commandOf (s.rotor i).state) r.setpoints[i] else s
    else s1.continueRound
  | [], i :: rest =>
    if s.rbi.quiet then (s.withRbi { s.rbi with round := some { r with probePart := rest } }).sendPoll i .ident 0 else s
  | [], [] => s.endRound

/-- The bus comes to a turn: with a round in progress and no poll in flight, the next turn is taken (R146, R149). -/
def State.pollNext (s : State) : State :=
  match s.rbi.inFlight, s.rbi.round with
  | none, some r => s.takeTurn r
  | _, _ => s

/-! ## Replies (R152, R153, R62, R64, R73) -/

/-- The reply window of a poll is open at a tick (R152). A frame and the close at one tick: the one taken first counts. -/
def windowOpen (p : Poll) (t : Tick) : Bool := decide (ticksFrom t p.windowClose ≤ replyWindowTicks)

/-- A report answers a poll: the poll's slot and that slot's tag (R152). -/
def answers (p : Poll) (m : ModuleReport) : Bool := m.slot == p.slot && m.tag == p.tag

/-- The telemetry of a matching reply written into the record, the late count 0, the review flag set by power_cycled
(R62, R64). -/
def RotorRecord.takeReport (r : RotorRecord) (m : ModuleReport) : RotorRecord :=
  { r with
    speed := m.speed
    actualPower := m.actualPower
    temperature := m.temperature
    flags := m.flags
    faultCode := m.faultCode
    lateCount := 0
    review := r.review || m.flags.powerCycled }

/-- An acknowledged offer applied: exactly the pair the poll carried; an equal staged pair is removed (R73). -/
def RotorRecord.takeAck (r : RotorRecord) (ack : Bool) (offered : Option Limits) : RotorRecord :=
  match ack, offered with
  | true, some l => { r with limits := l, staged := if r.staged = some l then none else r.staged }
  | _, _ => r

/-- A matching reply delivered: the telemetry, the review flag, the acknowledged limits, then the RSQ (R153). -/
def State.deliver (s : State) (p : Poll) (m : ModuleReport) : State :=
  (s.setRotor p.slot (((s.rotor p.slot).takeReport m).takeAck m.flags.limitsAck p.offered)).sequenceReply p.slot

/-- A matching reply ends the poll and is delivered, whole, before the round goes on. One to an abandoned poll ends the
poll and is discarded (R152, R153, R158). -/
def State.takeReport (s : State) (p : Poll) (m : ModuleReport) : State :=
  let s1 := s.withRbi { s.rbi with inFlight := none }
  (if p.abandoned then s1 else s1.deliver p m).continueRound

/-- A frame has been completely received on the rotor bus: one that does not match the poll in flight is discarded and
changes no state (R152). -/
def State.busFrame (s : State) (frame : List Byte) : State :=
  match s.rbi.inFlight, readReply frame with
  | some p, some m => if windowOpen p s.tickCount && answers p m then s.takeReport p m else s
  | _, _ => s

/-- Bytes come on the rotor bus: they join the frame that is being received, or begin one at a 0xB2; its twelfth byte
completes it (R152, R199). No bytes: the bus has fallen idle, and a frame that was being received has ended unfinished
(log entry 25). -/
def State.busBytes (s : State) (bytes : List Byte) : State :=
  let arrived := s.rbi.assembly ++ bytes
  let holding := fun l : List Byte => s.withRbi { s.rbi with assembly := l }
  if bytes.isEmpty then holding []
  else
    match assembleReply arrived with
    | none => holding (replyBytesFrom arrived)
    | some frame => (holding []).busFrame frame

/-- The reply window closes with no matching reply: the poll is late, the RSQ acts, the round goes on. The close of an
abandoned poll's window raises no late count and is not delivered (R154, R158). -/
def State.closeWindow (s : State) (p : Poll) : State :=
  let s1 := s.withRbi { s.rbi with inFlight := none }
  (if p.abandoned then s1 else s1.sequenceLate p.slot).continueRound

/-! ## A sample's passage (R16, R78, R92) -/

/-- The dispatch result handed to its four consumers: RBI, ORL, RTB, EVT (R92). They touch different state. -/
def State.consume (s : State) (d : DispatchRecord) : State :=
  (((s.takeSetpoints d).accountOrder d).countThroughput d).countEvent d

/-- A dispatch computed and its result consumed (R78, R92). -/
def State.dispatch (s : State) (sm : Sample) : State := (s.computeDispatch sm).1.consume (s.computeDispatch sm).2

/-- A sample's whole passage: the FMU's measuring of it, then the EVT, the DSE and the consumers (R6, R16, R92). -/
def State.passage (s : State) (t : Tick) (valid : Bool) : State :=
  let r := s.measure t valid
  (r.1.monitor r.2).dispatch r.2

end Sys2Proof.Machine
end

