-- ==== Sys2Proof/Machine/Reports.lean ====
section
/-! DEFINITION. The records that replies and notices carry, in bytes (chapter 11): the bank header, the rotor snapshot
record, the event record, the bodies of the replies that report, the notice payloads; and the capture of a snapshot
(R181). -/

namespace Sys2Proof.Machine

/-! ## Records (R195 to R197) -/

/-- The largest Δt that three bytes carry (R189). -/
def maxSentInterval : Nat := 16777215

/-- The saved mode's code in the bank header: 3 when it is absent (R195). -/
def savedModeCode : Option HostMode → Nat
  | none => 3
  | some m => hostModeCode m

/-- The dispatch fields of the bank header that precede offset 9, and those from offset 11 on (R195). -/
def headerHead (d : DispatchRecord) : List Byte := beBytes 6 d.plantTime ++ beBytes 3 (min maxSentInterval d.dt)

def headerTail (d : DispatchRecord) : List Byte :=
  beIntBytes 2 (d.df.getD 0) ++ beIntBytes 2 (d.rocof.getD 0) ++ beIntBytes 2 d.pCurve ++ beIntBytes 3 d.pIn ++
    beIntBytes 2 d.demand ++ beBytes 2 d.fServed ++ beBytes 2 (d.orderId.getD 0) ++ beIntBytes 2 d.po ++ beBytes 2 d.oServed

/-- Zeros in n bytes. -/
def zeros (n : Nat) : List Byte := beBytes n 0

/-- The bank header, 30 bytes (R195). With no dispatch record its fields read 0. -/
def State.bankHeader (s : State) : List Byte :=
  let modes := modeCode s.evt.mode + 8 * savedModeCode s.evt.savedMode
  match s.dse.latest with
  | none => zeros 9 ++ [byteOf modes, byteOf (8 * measStateCode s.fmu.state)] ++ zeros 19
  | some d =>
    headerHead d ++
      [byteOf (modes + 32 * measStateCode d.state + 128),
       byteOf (bitAt 0 d.held + bitAt 1 d.saturated + bitAt 2 d.exhausted + 8 * measStateCode s.fmu.state)] ++
      headerTail d

/-- The rotor snapshot record, 24 bytes (R196). -/
def RotorRecord.snapshot (r : RotorRecord) : List Byte :=
  [byteOf (rotorStateCode r.state), byteOf (rotorCauseCode r.cause), byteOf r.group.val, rolesByte r.roles] ++
    beBytes 2 r.speed ++ beIntBytes 1 r.temperature ++
    [moduleFlagsByte r.flags, byteOf (faultCodeCode r.faultCode), byteOf (faultCodeCode r.latched),
     byteOf (r.lateCount + 16 * r.attempts),
     byteOf (bitAt 0 r.derated + bitAt 1 r.review + bitAt 2 r.staged.isSome + bitAt 3 r.probeNoModule)] ++
    beBytes 2 r.soc ++ beBytes 2 r.ld ++ beBytes 2 r.la ++ beIntBytes 2 r.shares.f ++ beIntBytes 2 r.shares.o ++
    beIntBytes 2 r.shares.n

/-- The event record, 36 bytes (R197). -/
def EventRecord.bytes (r : EventRecord) : List Byte :=
  beBytes 2 r.number ++ [triggersByte r.cause, byteOf (hostModeCode r.entryMode)] ++ beBytes 6 r.startTime ++
    beIntBytes 2 r.dfAtTrigger ++ beIntBytes 2 r.rocofAtTrigger ++ beIntBytes 2 r.nadir ++ beIntBytes 2 r.zenith ++
    beBytes 1 r.retriggers ++ beBytes 4 r.discharged.kJ ++ beBytes 4 r.absorbed.kJ ++ beBytes 2 r.peakUnserved ++
    (match r.ended with
     | none => zeros 7
     | some (t, c) => beBytes 6 t ++ [byteOf (eventEndCode c)])

/-! ## Reply bodies (R192) -/

/-- The body of IDENTIFY: codes, revision, capacities (R180, R192). -/
def identity : List Byte :=
  beBytes 2 0x0A71 ++ beBytes 2 0x0B16 ++ [Config.revision, 16#8, 8#8, 12#8, 4#8, 4#8]

/-- The eleven lifecycle states by their codes (R190). -/
def rotorStates : List RotorState :=
  [.offline, .probing, .parked, .lifting, .spinupWait, .accelerating, .syncWait, .syncing, .online, .decelerating, .tripped]

/-- The number of slots in each lifecycle state (R179). -/
def State.rotorCounts (s : State) : List Byte :=
  rotorStates.map fun st => byteOf (allSlots.filter fun i => (s.rotor i).state == st).length

/-- The number of order records in each order state (R179). -/
def Orl.counts (l : Orl) : List Byte :=
  (List.range 6).map fun c => byteOf (l.orders.filter fun o => orderStateCode o.status == c).length

/-- The three link counters (R164). -/
def Lif.counters (l : Lif) : List Byte := beBytes 2 l.gapCount ++ beBytes 2 l.crcCount ++ beBytes 2 l.overrunCount

/-- F_unserved of the latest dispatch record, 0 while it is absent (R179). -/
def Dse.latestUnserved (d : Dse) : Nat :=
  match d.latest with
  | none => 0
  | some r => r.fUnserved

/-- The body of STATUS, 72 bytes (R179, R192). -/
def State.statusBody (s : State) : List Byte :=
  s.bankHeader ++ beBytes 6 s.plantTime ++ beIntBytes 4 s.fmu.reported.f ++ beIntBytes 2 s.fmu.reported.df ++
    beIntBytes 2 s.fmu.reported.rocof ++ [summaryByte s.stu.flags] ++ s.lif.counters ++
    [byteOf (resetCauseCode s.stu.resetCause), byteOf (bitAt 0 s.dse.pendingCurve.isSome)] ++
    beBytes 2 s.dse.latestUnserved ++ s.rotorCounts ++ s.orl.counts

/-- The body of CLEAR SUMMARY, 7 bytes: flags and counters as they stood (R178). -/
def State.summaryBody (s : State) : List Byte := summaryByte s.stu.flags :: s.lif.counters

/-- A breakpoint in six bytes (R193). -/
def Breakpoint.bytes (b : Breakpoint) : List Byte := beIntBytes 4 b.df ++ beIntBytes 2 b.p

/-- A curve with its count (R192). -/
def curveBytes (c : List Breakpoint) : List Byte := byteOf c.length :: c.flatMap Breakpoint.bytes

/-- The body of READ CURVE (R30, R192). -/
def Dse.curveBody (d : Dse) : List Byte :=
  curveBytes d.curve ++ [byteOf (bitAt 0 d.pendingCurve.isSome)] ++ curveBytes (d.pendingCurve.getD [])

/-- The body of READ EVENTS, newest first (R56, R192). -/
def Evt.eventsBody (e : Evt) : List Byte := byteOf e.history.length :: e.history.reverse.flatMap EventRecord.bytes

/-- The body of ROTOR STATUS, 50 bytes (R76, R192). -/
def RotorRecord.statusBody (r : RotorRecord) : List Byte :=
  r.snapshot ++ beBytes 2 r.limits.rating ++ beBytes 4 r.eCap ++ beBytes 2 r.smin ++ beBytes 2 r.sbase ++ beBytes 2 r.smax ++
    beBytes 1 r.limits.derate ++
    (match r.staged with
     | none => zeros 3
     | some l => beBytes 2 l.rating ++ beBytes 1 l.derate) ++
    beIntBytes 2 r.actualPower ++ beBytes 4 r.discharged.kJ ++ beBytes 4 r.absorbed.kJ

/-- The presence mask of an order record (R192, R194). -/
def Order.presence (o : Order) : Byte :=
  byteOf (bitAt 0 o.startTime.isSome + bitAt 1 o.deadline.isSome + bitAt 2 o.repeats.isSome)

/-- The body of ORDER STATUS, 57 bytes (R112, R192): the remaining quota in kJ rounded up, the delivered total in kJ
truncated. -/
def Order.statusBody (o : Order) : List Byte :=
  beBytes 2 o.id ++ [byteOf (directionCode o.direction), byteOf o.group.val] ++ beBytes 2 o.power ++ beBytes 4 o.quota ++
    beBytes 4 ((o.remaining + 999) / 1000) ++ [o.presence] ++ beBytes 6 (o.startTime.getD 0) ++
    beBytes 6 (o.deadline.getD 0) ++
    (match o.repeats with
     | none => zeros 4
     | some r => [byteOf r.count, byteOf (conditionCode r.condition)] ++ beBytes 2 r.x) ++
    [byteOf (orderStateCode o.status), byteOf (orderCauseCode o.status)] ++ beBytes 6 o.placed ++
    beBytes 6 (o.activated.getD 0) ++ beBytes 6 (o.ended.getD 0) ++ beBytes 6 (o.delivered / 1000)

/-- The body of LIST ORDERS (R113, R192). -/
def Orl.listBody (l : Orl) : List Byte :=
  byteOf l.orders.length :: l.orders.flatMap fun o => beBytes 2 o.id ++ [byteOf (orderStateCode o.status)]

/-! ## Snapshots (R181, R182) -/

/-- The capture of the present moment (R181). -/
def State.captureNow (s : State) : Capture := ⟨s.bankHeader, Vector.ofFn fun i : Fin 16 => (s.rotor i).snapshot⟩

/-- The rotor records of a capture for slots from a first one on, n of them. -/
def Capture.slots (c : Capture) (first n : Nat) : List Byte :=
  ((c.records.toList.drop first).take n).flatMap id

/-! ## Notice payloads (R172, R198) -/

/-- The newest event record; zeros where the history is empty, which no EVENT CHANGE finds (log entry 14). -/
def Evt.newestBytes (e : Evt) : List Byte :=
  match e.history.reverse with
  | [] => zeros 36
  | r :: _ => r.bytes

/-- The payload of a notice, from its owner's state at the moment it is begun (R172, R198). -/
def State.noticePayload (s : State) : NoticeKind → List Byte
  | .start => byteOf (resetCauseCode s.stu.resetCause) :: beBytes 6 s.plantTime
  | .event => byteOf (modeCode s.evt.mode) :: s.evt.newestBytes
  | .rotor =>
    byteOf s.rsq.changed.length :: s.rsq.changed.flatMap fun i =>
      [byteOf i.val, byteOf (rotorStateCode (s.rotor i).state), byteOf (rotorCauseCode (s.rotor i).cause)]
  | .order =>
    let told := s.orl.orders.filter fun o => s.orl.changed.contains o.id
    byteOf told.length :: told.flatMap fun o =>
      beBytes 2 o.id ++ [byteOf (orderStateCode o.status), byteOf (orderCauseCode o.status)]
  | .measurement => [byteOf (measStateCode s.fmu.state)]
  | .halt => [byteOf (stopLevelCode s.evt.stopLevel)]

end Sys2Proof.Machine
end

