-- ==== Sys2Proof/Machine/Lif.lean ====
section
/-! DEFINITION. The Link Interface (chapter 09): the receiver, the request slot and its checks, replies and the status byte,
the arbiter of the transmitter; and the resets (R184), which the release of the slot after a RESTART brings about. -/

namespace Sys2Proof.Machine

/-! ## Resets (R57, R184 to R188) -/

/-- A reset takes effect at a tick for a cause: every block takes its reset state; a stop line that is low is taken as an
assertion at once (R57, R184). The commands that wait outside the part stay. -/
def State.takeReset (s : State) (cause : ResetCause) (t : Tick) (line : StopLevel) : State :=
  let s1 := State.blocksReset cause t s.pending
  match line with
  | .released => s1
  | .asserted => (s1.withEvt { s1.evt with mode := .halted, stopLevel := .asserted }).addNotice .halt

/-! ## Counting what the receiver discards (R164) -/

/-- A link counter raised, saturating at 65,535 (R164). -/
def countLink (n : Nat) : Nat := min 65535 (n + 1)

/-- Ticks of the gap timer: 5 ms (R162). -/
def gapTicks : Nat := 50000

/-- The largest LEN (R161). -/
def maxPayload : Nat := 240

/-- The frame in assembly is abandoned and counted by the CRC counter (R160, R161). -/
def State.abandonFrame (s : State) : State :=
  (s.withLif { s.lif with receiver := .hunting, gapExpiry := none, crcCount := countLink s.lif.crcCount }).raise .linkError

/-- The gap timer expires with a frame in assembly: abandoned, counted by the gap counter (R162). -/
def State.abandonByGap (s : State) : State :=
  (s.withLif { s.lif with receiver := .hunting, gapExpiry := none, gapCount := countLink s.lif.gapCount }).raise .linkError

/-! ## Replies (R167, R169) -/

/-- The status byte, from the state as it stands (R169, R191). -/
def State.statusByte (s : State) : Byte :=
  byteOf (modeCode s.evt.mode + bitAt 3 s.stu.flags.any + bitAt 4 s.lif.overrunMark + bitAt 5 s.lif.pendingNotices.any +
    bitAt 6 s.dse.pendingCurve.isSome)

/-- The reply to a request is formed: kind plus 0x80, the request's tag, result code, status byte, body. It waits for the
transmitter, and the overrun mark is cleared (R167, R169). -/
def State.formReply (s : State) (r : Request) (code : ResultCode) (body : List Byte) : State :=
  s.withLif
    { s.lif with
      slot := some { r with taken := true }
      waiting := some (linkFrame (r.kind + 0x80#8) r.tag (resultCodeByte code :: s.statusByte :: body))
      overrunMark := false }

/-! ## The request slot (R165 to R167) -/

/-- The LIF's own checks of a request in the slot, before its owner takes it: the kind, then the length fixed for it
(R167). -/
def State.checkRequest (s : State) (r : Request) : State :=
  match requestKindOfByte r.kind with
  | none => s.formReply r .badKind []
  | some k =>
    match fixedLength k with
    | none => s
    | some n => if r.payload.length = n then s else s.formReply r .badLength []

/-- A well-formed frame offered to the slot: an occupied slot makes it an overrun (R165, R166). -/
def State.offerRequest (s : State) (r : Request) : State :=
  match s.lif.slot with
  | some _ =>
    (s.withLif { s.lif with overrunCount := countLink s.lif.overrunCount, overrunMark := true }).raise .overrun
  | none => (s.withLif { s.lif with slot := some r }).checkRequest r

/-- The request that a well-formed frame carries. -/
def requestOf (frame : List Byte) : Request where
  kind := byteOf (field frame 1 1)
  tag := byteOf (field frame 2 1)
  payload := (frame.drop 4).take (frame.length - 6)
  taken := false

/-- A completed frame is checked: a CRC that differs discards and counts it; one that agrees offers it to the slot. The
receiver hunts (R161, R163). -/
def State.checkFrame (s : State) (frame : List Byte) : State :=
  let s1 := s.withLif { s.lif with receiver := .hunting, gapExpiry := none }
  if linkFrameAgrees frame then s1.offerRequest (requestOf frame) else s1.abandonFrame

/-! ## The receiver (R160 to R162) -/

/-- A byte taken while hunting: START begins a frame and starts the gap timer; every other byte, and a broken one, is
discarded (R160, R161). -/
def State.huntByte (s : State) (b : Byte) (broken : Bool) : State :=
  if b = 0xC3#8 ∧ broken = false then
    s.withLif { s.lif with receiver := .assembling [b], gapExpiry := some (tickAfter s.tickCount gapTicks) }
  else s

/-- A byte joins the frame in assembly: a LEN above 240 abandons it, the last CRC byte completes it and stops the gap
timer, any other restarts the timer (R161, R162). -/
def State.joinByte (s : State) (bytes : List Byte) (b : Byte) : State :=
  let frame := bytes ++ [b]
  let len := field frame 3 1
  if frame.length < 4 then
    s.withLif { s.lif with receiver := .assembling frame, gapExpiry := some (tickAfter s.tickCount gapTicks) }
  else if maxPayload < len then s.abandonFrame
  else if frame.length = 6 + len then s.withLif { s.lif with receiver := .complete frame, gapExpiry := none }
  else s.withLif { s.lif with receiver := .assembling frame, gapExpiry := some (tickAfter s.tickCount gapTicks) }

/-- A byte is taken from the link (R160, R161). A completed frame that has not been checked yet is checked first (log
entry 7). -/
def State.takeByte (s : State) (b : Byte) (broken : Bool) : State :=
  match s.lif.receiver with
  | .hunting => s.huntByte b broken
  | .assembling bytes => if broken then s.abandonFrame else s.joinByte bytes b
  | .complete frame => (s.checkFrame frame).huntByte b broken

/-! ## An owner takes the request (R165) -/

/-- What an owner answers: the state it leaves, the result code, and the body of an accepted reply (R168, R192). -/
structure Answer where
  state : State
  code : ResultCode
  body : List Byte

/-- A refused request changes no state (R168). -/
def refuse (s : State) (code : ResultCode) : Answer := ⟨s, code, []⟩

/-- An accepted request with no body. -/
def accept (s : State) (clamped : Bool) : Answer := ⟨s, acceptedCode clamped, []⟩

/-- An accepted request whose reply has a body. -/
def report (s : State) (body : List Byte) : Answer := ⟨s, .ok, body⟩

/-- The owner of a kind takes the request that the slot holds and that it has not taken yet, and the reply is formed
from its answer and the state then (R165, R169). `after_` is what follows the forming of the reply (R76, R112). With no
such request in the slot there is nothing to take (log entry 4). -/
def State.takeRequest (s : State) (kind : RequestKind) (suits : List Byte → Bool)
    (owner : State → List Byte → Answer) (after_ : State → List Byte → State) : State :=
  match s.lif.slot with
  | none => s
  | some r =>
    if r.kind = requestKindByte kind ∧ r.taken = false ∧ suits r.payload = true then
      after_ ((owner s r.payload).state.formReply r (owner s r.payload).code (owner s r.payload).body) r.payload
    else s

/-- Every payload suits. -/
def anyPayload (_ : List Byte) : Bool := true

/-- Nothing follows the forming of the reply. -/
def nothingAfter (s : State) (_ : List Byte) : State := s

/-! ## The transmitter (R170 to R172, R186) -/

/-- The waiting reply is begun when the transmitter is free (R170). -/
def State.beginReply (s : State) : State :=
  match s.lif.sending, s.lif.waiting with
  | none, some frame => s.withLif { s.lif with sending := some ⟨frame, true⟩, waiting := none }
  | _, _ => s

/-- The change set that a begun notice empties (R172). -/
def State.emptyChangeSet (s : State) : NoticeKind → State
  | .start => s
  | .event => s
  | .rotor => s.withRsq { s.rsq with changed := [] }
  | .order => s.withOrl { s.orl with changed := [] }
  | .measurement => s
  | .halt => s

/-- The arbiter may begin a notice: the transmitter is free, no reply waits, and the kind is the lowest pending (R170). -/
def Lif.mayBegin (l : Lif) (k : NoticeKind) : Bool :=
  l.sending.isNone && l.waiting.isNone && l.pendingNotices.lowest == some k

/-- A notice is begun: the kind leaves the pending set, its payload is formed, its change set is emptied. Its tag is 0
(R172). -/
def State.beginNotice (s : State) (k : NoticeKind) : State :=
  if s.lif.mayBegin k then
    (s.emptyChangeSet k).withLif
      { s.lif with
        sending := some ⟨linkFrame (noticeKindByte k) 0#8 (s.noticePayload k), false⟩
        pendingNotices := s.lif.pendingNotices.put false k }
  else s

/-- The last byte of a notice has been sent: the transmitter falls free (R170). -/
def State.endNotice (s : State) : State :=
  match s.lif.sending with
  | some f => if f.isReply then s else s.withLif { s.lif with sending := none }
  | none => s

/-- The last byte of a reply has been sent: the transmitter falls free and the request slot is released; with restart
pending, a reset with cause RESTART takes effect, the tick count running on (R171, R184, R186). -/
def State.endReply (s : State) (line : StopLevel) : State :=
  match s.lif.sending with
  | some f =>
    if f.isReply then
      if s.stu.restartPending then s.takeReset .restart s.tickCount line
      else s.withLif { s.lif with sending := none, slot := none }
    else s
  | none => s

end Sys2Proof.Machine
end

