-- ==== Sys2Proof/Machine/BankRequests.lean ====
section
/-! DEFINITION. The meanings of the requests to the STU, LIF, EVT, FMU and DSE: rows IDENTIFY to SNAPSHOT_PART_1. Each owner
reads its fields from the payload at the widths of R189, in the order its rule lists them. -/

namespace Sys2Proof.Machine

/-- IDENTIFY's owner (R180). -/
def ownIdentify (s : State) (_ : List Byte) : Answer := report s identity

/-- STATUS's owner (R179). -/
def ownStatus (s : State) (_ : List Byte) : Answer := report s s.statusBody

/-- Every flag cleared and the three counters 0 (R178). -/
def State.clearSummary (s : State) : State :=
  (s.withStu { s.stu with flags := Summary.none }).withLif { s.lif with gapCount := 0, crcCount := 0, overrunCount := 0 }

/-- CLEAR SUMMARY's owner: the flags and counters as they stood are in the reply, which is formed after the clear
(R178). -/
def ownClearSummary (s : State) (_ : List Byte) : Answer := report s.clearSummary s.summaryBody

/-- SET CLOCK's owner: the offset makes plant time read the clamped value now (R174). -/
def ownSetClock (s : State) (p : List Byte) : Answer :=
  let v := clampNat 0 maxPlantTime (field p 0 6)
  accept (s.withStu { s.stu with offset := (v : Int) - (s.tickCount.toNat / ticksPerMs : Nat) }) (v != field p 0 6)

/-- SET MODE's owner (R35). -/
def ownSetMode (s : State) (p : List Byte) : Answer :=
  match hostModeOfCode (field p 0 1) with
  | none => refuse s .badValue
  | some m =>
    match s.evt.mode with
    | .idle => accept (s.withEvt { s.evt with mode := modeOfHost m }) false
    | .guard => accept (s.withEvt { s.evt with mode := modeOfHost m }) false
    | .armed => accept (s.withEvt { s.evt with mode := modeOfHost m }) false
    | .event => accept (s.withEvt { s.evt with savedMode := some m }) false
    | .halted => refuse s .halted

/-- The state after an accepted SET MEASUREMENT (R12, R15, R17): the FMU set afresh, the region memory unknown, and
MEASUREMENT CHANGE added if the state was not LOST already. -/
def State.setMeasurement (s : State) (nom : Nominal) (n w : Nat) : State :=
  ((s.withFmu (s.fmu.configure nom n w s.tickCount)).withEvt { s.evt with memory := none }).addNoticeIf
    (s.fmu.state != .lost) .measurement

/-- SET MEASUREMENT's owner (R17). -/
def ownSetMeasurement (s : State) (p : List Byte) : Answer :=
  if s.evt.mode ≠ .idle then refuse s .notIdle
  else
    match nominalOfCode (field p 0 1) with
    | none => refuse s .badValue
    | some nom =>
      let n := clampNat 1 8 (field p 1 1)
      let w := clampNat 1 16 (field p 2 1)
      accept (s.setMeasurement nom n w) (n != field p 1 1 || w != field p 2 1)

/-- SET EVENT's owner (R55, R21). -/
def ownSetEvent (s : State) (p : List Byte) : Answer :=
  match edgeModeOfCode (field p 4 1) with
  | none => refuse s .badValue
  | some edge =>
    let u := clampNat 20 3000 (field p 0 2)
    let o := clampNat 20 3000 (field p 2 2)
    let rt := clampNat 0 5000 (field p 5 2)
    let b := clampNat 10 1000 (field p 7 2)
    let h := clampNat 0 60000 (field p 9 2)
    let k := clampNat 0 4000 (field p 11 2)
    accept
      ((s.withEvt
        { s.evt with uThreshold := u, oThreshold := o, edgeMode := edge, rocofThreshold := rt, band := b, hold := h }).withDse
        { s.dse with kIn := k })
      (u != field p 0 2 || o != field p 2 2 || rt != field p 5 2 || b != field p 7 2 || h != field p 9 2 || k != field p 11 2)

/-- SET BANK LIMITS's owner (R31). -/
def ownSetBankLimits (s : State) (p : List Byte) : Answer :=
  let pd := clampNat 0 8000 (field p 0 2)
  let pa := clampNat 0 8000 (field p 2 2)
  let lo := clampNat 0 1000 (field p 4 2)
  let hi := clampNat 0 1000 (field p 6 2)
  let limit := clampNat 60 3600 (field p 8 2)
  if hi ≤ lo then refuse s .inconsistent
  else
    accept
      (s.withDse { s.dse with pdBank := pd, paBank := pa, floor := lo, ceiling := hi, spinUpLimit := limit })
      (pd != field p 0 2 || pa != field p 2 2 || lo != field p 4 2 || hi != field p 6 2 || limit != field p 8 2)

/-- Breakpoint i of a SET CURVE payload, as sent (R193). -/
def sentBreakpoint (p : List Byte) (i : Nat) : Breakpoint := ⟨signedField p (1 + 6 * i) 4, signedField p (5 + 6 * i) 2⟩

/-- A breakpoint clamped (R26). -/
def Breakpoint.clamp (b : Breakpoint) : Breakpoint := ⟨clampInt (-5000) 5000 b.df, clampInt (-8000) 8000 b.p⟩

/-- The breakpoints of a SET CURVE payload, as sent. -/
def sentCurve (p : List Byte) : List Breakpoint := (List.range (field p 0 1)).map (sentBreakpoint p)

/-- The df values strictly ascend (R19, R26). -/
def strictlyAscending : List Breakpoint → Bool
  | [] => true
  | [_] => true
  | b :: c :: rest => decide (b.df < c.df) && strictlyAscending (c :: rest)

/-- The length of a SET CURVE payload agrees with its count, which lies within 2 to 12 (R26). -/
def curveLengthAgrees (p : List Byte) : Bool :=
  decide (p.length = 1 + 6 * field p 0 1 ∧ 2 ≤ field p 0 1 ∧ field p 0 1 ≤ 12)

/-- An accepted curve becomes the active curve, or in EVENT the pending curve (R27, R28). -/
def Dse.takeCurve (d : Dse) (m : Mode) (c : List Breakpoint) : Dse :=
  match m with
  | .event => { d with pendingCurve := some c }
  | .idle => { d with curve := c }
  | .guard => { d with curve := c }
  | .armed => { d with curve := c }
  | .halted => { d with curve := c }

/-- SET CURVE's owner (R26 to R28). -/
def ownSetCurve (s : State) (p : List Byte) : Answer :=
  if curveLengthAgrees p = false then refuse s .badLength
  else
    let sent := sentCurve p
    let c := sent.map Breakpoint.clamp
    if strictlyAscending c = false then refuse s .inconsistent
    else accept (s.withDse (s.dse.takeCurve s.evt.mode c)) (c != sent)

/-- READ CURVE's owner (R30). -/
def ownReadCurve (s : State) (_ : List Byte) : Answer := report s s.dse.curveBody

/-- READ EVENTS's owner (R56). -/
def ownReadEvents (s : State) (_ : List Byte) : Answer := report s s.evt.eventsBody

/-- A new notice mask acts: disabled kinds leave the pending set, and their change sets are emptied (R173). -/
def State.setMask (s : State) (m : NoticeSet) : State :=
  ((s.withLif { s.lif with mask := m, pendingNotices := s.lif.pendingNotices.inter m }).withRsq
    { s.rsq with changed := if m.rotor then s.rsq.changed else [] }).withOrl
      { s.orl with changed := if m.order then s.orl.changed else [] }

/-- SET NOTICES's owner (R173). -/
def ownSetNotices (s : State) (p : List Byte) : Answer :=
  match noticeSetOfByte (byteOf (field p 0 1)) with
  | none => refuse s .badValue
  | some m => accept (s.setMask m) false

/-- Every enrolled rotor is PARKED (R185). -/
def State.allParked (s : State) : Bool :=
  allSlots.all fun i => (s.rotor i).state == .offline || (s.rotor i).state == .parked

/-- RESTART's owner (R185). -/
def ownRestart (s : State) (_ : List Byte) : Answer :=
  if s.evt.mode ≠ .idle then refuse s .notIdle
  else if s.allParked = false then refuse s .wrongState
  else accept (s.withStu { s.stu with restartPending := true }) false

/-- Whether a SNAPSHOT names part 1, which the row SNAPSHOT_PART_1 takes; the row SNAPSHOT_PART_0 takes every other
(log entry 10). -/
def namesPart1 (p : List Byte) : Bool := field p 0 1 == 1

/-- Every SNAPSHOT that does not name part 1. -/
def namesAnotherPart (p : List Byte) : Bool := !namesPart1 p

/-- SNAPSHOT part 0's owner: a new capture, held, and its header with slots 0 to 7; a part that names neither 0 nor 1 is
refused (R181). -/
def ownSnapshotPart0 (s : State) (p : List Byte) : Answer :=
  if field p 0 1 = 0 then
    report (s.withStu { s.stu with capture := some s.captureNow }) (s.captureNow.header ++ s.captureNow.slots 0 8)
  else refuse s .badValue

/-- SNAPSHOT part 1's owner: slots 8 to 15 of the held capture, which is released (R182). -/
def ownSnapshotPart1 (s : State) (_ : List Byte) : Answer :=
  match s.stu.capture with
  | none => refuse s .noSnapshot
  | some c => report (s.withStu { s.stu with capture := none }) (c.slots 8 8)

/-- IDENTIFY (R180). -/
def execIdentify (s : State) : Host.Outcome State Fault Refusal :=
  s.taking fun s => s.takeRequest .identify anyPayload ownIdentify nothingAfter

/-- STATUS (R179). -/
def execStatus (s : State) : Host.Outcome State Fault Refusal :=
  s.taking fun s => s.takeRequest .status anyPayload ownStatus nothingAfter

/-- CLEAR_SUMMARY (R178). -/
def execClearSummary (s : State) : Host.Outcome State Fault Refusal :=
  s.taking fun s => s.takeRequest .clearSummary anyPayload ownClearSummary nothingAfter

/-- SET_CLOCK (R174). -/
def execSetClock (s : State) : Host.Outcome State Fault Refusal :=
  s.taking fun s => s.takeRequest .setClock anyPayload ownSetClock nothingAfter

/-- SET_MODE (R35). -/
def execSetMode (s : State) : Host.Outcome State Fault Refusal :=
  s.taking fun s => s.takeRequest .setMode anyPayload ownSetMode nothingAfter

/-- SET_MEASUREMENT (R17). -/
def execSetMeasurement (s : State) : Host.Outcome State Fault Refusal :=
  s.taking fun s => s.takeRequest .setMeasurement anyPayload ownSetMeasurement nothingAfter

/-- SET_EVENT (R55). -/
def execSetEvent (s : State) : Host.Outcome State Fault Refusal :=
  s.taking fun s => s.takeRequest .setEvent anyPayload ownSetEvent nothingAfter

/-- SET_BANK_LIMITS (R31). -/
def execSetBankLimits (s : State) : Host.Outcome State Fault Refusal :=
  s.taking fun s => s.takeRequest .setBankLimits anyPayload ownSetBankLimits nothingAfter

/-- SET_CURVE (R26). -/
def execSetCurve (s : State) : Host.Outcome State Fault Refusal :=
  s.taking fun s => s.takeRequest .setCurve anyPayload ownSetCurve nothingAfter

/-- READ_CURVE (R30). -/
def execReadCurve (s : State) : Host.Outcome State Fault Refusal :=
  s.taking fun s => s.takeRequest .readCurve anyPayload ownReadCurve nothingAfter

/-- READ_EVENTS (R56). -/
def execReadEvents (s : State) : Host.Outcome State Fault Refusal :=
  s.taking fun s => s.takeRequest .readEvents anyPayload ownReadEvents nothingAfter

/-- SET_NOTICES (R173). -/
def execSetNotices (s : State) : Host.Outcome State Fault Refusal :=
  s.taking fun s => s.takeRequest .setNotices anyPayload ownSetNotices nothingAfter

/-- RESTART (R185). -/
def execRestart (s : State) : Host.Outcome State Fault Refusal :=
  s.taking fun s => s.takeRequest .restart anyPayload ownRestart nothingAfter

/-- SNAPSHOT_PART_0 (R181). -/
def execSnapshotPart0 (s : State) : Host.Outcome State Fault Refusal :=
  s.taking fun s => s.takeRequest .snapshot namesAnotherPart ownSnapshotPart0 nothingAfter

/-- SNAPSHOT_PART_1 (R182). -/
def execSnapshotPart1 (s : State) : Host.Outcome State Fault Refusal :=
  s.taking fun s => s.takeRequest .snapshot namesPart1 ownSnapshotPart1 nothingAfter

end Sys2Proof.Machine
end

