-- ==== Sys2Proof/Machine/Bus.lean ====
section
/-! DEFINITION. The meanings of the rotor bus events and of the rotor timers: rows POLL, MODULE_REPLY, REPLY_WINDOW_CLOSE,
LIFT_TIMER_EXPIRY, SPINUP_TIMER_EXPIRY, SYNC_TIMER_EXPIRY. -/

namespace Sys2Proof.Machine

/-- The window of the poll in flight closes at its close tick (R154); with no poll in flight no window is open. -/
def State.windowCloses (s : State) : State :=
  match s.rbi.inFlight with
  | none => s
  | some p => (s.advanceTo p.windowClose).closeWindow p

/-- A rotor timer expires at its expiry tick, in the state it belongs to (R124). A stopped timer does not expire. -/
def State.timerExpires (s : State) (i : Slot) (st : RotorState) (act : State → State) : State :=
  match s.rsq.timer i with
  | none => s
  | some t => if (s.rotor i).state = st then act (s.advanceTo t) else s

/-- The sync attempts a rotor has in all (R134). -/
def maxAttempts : Nat := 3

/-- A sync timer's expiry fails the attempt: below 3 attempts the rotor rejoins the sync queue, at 3 it is braked with
cause SYNC_FAIL. In both cases the unit is freed and handed on (R134). -/
def State.syncFails (s : State) (i : Slot) : State :=
  if (s.rotor i).attempts < maxAttempts then s.joinSync i else s.brake i .syncFail

/-- POLL (R146, R149). -/
def execPoll (dt : Nat) (s : State) : Host.Outcome State Fault Refusal := s.taking fun s => (s.advance dt).pollNext

/-- MODULE_REPLY (R152). -/
def execModuleReply (dt : Nat) (bytes : List Byte) (s : State) : Host.Outcome State Fault Refusal :=
  s.taking fun s => (s.advance dt).busBytes bytes

/-- REPLY_WINDOW_CLOSE (R154). -/
def execReplyWindowClose (s : State) : Host.Outcome State Fault Refusal := s.taking State.windowCloses

/-- LIFT_TIMER_EXPIRY (R129). -/
def execLiftTimerExpiry (slot : Slot) (s : State) : Host.Outcome State Fault Refusal :=
  s.taking fun s => s.timerExpires slot .lifting fun s => s.trip slot .liftTimeout

/-- SPINUP_TIMER_EXPIRY (R131). -/
def execSpinupTimerExpiry (slot : Slot) (s : State) : Host.Outcome State Fault Refusal :=
  s.taking fun s => s.timerExpires slot .accelerating fun s => s.brake slot .spinupTimeout

/-- SYNC_TIMER_EXPIRY (R134). -/
def execSyncTimerExpiry (slot : Slot) (s : State) : Host.Outcome State Fault Refusal :=
  s.taking fun s => s.timerExpires slot .syncing fun s => s.syncFails slot

end Sys2Proof.Machine
end

