-- ==== Sys2Proof/Machine/LinkEvents.lean ====
section
/-! DEFINITION. The meanings of the supervisory link's own events: rows LINK_BYTE_RECEIVED, FRAME_COMPLETED,
GAP_TIMER_EXPIRY, REPLY_SEND, REQUEST_SLOT_RELEASE, NOTICE_FRAME_END, and the six notices START, EVENT_CHANGE,
ROTOR_CHANGE, ORDER_CHANGE, MEASUREMENT_CHANGE, HALT_CHANGE. -/

namespace Sys2Proof.Machine

/-- The completed frame that the receiver holds is checked (R163); with none there is nothing to check. -/
def State.completeFrame (s : State) : State :=
  match s.lif.receiver with
  | .hunting => s
  | .assembling _ => s
  | .complete frame => s.checkFrame frame

/-- The gap timer expires at its expiry tick (R162). A stopped timer does not expire. -/
def State.gapExpires (s : State) : State :=
  match s.lif.gapExpiry with
  | none => s
  | some t => (s.advanceTo t).abandonByGap

/-- LINK_BYTE_RECEIVED (R160, R161). -/
def execLinkByteReceived (dt : Nat) (byte : Byte) (broken : Bool) (s : State) : Host.Outcome State Fault Refusal :=
  s.taking fun s => (s.advance dt).takeByte byte broken

/-- FRAME_COMPLETED (R163). -/
def execFrameCompleted (s : State) : Host.Outcome State Fault Refusal := s.taking State.completeFrame

/-- GAP_TIMER_EXPIRY (R162). -/
def execGapTimerExpiry (s : State) : Host.Outcome State Fault Refusal := s.taking State.gapExpires

/-- REPLY_SEND (R170). -/
def execReplySend (s : State) : Host.Outcome State Fault Refusal := s.taking State.beginReply

/-- REQUEST_SLOT_RELEASE (R171, R186). -/
def execRequestSlotRelease (dt : Nat) (line : StopLevel) (s : State) : Host.Outcome State Fault Refusal :=
  s.taking fun s => (s.advance dt).endReply line

/-- NOTICE_FRAME_END (R170). -/
def execNoticeFrameEnd (dt : Nat) (s : State) : Host.Outcome State Fault Refusal :=
  s.taking fun s => (s.advance dt).endNotice

/-- START (R187). -/
def execStart (s : State) : Host.Outcome State Fault Refusal := s.taking fun s => s.beginNotice .start

/-- EVENT_CHANGE (R37). -/
def execEventChange (s : State) : Host.Outcome State Fault Refusal := s.taking fun s => s.beginNotice .event

/-- ROTOR_CHANGE (R144). -/
def execRotorChange (s : State) : Host.Outcome State Fault Refusal := s.taking fun s => s.beginNotice .rotor

/-- ORDER_CHANGE (R114). -/
def execOrderChange (s : State) : Host.Outcome State Fault Refusal := s.taking fun s => s.beginNotice .order

/-- MEASUREMENT_CHANGE (R15). -/
def execMeasurementChange (s : State) : Host.Outcome State Fault Refusal := s.taking fun s => s.beginNotice .measurement

/-- HALT_CHANGE (R37). -/
def execHaltChange (s : State) : Host.Outcome State Fault Refusal := s.taking fun s => s.beginNotice .halt

end Sys2Proof.Machine
end

