-- ==== Sys2Proof/Machine/OrderRequests.lean ====
section
/-! DEFINITION. The meanings of the requests to the ORL: rows PLACE_ORDER to LIST_ORDERS. -/

namespace Sys2Proof.Machine

/-- What PLACE ORDER asks for (R98, R194). -/
structure OrderForm where
  id : Nat
  direction : Direction
  group : Fin 4
  power : Nat
  quota : Nat
  startTime : Option Nat
  deadline : Option Nat
  repeats : Option Repeat
deriving DecidableEq, Repr

/-- The length of PLACE ORDER's payload for a presence mask (R194). -/
def orderLength (mask : Byte) : Nat :=
  11 + (if mask.getLsbD 0 then 6 else 0) + (if mask.getLsbD 1 then 6 else 0) + (if mask.getLsbD 2 then 4 else 0)

/-- The repeat part at an offset: absent, of an unknown condition, or read (R98). -/
def readRepeat (p : List Byte) (present : Bool) (offset : Nat) : Except ResultCode (Option Repeat) :=
  if present then
    match conditionOfCode (field p (offset + 1) 1) with
    | none => .error .badValue
    | some c => .ok (some ⟨field p offset 1, c, field p (offset + 2) 2⟩)
  else .ok none

/-- The form of PLACE ORDER, checked in the order of R98. -/
def readOrder (p : List Byte) : Except ResultCode OrderForm :=
  let mask := byteOf (field p 0 1)
  let startAt := 11
  let deadlineAt := startAt + (if mask.getLsbD 0 then 6 else 0)
  let repeatAt := deadlineAt + (if mask.getLsbD 1 then 6 else 0)
  if p.length = 0 then .error .badLength
  else if 8 ≤ mask.toNat then .error .badValue
  else if p.length ≠ orderLength mask then .error .badLength
  else if field p 1 2 = 0 then .error .badValue
  else
    match directionOfCode (field p 3 1), groupOfCode (field p 4 1), readRepeat p (mask.getLsbD 2) repeatAt with
    | some dir, some g, .ok rep =>
      .ok
        { id := field p 1 2
          direction := dir
          group := g
          power := field p 5 2
          quota := field p 7 4
          startTime := if mask.getLsbD 0 then some (field p startAt 6) else none
          deadline := if mask.getLsbD 1 then some (field p deadlineAt 6) else none
          repeats := rep }
    | _, _, _ => .error .badValue

/-- The fields of an order clamped (R99). -/
def OrderForm.clamp (o : OrderForm) : OrderForm :=
  { o with
    power := clampNat 1 8000 o.power
    quota := clampNat 1 6400000 o.quota
    startTime := o.startTime.map (clampNat 0 maxPlantTime)
    deadline := o.deadline.map (clampNat 0 maxPlantTime)
    repeats := o.repeats.map fun r => { r with count := clampNat 1 255 r.count, x := clampNat 0 1000 r.x } }

/-- A deadline at or before the start (R99). -/
def deadlineBeforeStart (o : OrderForm) : Bool :=
  match o.startTime, o.deadline with
  | some a, some b => decide (b ≤ a)
  | _, _ => false

/-- A deadline at or before a plant time (R99). -/
def deadlineCome (o : OrderForm) (now : Nat) : Bool :=
  match o.deadline with
  | some b => decide (b ≤ now)
  | none => false

/-- The record of an admitted order: WAITING, with its full quota to deliver (R99). -/
def admittedOrder (o : OrderForm) (now : Nat) : Order where
  id := o.id
  direction := o.direction
  group := o.group
  power := o.power
  quota := o.quota
  remaining := o.quota * 1000
  residue := 0
  startTime := o.startTime
  deadline := o.deadline
  repeats := o.repeats
  status := .waiting
  placed := now
  activated := none
  ended := none
  delivered := 0

/-- The largest number of order records (R95). -/
def maxOrders : Nat := 8

/-- PLACE ORDER's owner (R98, R99). -/
def ownPlaceOrder (s : State) (p : List Byte) : Answer :=
  match readOrder p with
  | .error code => refuse s code
  | .ok sent =>
    let o := sent.clamp
    if s.evt.mode = .halted then refuse s .halted
    else if maxOrders ≤ s.orl.orders.length then refuse s .full
    else if (s.orl.find o.id).isSome then refuse s .duplicate
    else if deadlineBeforeStart o then refuse s .inconsistent
    else if deadlineCome o s.plantTime then refuse s .tooLate
    else accept (s.withOrl { s.orl with orders := s.orl.orders ++ [admittedOrder o s.plantTime] }) (o != sent)

/-- The record with an id revised. -/
def State.reviseOrder (s : State) (id : Nat) (f : Order → Order) : State :=
  s.reviseOrders fun o => if o.id = id then f o else o

/-- CANCEL ORDER's owner (R110). -/
def ownCancelOrder (s : State) (p : List Byte) : Answer :=
  if field p 0 2 = 0 then refuse s .badValue
  else
    match s.orl.find (field p 0 2) with
    | none => refuse s .noSuch
    | some o =>
      if o.status.terminal then refuse s .wrongState
      else accept (s.reviseOrder (field p 0 2) (Order.cancel .host s.plantTime)) false

/-- RESUME ORDER's owner (R109). -/
def ownResumeOrder (s : State) (p : List Byte) : Answer :=
  if field p 0 2 = 0 then refuse s .badValue
  else
    match s.orl.find (field p 0 2) with
    | none => refuse s .noSuch
    | some o =>
      match o.status with
      | .suspended .exhausted => accept (s.reviseOrder (field p 0 2) fun o => { o with status := .waiting }) false
      | .suspended .event => refuse s .inEvent
      | .waiting => refuse s .wrongState
      | .active => refuse s .wrongState
      | .done _ => refuse s .wrongState
      | .expired => refuse s .wrongState
      | .cancelled _ => refuse s .wrongState

/-- ORDER STATUS's owner (R112). -/
def ownOrderStatus (s : State) (p : List Byte) : Answer :=
  if field p 0 2 = 0 then refuse s .badValue
  else
    match s.orl.find (field p 0 2) with
    | none => refuse s .noSuch
    | some o => report s o.statusBody

/-- After the reply has been formed a terminal record is retired (R112). -/
def afterOrderStatus (s : State) (p : List Byte) : State :=
  match s.orl.find (field p 0 2) with
  | none => s
  | some o => if o.status.terminal then s.retireOrder o.id else s

/-- LIST ORDERS's owner (R113). -/
def ownListOrders (s : State) (_ : List Byte) : Answer := report s s.orl.listBody

/-- PLACE_ORDER (R99). -/
def execPlaceOrder (s : State) : Host.Outcome State Fault Refusal :=
  s.taking fun s => s.takeRequest .placeOrder anyPayload ownPlaceOrder nothingAfter

/-- CANCEL_ORDER (R110). -/
def execCancelOrder (s : State) : Host.Outcome State Fault Refusal :=
  s.taking fun s => s.takeRequest .cancelOrder anyPayload ownCancelOrder nothingAfter

/-- RESUME_ORDER (R109). -/
def execResumeOrder (s : State) : Host.Outcome State Fault Refusal :=
  s.taking fun s => s.takeRequest .resumeOrder anyPayload ownResumeOrder nothingAfter

/-- ORDER_STATUS (R112). -/
def execOrderStatus (s : State) : Host.Outcome State Fault Refusal :=
  s.taking fun s => s.takeRequest .orderStatus anyPayload ownOrderStatus afterOrderStatus

/-- LIST_ORDERS (R113). -/
def execListOrders (s : State) : Host.Outcome State Fault Refusal :=
  s.taking fun s => s.takeRequest .listOrders anyPayload ownListOrders nothingAfter

end Sys2Proof.Machine
end

