-- ==== Sys2Proof/Machine/RotorRequests.lean ====
section
/-! DEFINITION. The meanings of the requests to the RSQ and the RTB: rows ENROL to ROTOR_STATUS. -/

namespace Sys2Proof.Machine

/-- What ENROL says of a rotor, beside its slot, group and roles (R59). -/
structure EnrolLimits where
  rating : Nat
  eCap : Nat
  smin : Nat
  sbase : Nat
  smax : Nat
  derate : Nat
deriving DecidableEq, Repr

/-- The limits of an ENROL payload, as sent (R192). -/
def sentLimits (p : List Byte) : EnrolLimits :=
  ⟨field p 3 2, field p 5 4, field p 9 2, field p 11 2, field p 13 2, field p 15 1⟩

/-- The limits clamped (R59). -/
def EnrolLimits.clamp (e : EnrolLimits) : EnrolLimits :=
  ⟨clampNat 10 500 e.rating, clampNat 1000 400000 e.eCap, clampNat 1000 60000 e.smin, clampNat 1000 60000 e.sbase,
   clampNat 1000 60000 e.smax, clampNat 40 120 e.derate⟩

/-- The relations the speeds must stand in (R59). -/
def speedsConsistent (e : EnrolLimits) : Bool :=
  decide (e.smin < e.sbase ∧ e.sbase ≤ e.smax ∧ e.smin + 1000 ≤ e.smax)

/-- The record of an accepted ENROL: its fields, PROBING with cause HOST, all else at its start (R59, R125). -/
def enrolledRecord (group : Fin 4) (roles : Roles) (e : EnrolLimits) : RotorRecord :=
  { RotorRecord.empty with
    state := .probing
    cause := some .host
    group := group
    roles := roles
    limits := ⟨e.rating, e.derate⟩
    eCap := e.eCap
    smin := e.smin
    sbase := e.sbase
    smax := e.smax }

/-- An accepted ENROL: the record filled, the slot in PROBING, its probe pending (R125, R155). -/
def State.enrol (s : State) (i : Slot) (r : RotorRecord) : State :=
  let s1 := (s.setRotor i r).noteRotor i
  s1.withRbi { s1.rbi with pendingProbes := insertAscending i s1.rbi.pendingProbes }

/-- ENROL's owner (R125, then R59). -/
def ownEnrol (s : State) (p : List Byte) : Answer :=
  match slotOfCode (field p 0 1) with
  | none => refuse s .badValue
  | some i =>
    if s.evt.mode = .halted then refuse s .halted
    else if (s.rotor i).state ≠ .offline then refuse s .occupied
    else
      match groupOfCode (field p 1 1), rolesOfByte (byteOf (field p 2 1)) with
      | some g, some roles =>
        let e := (sentLimits p).clamp
        if speedsConsistent e = false then refuse s .inconsistent
        else accept (s.enrol i (enrolledRecord g roles e)) (e != sentLimits p)
      | _, _ => refuse s .badValue

/-- A poll in flight to a slot is abandoned (R158). -/
def Rbi.abandonPollTo (b : Rbi) (i : Slot) : Rbi :=
  { b with inFlight := b.inFlight.map fun p => if p.slot = i then { p with abandoned := true } else p }

/-- An accepted RELEASE: the record emptied, a poll in flight to the slot abandoned (R142, R158). -/
def State.releaseSlot (s : State) (i : Slot) : State :=
  let s1 := (s.setRotor i RotorRecord.empty).noteRotor i
  s1.withRbi (s1.rbi.abandonPollTo i)

/-- RELEASE is accepted for a PARKED slot, and for a TRIPPED slot with cause LOST (R142). -/
def mayRelease (r : RotorRecord) : Bool := r.state == .parked || (r.state == .tripped && r.cause == some .lost)

/-- RELEASE's owner (R142). -/
def ownRelease (s : State) (p : List Byte) : Answer :=
  match slotOfCode (field p 0 1) with
  | none => refuse s .badValue
  | some i => if mayRelease (s.rotor i) then accept (s.releaseSlot i) false else refuse s .wrongState

/-- An accepted SPIN UP: LIFTING with cause HOST, the lift timer started (R128, R124). -/
def State.startLift (s : State) (i : Slot) : State :=
  (s.withRsq (s.rsq.setTimer i (some (tickAfter s.tickCount liftTicks)))).changeRotor i .lifting (some .host)

/-- SPIN UP's owner (R128). -/
def ownSpinUp (s : State) (p : List Byte) : Answer :=
  match slotOfCode (field p 0 1) with
  | none => refuse s .badValue
  | some i =>
    if s.evt.mode = .halted then refuse s .halted
    else if (s.rotor i).state ≠ .parked then refuse s .wrongState
    else accept (s.startLift i) false

/-- PARK's owner (R136, R137): a LIFTING rotor whose latest telemetry carries at_rest goes straight to PARKED, every other
is braked. -/
def ownPark (s : State) (p : List Byte) : Answer :=
  match slotOfCode (field p 0 1) with
  | none => refuse s .badValue
  | some i =>
    match (s.rotor i).state with
    | .offline => refuse s .wrongState
    | .probing => refuse s .wrongState
    | .parked => refuse s .wrongState
    | .lifting =>
      if (s.rotor i).flags.atRest then accept (s.settle i (some .host)) false else accept (s.brake i .host) false
    | .spinupWait => accept (s.brake i .host) false
    | .accelerating => accept (s.brake i .host) false
    | .syncWait => accept (s.brake i .host) false
    | .syncing => accept (s.brake i .host) false
    | .online => if s.evt.mode = .event then refuse s .inEvent else accept (s.brake i .host) false
    | .decelerating => refuse s .wrongState
    | .tripped => refuse s .wrongState

/-- A TRIPPED rotor at rest, fault-free and with no poll late since its last reply (R141). -/
def mayReset (r : RotorRecord) : Bool :=
  r.state == .tripped && r.flags.atRest && r.faultCode == .none && r.lateCount == 0

/-- RESET FAULT's owner (R141). -/
def ownResetFault (s : State) (p : List Byte) : Answer :=
  match slotOfCode (field p 0 1) with
  | none => refuse s .badValue
  | some i =>
    if mayReset (s.rotor i) then
      accept ((s.setRotor i { s.rotor i with latched := .none }).settle i (some .host)) false
    else refuse s .wrongState

/-- The pair a SET ROTOR LIMITS payload stages: clamped, the rating then rounded down to an even number (R72). -/
def stagedPair (p : List Byte) : Limits :=
  ⟨2 * (clampNat 10 500 (field p 1 2) / 2), clampNat 40 120 (field p 3 1)⟩

/-- SET ROTOR LIMITS's owner (R72). -/
def ownSetRotorLimits (s : State) (p : List Byte) : Answer :=
  match slotOfCode (field p 0 1) with
  | none => refuse s .badValue
  | some i =>
    if (s.rotor i).state = .offline then refuse s .wrongState
    else
      accept (s.setRotor i { s.rotor i with staged := some (stagedPair p) })
        ((stagedPair p).rating != field p 1 2 || (stagedPair p).derate != field p 3 1)

/-- SET ROTOR ROLE's owner (R61). -/
def ownSetRotorRole (s : State) (p : List Byte) : Answer :=
  match slotOfCode (field p 0 1) with
  | none => refuse s .badValue
  | some i =>
    if (s.rotor i).state = .offline then refuse s .wrongState
    else
      match groupOfCode (field p 1 1), rolesOfByte (byteOf (field p 2 1)) with
      | some g, some roles => accept (s.setRotor i { s.rotor i with group := g, roles := roles }) false
      | _, _ => refuse s .badValue

/-- The options byte of ROTOR STATUS names no option outside the two (R76, R190). -/
def optionsKnown (p : List Byte) : Bool := decide (field p 1 1 < 4)

/-- ROTOR STATUS's owner (R76). -/
def ownRotorStatus (s : State) (p : List Byte) : Answer :=
  match slotOfCode (field p 0 1) with
  | none => refuse s .badValue
  | some i => if optionsKnown p then report s (s.rotor i).statusBody else refuse s .badValue

/-- The options of ROTOR STATUS on an enrolled record: acknowledge clears the review flag, clear counters sets both
counters and both residues to 0 (R76). -/
def RotorRecord.applyOptions (r : RotorRecord) (acknowledge clear : Bool) : RotorRecord :=
  { r with
    review := r.review && !acknowledge
    discharged := if clear then Energy.zero else r.discharged
    absorbed := if clear then Energy.zero else r.absorbed }

/-- The options act after the reply has been formed; of an OFFLINE slot they change nothing (R76). -/
def afterRotorStatus (s : State) (p : List Byte) : State :=
  match slotOfCode (field p 0 1) with
  | none => s
  | some i =>
    if optionsKnown p && (s.rotor i).enrolled then
      s.setRotor i
        ((s.rotor i).applyOptions ((byteOf (field p 1 1)).getLsbD 0) ((byteOf (field p 1 1)).getLsbD 1))
    else s

/-- ENROL (R125). -/
def execEnrol (s : State) : Host.Outcome State Fault Refusal :=
  s.taking fun s => s.takeRequest .enrol anyPayload ownEnrol nothingAfter

/-- RELEASE (R142). -/
def execRelease (s : State) : Host.Outcome State Fault Refusal :=
  s.taking fun s => s.takeRequest .release anyPayload ownRelease nothingAfter

/-- SPIN_UP (R128). -/
def execSpinUp (s : State) : Host.Outcome State Fault Refusal :=
  s.taking fun s => s.takeRequest .spinUp anyPayload ownSpinUp nothingAfter

/-- PARK (R136). -/
def execPark (s : State) : Host.Outcome State Fault Refusal :=
  s.taking fun s => s.takeRequest .park anyPayload ownPark nothingAfter

/-- RESET_FAULT (R141). -/
def execResetFault (s : State) : Host.Outcome State Fault Refusal :=
  s.taking fun s => s.takeRequest .resetFault anyPayload ownResetFault nothingAfter

/-- SET_ROTOR_LIMITS (R72). -/
def execSetRotorLimits (s : State) : Host.Outcome State Fault Refusal :=
  s.taking fun s => s.takeRequest .setRotorLimits anyPayload ownSetRotorLimits nothingAfter

/-- SET_ROTOR_ROLE (R61). -/
def execSetRotorRole (s : State) : Host.Outcome State Fault Refusal :=
  s.taking fun s => s.takeRequest .setRotorRole anyPayload ownSetRotorRole nothingAfter

/-- ROTOR_STATUS (R76). -/
def execRotorStatus (s : State) : Host.Outcome State Fault Refusal :=
  s.taking fun s => s.takeRequest .rotorStatus anyPayload ownRotorStatus afterRotorStatus

end Sys2Proof.Machine
end

