-- ==== Sys2Proof/Machine/Samples.lean ====
section
/-! DEFINITION. The meanings of the arrivals at the zero-crossing line, the bank stop input and the supply: rows
ZERO_CROSSING_EDGE, MISSING_EDGE_TIMEOUT, STOP_ASSERTION, STOP_RELEASE, POWER_ON, SUPPLY_DIP, SUPPLY_FALL. -/

namespace Sys2Proof.Machine

/-- A rising edge at the present tick: recorded, the missing-edge timer restarted; an edge that is not a first edge has
its period classified and produces one sample, which passes through the part (R2 to R6). -/
def State.edge (s : State) : State :=
  let t := s.tickCount
  let u := { s.fmu with lastEdge := some t }.restartTimer t
  match s.fmu.lastEdge with
  | none => s.withFmu u
  | some last =>
    (s.withFmu (u.classify (ticksFrom last t))).passage t (periodValid s.fmu.nominal (ticksFrom last t))

/-- The missing-edge timer expires at its expiry tick: the valid-period list is emptied, the timer restarted from that
tick, and one invalid sample passes through the part, with the expiry tick as its time (R5, R6). -/
def State.missingEdge (s : State) : State :=
  let t := s.fmu.expiry
  let s1 := s.advanceTo t
  (s1.withFmu ({ s1.fmu with periods := [] }.restartTimer t)).passage t false

/-- Ticks for which the stop line holds its new level before the level is taken (R201). -/
def stopQualifyTicks : Nat := 100

/-- What a qualified fall of the stop line does when the level taken last was released: EVT, RSQ and ORL act (R52, R140,
R111). An open event ends with cause STOP first (R51). -/
def State.assertStop (s : State) : State :=
  let now := s.plantTime
  let s1 := s.withEvt { s.evt with stopLevel := .asserted }
  let s2 := match s.evt.mode with
    | .event => s1.endEvent .stop now
    | .idle => s1.withEvt { s1.evt with mode := .halted }
    | .guard => s1.withEvt { s1.evt with mode := .halted }
    | .armed => s1.withEvt { s1.evt with mode := .halted }
    | .halted => s1
  ((s2.addNotice .halt).tripAll).cancelAll now

/-- What a qualified rise of the stop line does when the level taken last was asserted (R53). -/
def State.releaseStop (s : State) : State :=
  (s.withEvt { s.evt with stopLevel := .released, mode := .idle }).addNotice .halt

/-- A new level of the stop line is an arrival when it has held steady for 100 ticks and differs from the level the EVT
last took (R201). -/
def State.stopArrives (s : State) (level : StopLevel) (steady : Nat) : Bool :=
  decide (stopQualifyTicks ≤ steady) && s.evt.stopLevel != level

/-- ZERO_CROSSING_EDGE (R2). -/
def execZeroCrossingEdge (dt : Nat) (s : State) : Host.Outcome State Fault Refusal :=
  s.taking fun s => (s.advance dt).edge

/-- MISSING_EDGE_TIMEOUT (R5). -/
def execMissingEdgeTimeout (s : State) : Host.Outcome State Fault Refusal := s.taking State.missingEdge

/-- STOP_ASSERTION (R52, R201). -/
def execStopAssertion (dt steady : Nat) (s : State) : Host.Outcome State Fault Refusal :=
  s.taking fun s => if s.stopArrives .asserted steady then (s.advance dt).assertStop else s.advance dt

/-- STOP_RELEASE (R53, R201). -/
def execStopRelease (dt steady : Nat) (s : State) : Host.Outcome State Fault Refusal :=
  s.taking fun s => if s.stopArrives .released steady then (s.advance dt).releaseStop else s.advance dt

/-- POWER_ON (R184): taken whether the part was held in reset or not; the tick count restarts at 0. -/
def execPowerOn (line : StopLevel) (s : State) : Host.Outcome State Fault Refusal :=
  .next (s.takeReset .powerOn 0 line)

/-- SUPPLY_DIP (R184): a fall below the operating level and the rise after it; equal to POWER_ON but for the cause. -/
def execSupplyDip (line : StopLevel) (s : State) : Host.Outcome State Fault Refusal :=
  .next (s.takeReset .supplyDip 0 line)

/-- SUPPLY_FALL (R184): the part is held in reset and takes no arrival until the supply rises. -/
def execSupplyFall (dt : Nat) (s : State) : Host.Outcome State Fault Refusal :=
  s.taking fun s => (s.advance dt).withSupply .down

end Sys2Proof.Machine
end

