-- ==== Sys2Proof/Machine/Dispatch.lean ====
section
/-! DEFINITION. exec: one arm for every command, each a direct call of its meaning. exec acts on everything but the queue
of waiting commands. -/

namespace Sys2Proof.Machine

def exec (i : Instr) (s : State) : Host.Outcome State Fault Refusal :=
  match i with
  | .zeroCrossingEdge dt => Sys2Proof.Machine.execZeroCrossingEdge dt s
  | .missingEdgeTimeout => Sys2Proof.Machine.execMissingEdgeTimeout s
  | .stopAssertion dt steady => Sys2Proof.Machine.execStopAssertion dt steady s
  | .stopRelease dt steady => Sys2Proof.Machine.execStopRelease dt steady s
  | .powerOn line => Sys2Proof.Machine.execPowerOn line s
  | .supplyDip line => Sys2Proof.Machine.execSupplyDip line s
  | .frameCompleted => Sys2Proof.Machine.execFrameCompleted s
  | .gapTimerExpiry => Sys2Proof.Machine.execGapTimerExpiry s
  | .replySend => Sys2Proof.Machine.execReplySend s
  | .requestSlotRelease dt line => Sys2Proof.Machine.execRequestSlotRelease dt line s
  | .start => Sys2Proof.Machine.execStart s
  | .eventChange => Sys2Proof.Machine.execEventChange s
  | .rotorChange => Sys2Proof.Machine.execRotorChange s
  | .orderChange => Sys2Proof.Machine.execOrderChange s
  | .measurementChange => Sys2Proof.Machine.execMeasurementChange s
  | .haltChange => Sys2Proof.Machine.execHaltChange s
  | .identify => Sys2Proof.Machine.execIdentify s
  | .status => Sys2Proof.Machine.execStatus s
  | .clearSummary => Sys2Proof.Machine.execClearSummary s
  | .setClock => Sys2Proof.Machine.execSetClock s
  | .setMode => Sys2Proof.Machine.execSetMode s
  | .setMeasurement => Sys2Proof.Machine.execSetMeasurement s
  | .setEvent => Sys2Proof.Machine.execSetEvent s
  | .setBankLimits => Sys2Proof.Machine.execSetBankLimits s
  | .setCurve => Sys2Proof.Machine.execSetCurve s
  | .readCurve => Sys2Proof.Machine.execReadCurve s
  | .readEvents => Sys2Proof.Machine.execReadEvents s
  | .setNotices => Sys2Proof.Machine.execSetNotices s
  | .restart => Sys2Proof.Machine.execRestart s
  | .snapshotPart0 => Sys2Proof.Machine.execSnapshotPart0 s
  | .snapshotPart1 => Sys2Proof.Machine.execSnapshotPart1 s
  | .enrol => Sys2Proof.Machine.execEnrol s
  | .release => Sys2Proof.Machine.execRelease s
  | .spinUp => Sys2Proof.Machine.execSpinUp s
  | .park => Sys2Proof.Machine.execPark s
  | .resetFault => Sys2Proof.Machine.execResetFault s
  | .setRotorLimits => Sys2Proof.Machine.execSetRotorLimits s
  | .setRotorRole => Sys2Proof.Machine.execSetRotorRole s
  | .rotorStatus => Sys2Proof.Machine.execRotorStatus s
  | .placeOrder => Sys2Proof.Machine.execPlaceOrder s
  | .cancelOrder => Sys2Proof.Machine.execCancelOrder s
  | .resumeOrder => Sys2Proof.Machine.execResumeOrder s
  | .orderStatus => Sys2Proof.Machine.execOrderStatus s
  | .listOrders => Sys2Proof.Machine.execListOrders s
  | .poll dt => Sys2Proof.Machine.execPoll dt s
  | .moduleReply dt bytes => Sys2Proof.Machine.execModuleReply dt bytes s
  | .replyWindowClose => Sys2Proof.Machine.execReplyWindowClose s
  | .liftTimerExpiry slot => Sys2Proof.Machine.execLiftTimerExpiry slot s
  | .spinupTimerExpiry slot => Sys2Proof.Machine.execSpinupTimerExpiry slot s
  | .syncTimerExpiry slot => Sys2Proof.Machine.execSyncTimerExpiry slot s
  | .linkByteReceived dt byte broken => Sys2Proof.Machine.execLinkByteReceived dt byte broken s
  | .noticeFrameEnd dt => Sys2Proof.Machine.execNoticeFrameEnd dt s
  | .supplyFall dt => Sys2Proof.Machine.execSupplyFall dt s

end Sys2Proof.Machine
end

