-- ==== Sys2Proof/Safety.lean ====
section
/-! DEFINITION. What counts as a safe state: the relations between fields that the spec says always hold, as predicates
that the statements use. Each is about every state, not only those that a run from reset reaches. -/

namespace Sys2Proof.Machine

/-! ## The bank mode and the event history (R27, R34, R44, R48, R53) -/

/-- Whether the newest record of a history is open. -/
def newestOpen (history : List EventRecord) : Bool :=
  match history.getLast? with
  | none => false
  | some r => r.ended.isNone

/-- What the spec says always holds of the mode: a saved mode is present exactly while the mode is EVENT (R34); the mode
is HALTED exactly while the stop level is asserted (R52, R53); at most 4 event records, a record without an end time
exactly while the mode is EVENT, and it is then the newest (R44); the recovery timer and a pending curve exist in EVENT
alone (R27, R48). -/
structure ModeInv (s : State) : Prop where
  saved : s.evt.savedMode.isSome = (s.evt.mode == .event)
  stop : (s.evt.stopLevel == .asserted) = (s.evt.mode == .halted)
  length : s.evt.history.length ≤ 4
  closed : ∀ r ∈ s.evt.history.dropLast, r.ended.isSome = true
  newest : newestOpen s.evt.history = (s.evt.mode == .event)
  recovery : s.evt.recovery.isSome = true → s.evt.mode = .event
  curve : s.dse.pendingCurve.isSome = true → s.evt.mode = .event

/-! ## The queues, the spin-up slots and the sync unit (R124, R130, R133, R140) -/

/-- The states a rotor timer belongs to (R124). -/
def timedState : RotorState → Bool
  | .offline => false
  | .probing => false
  | .parked => false
  | .lifting => true
  | .spinupWait => false
  | .accelerating => true
  | .syncWait => false
  | .syncing => true
  | .online => false
  | .decelerating => false
  | .tripped => false

/-- What the spec says always holds of the RSQ: the spin-up queue holds exactly the SPINUP_WAIT rotors and the sync queue
exactly the SYNC_WAIT rotors, each once; at most four rotors are ACCELERATING (R130); the sync unit is busy exactly while
a rotor is SYNCING, with that rotor (R133); a timer runs in LIFTING, ACCELERATING and SYNCING alone (R124); a rotor waits
only while every spin-up slot, or the unit, is taken (R130, R133); in HALTED no rotor is moving (R140). -/
structure RoadInv (s : State) : Prop where
  spinUpOnce : s.rsq.spinUpQueue.Nodup
  spinUpHolds : ∀ i, i ∈ s.rsq.spinUpQueue ↔ (s.rotor i).state = .spinupWait
  syncOnce : s.rsq.syncQueue.Nodup
  syncHolds : ∀ i, i ∈ s.rsq.syncQueue ↔ (s.rotor i).state = .syncWait
  unit : ∀ i, s.rsq.syncUnit = some i ↔ (s.rotor i).state = .syncing
  four : s.accelerating.length ≤ 4
  timed : ∀ i, (s.rsq.timer i).isSome = timedState (s.rotor i).state
  spinUpWaits : s.rsq.spinUpQueue ≠ [] → s.accelerating.length = 4
  syncWaits : s.rsq.syncQueue ≠ [] → s.rsq.syncUnit ≠ none
  halted : s.evt.mode = .halted → ∀ i, movingState (s.rotor i).state = false

/-! ## The rotor records (R58, R71, R89, R123, R133 to R135) -/

/-- The states of a rotor that may still be handed the sync unit, with no third attempt behind it (R132 to R134). -/
def beforeSync : RotorState → Bool
  | .offline => false
  | .probing => true
  | .parked => true
  | .lifting => true
  | .spinupWait => true
  | .accelerating => true
  | .syncWait => true
  | .syncing => false
  | .online => false
  | .decelerating => false
  | .tripped => false

/-- What the spec says always holds of one rotor record: a rotor that is not ONLINE has shares and setpoint 0 and limits
0 (R71, R66); an ONLINE rotor has sync attempts 0 (R135), a rotor on its way to the sync unit at most 2 (R134); the
counts and the totals stay in their ranges (R58). -/
structure RecordInv (r : RotorRecord) : Prop where
  shares : r.state ≠ .online → r.shares = Shares.zero ∧ r.ld = 0 ∧ r.la = 0
  attempts : r.attempts ≤ 3
  onTheWay : beforeSync r.state = true → r.attempts ≤ 2
  online : r.state = .online → r.attempts = 0
  late : r.lateCount ≤ 3
  counted : r.discharged.kJ ≤ 4294967295 ∧ r.absorbed.kJ ≤ 4294967295
  residues : r.discharged.residue ≤ 9999999 ∧ r.absorbed.residue ≤ 9999999

/-- Every rotor record keeps RecordInv. -/
def TableInv (s : State) : Prop := ∀ i, RecordInv (s.rotor i)

/-! ## The order list (R95, R97, R103, R107, R111, R119) -/

/-- One order record: the remaining quota never exceeds the quota, the residue stays below a joule (R96, R103), and the
delivered and remaining joules sum to a whole number of runs (R119). -/
structure OrderRecordInv (o : Order) : Prop where
  remaining : o.remaining ≤ o.quota * 1000
  residue : o.residue ≤ 9999
  runs : ∃ k : Nat, 1 ≤ k ∧ o.delivered + o.remaining = 1000 * o.quota * k

/-- What the spec says always holds of the list: at most 8 records with pairwise distinct ids, at most one ACTIVE (R95);
none ACTIVE in EVENT (R107); in HALTED every record terminal (R111). -/
structure OrderInv (s : State) : Prop where
  atMost : s.orl.orders.length ≤ 8
  distinct : (s.orl.orders.map fun o => o.id).Nodup
  oneActive : (s.orl.orders.filter fun o => o.status == .active).length ≤ 1
  event : s.evt.mode = .event → ∀ o ∈ s.orl.orders, o.status ≠ .active
  halted : s.evt.mode = .halted → ∀ o ∈ s.orl.orders, o.status.terminal = true
  records : ∀ o ∈ s.orl.orders, OrderRecordInv o

/-! ## Notices and the link (R114, R144, R165, R170, R172, R173) -/

/-- What the spec says always holds of the notices: only enabled kinds are pending (R172, R173); ROTOR CHANGE and ORDER
CHANGE are pending exactly while their sets are not empty (R114, R144). -/
structure NoticeInv (s : State) : Prop where
  enabled : ∀ k, s.lif.pendingNotices.has k = true → s.lif.mask.has k = true
  rotor : s.lif.pendingNotices.rotor = !s.rsq.changed.isEmpty
  order : s.lif.pendingNotices.order = !s.orl.changed.isEmpty

/-- Whether the transmitter is sending a reply. -/
def Lif.sendingReply (l : Lif) : Bool :=
  match l.sending with
  | none => false
  | some f => f.isReply

/-- Whether the slot holds a request whose reply has been formed. -/
def Lif.slotTaken (l : Lif) : Bool :=
  match l.slot with
  | none => false
  | some r => r.taken

/-- Whether the receiver is assembling a frame. -/
def Lif.inAssembly (l : Lif) : Bool :=
  match l.receiver with
  | .hunting => false
  | .assembling _ => true
  | .complete _ => false

/-- The bytes the receiver holds, and whether they make a complete frame, agree with R161: fewer than four, or a LEN of at
most 240 and fewer bytes than it asks for while the frame is in assembly, and just as many when it is complete. -/
def Receiver.fits : Receiver → Prop
  | .hunting => True
  | .assembling bytes => bytes.length < 4 ∨ (field bytes 3 1 ≤ 240 ∧ bytes.length < 6 + field bytes 3 1)
  | .complete bytes => field bytes 3 1 ≤ 240 ∧ bytes.length = 6 + field bytes 3 1

/-- What the spec says always holds of the link: the request slot stays occupied until its reply has been completely
sent, so a reply waits or is being sent exactly while a request that has been taken is in the slot, and never both
(R165, R171); the gap timer runs exactly while a frame is in assembly (R162); a frame is as long as its LEN says, and
so at most 246 bytes (R160, R161); the link counters stay in their range (R164). -/
structure LinkInv (s : State) : Prop where
  reply : s.lif.slotTaken = (s.lif.waiting.isSome || s.lif.sendingReply)
  oneReply : (s.lif.waiting.isSome && s.lif.sendingReply) = false
  gap : s.lif.gapExpiry.isSome = s.lif.inAssembly
  fits : s.lif.receiver.fits
  counters : s.lif.gapCount ≤ 65535 ∧ s.lif.crcCount ≤ 65535 ∧ s.lif.overrunCount ≤ 65535

/-! ## The dispatch record (R24, R82, R91) -/

/-- What the spec says holds of every dispatch record (R91): the frequency figures sum to |F|, the order figures to the
order's power, and the setpoints to the net served power. -/
structure DispatchInv (d : DispatchRecord) : Prop where
  frequency : d.fServed + d.fUnserved = d.demand.natAbs
  order : d.oServed + d.oUnserved = d.po.natAbs
  setpoints : (allSlots.map fun i => d.slots[i].n).sum = d.signedServed + d.signedOrderServed

/-- Every limit that the latest dispatch record must keep (R91). -/
def LatestInv (s : State) : Prop := ∀ d, s.dse.latest = some d → DispatchInv d

/-! ## Rounds and probes (R148, R155) -/

/-- What the spec says always holds of the bus: only PROBING slots wait for a probe or stand in a round's probe part, each
once and in one of the two; a slot is in a round at most once (R148, R155); a poll in flight that has not been abandoned
is to an enrolled slot, and one to a PROBING slot is its probe, which waits in neither (R155, R158); a frame that is being
received begins with 0xB2 and is not complete (R199). -/
structure RoundInv (s : State) : Prop where
  probesOnce : s.rbi.pendingProbes.Nodup
  probing : ∀ i ∈ s.rbi.pendingProbes, (s.rotor i).state = .probing
  once : ∀ r, s.rbi.round = some r → (r.slotPart ++ r.probePart).Nodup
  part : ∀ r, s.rbi.round = some r → ∀ i ∈ r.probePart, (s.rotor i).state = .probing ∧ i ∉ s.rbi.pendingProbes
  flight : ∀ p, s.rbi.inFlight = some p → p.abandoned = false →
    (s.rotor p.slot).state ≠ .offline ∧
      ((s.rotor p.slot).state = .probing →
        p.command = .ident ∧ p.slot ∉ s.rbi.pendingProbes ∧
          ∀ r, s.rbi.round = some r → p.slot ∉ r.probePart)
  assembled : s.rbi.assembly = [] ∨ (s.rbi.assembly.head? = some 0xB2#8 ∧ s.rbi.assembly.length < 12)

/-! ## The measurement (R4, R9 to R14, R16, R17, R38) -/

/-- What the spec says always holds of the FMU: N and W in their ranges (R17); at most N listed periods, each valid for
the nominal frequency (R3, R4); the counts in their ranges (R9 to R11); held values exactly outside LOST (R10 to R12);
at most 17 history entries, none in LOST (R12, R13); reported values 0 in LOST (R16); and the EVT's region memory
unknown while the FMU is LOST (R12, R38). -/
structure MeasInv (s : State) : Prop where
  count : 1 ≤ s.fmu.n ∧ s.fmu.n ≤ 8
  window : 1 ≤ s.fmu.w ∧ s.fmu.w ≤ 16
  listed : s.fmu.periods.length ≤ s.fmu.n
  valid : ∀ p ∈ s.fmu.periods, periodValid s.fmu.nominal p = true
  regain : s.fmu.regain ≤ 7 ∧ (s.fmu.state ≠ .lost → s.fmu.regain = 0)
  invalid : s.fmu.invalid ≤ 3 ∧ (s.fmu.state ≠ .holding → s.fmu.invalid = 0)
  held : s.fmu.held.isSome = (s.fmu.state != .lost)
  history : s.fmu.history.length ≤ 17 ∧ (s.fmu.state = .lost → s.fmu.history = [])
  reported : s.fmu.state = .lost → s.fmu.reported = ⟨0, 0, 0⟩
  memory : s.fmu.state = .lost → s.evt.memory = none

/-! ## The values the host sets (R19, R28, R31, R55, R58, R59, R72, R73) -/

/-- A breakpoint in its ranges (R19). -/
def breakpointFits (b : Breakpoint) : Prop := -5000 ≤ b.df ∧ b.df ≤ 5000 ∧ -8000 ≤ b.p ∧ b.p ≤ 8000

/-- A curve as R19 has it: 2 to 12 breakpoints in their ranges, df strictly ascending. -/
def curveFits (c : List Breakpoint) : Prop :=
  2 ≤ c.length ∧ c.length ≤ 12 ∧ (c.map fun b => b.df).Pairwise (· < ·) ∧ ∀ b ∈ c, breakpointFits b

/-- A rating and a derate temperature in their ranges (R58, R59). -/
def limitsFit (l : Limits) : Prop := 10 ≤ l.rating ∧ l.rating ≤ 500 ∧ 40 ≤ l.derate ∧ l.derate ≤ 120

/-- A staged or offered pair: in its ranges, the rating even (R72, R199). -/
def pairFits (l : Limits) : Prop := limitsFit l ∧ l.rating % 2 = 0

/-- An enrolled rotor's limits in their ranges and relations, so that the divisors of R67 and R68 are positive (R59). -/
def rotorLimitsFit (r : RotorRecord) : Prop :=
  limitsFit r.limits ∧ 1000 ≤ r.eCap ∧ r.eCap ≤ 400000 ∧ 1000 ≤ r.smin ∧ r.smin < r.sbase ∧ r.sbase ≤ r.smax ∧
    r.smax ≤ 60000 ∧ r.smin + 1000 ≤ r.smax

/-- Every value the host has set is in its range: the curves (R19, R28), the inertia gain, the bank limits and the order
SoC bounds (R31, R55), the thresholds (R55), and of every rotor the limits, the staged pair and the pair a poll in
flight offers (R59, R72, R73). -/
structure SettingsInv (s : State) : Prop where
  curve : curveFits s.dse.curve
  pendingCurve : ∀ c, s.dse.pendingCurve = some c → curveFits c
  gain : s.dse.kIn ≤ 4000
  bank : s.dse.pdBank ≤ 8000 ∧ s.dse.paBank ≤ 8000
  bounds : s.dse.floor < s.dse.ceiling ∧ s.dse.ceiling ≤ 1000
  spinUp : 60 ≤ s.dse.spinUpLimit ∧ s.dse.spinUpLimit ≤ 3600
  thresholds : 20 ≤ s.evt.uThreshold ∧ s.evt.uThreshold ≤ 3000 ∧ 20 ≤ s.evt.oThreshold ∧ s.evt.oThreshold ≤ 3000 ∧
    s.evt.rocofThreshold ≤ 5000
  recovery : 10 ≤ s.evt.band ∧ s.evt.band ≤ 1000 ∧ s.evt.hold ≤ 60000
  rotors : ∀ i, (s.rotor i).state ≠ .offline → rotorLimitsFit (s.rotor i)
  staged : ∀ i l, (s.rotor i).staged = some l → pairFits l
  offered : ∀ p l, s.rbi.inFlight = some p → p.offered = some l → pairFits l

/-! ## Well timed commands (log entries 1 and 3) -/

/-- The nearest expiry that a command's time must not pass: a command is well timed when no running timer's expiry lies
strictly between the present tick and the tick at which it is taken. The part's own timers would have expired first. -/
def wellTimed (s : State) (dt : Nat) : Prop :=
  dt ≤ ticksFrom s.tickCount s.fmu.expiry ∧
    (∀ t, s.lif.gapExpiry = some t → dt ≤ ticksFrom s.tickCount t) ∧
    (∀ p, s.rbi.inFlight = some p → dt ≤ ticksFrom s.tickCount p.windowClose) ∧
    ∀ i t, s.rsq.timer i = some t → dt ≤ ticksFrom s.tickCount t

/-! ## The terms of the statements: requests and their answers (R165 to R169) -/

/-- The supply is up and the request slot holds a request of a kind, with a tag and a payload, that its owner has not
taken yet (R165). -/
def State.asks (s : State) (k : RequestKind) (tag : Byte) (p : List Byte) : Prop :=
  s.supply = .up ∧ s.lif.slot = some ⟨requestKindByte k, tag, p, false⟩

/-- The outcome in which such a request is answered: its owner leaves the state u, and the reply with a result code and a
body is formed from u (R165, R169). -/
def answered (u : State) (k : RequestKind) (tag : Byte) (p : List Byte) (code : ResultCode) (body : List Byte) :
    Host.Outcome State Fault Refusal :=
  .next (u.formReply ⟨requestKindByte k, tag, p, false⟩ code body)

/-- A slot byte that names no slot (R189). -/
def namesNoSlot (p : List Byte) : Prop := 16 ≤ field p 0 1

/-- The slot that the first byte of a payload names. -/
def namesSlot (p : List Byte) (i : Slot) : Prop := field p 0 1 = i.val

/-! ## The terms of the statements: resets (R18, R33, R57, R77, R118, R145, R159, R176, R184, R188) -/

/-- Every block has the reset state that its chapter gives, for a cause, a tick and a level of the stop line. -/
structure AfterReset (t : State) (cause : ResetCause) (tick : Tick) (line : StopLevel) : Prop where
  running : t.tickCount = tick ∧ t.supply = .up
  fmuSettings : t.fmu.nominal = .hz50 ∧ t.fmu.n = 4 ∧ t.fmu.w = 4
  fmuState : t.fmu.state = .lost ∧ t.fmu.regain = 0 ∧ t.fmu.invalid = 0
  fmuAbsent : t.fmu.lastEdge = none ∧ t.fmu.prevSample = none ∧ t.fmu.held = none
  fmuLists : t.fmu.periods = [] ∧ t.fmu.history = []
  fmuReported : t.fmu.reported = ⟨0, 0, 0⟩
  fmuTimer : t.fmu.expiry = tick + 400000#64
  evtMode : t.evt.mode = (if line = .asserted then .halted else .idle) ∧ t.evt.savedMode = none
  evtStop : t.evt.stopLevel = line
  evtEmpty : t.evt.memory = none ∧ t.evt.recovery = none ∧ t.evt.history = [] ∧ t.evt.eventNumber = 0
  evtSettings : t.evt.uThreshold = 200 ∧ t.evt.oThreshold = 200 ∧ t.evt.edgeMode = .both ∧ t.evt.rocofThreshold = 0 ∧
    t.evt.band = 50 ∧ t.evt.hold = 10000
  dseCurve : t.dse.curve = [⟨-5000, 0⟩, ⟨5000, 0⟩] ∧ t.dse.pendingCurve = none
  dseSettings : t.dse.kIn = 0 ∧ t.dse.pdBank = 0 ∧ t.dse.paBank = 0 ∧ t.dse.floor = 200 ∧ t.dse.ceiling = 900 ∧
    t.dse.spinUpLimit = 900
  dseRecord : t.dse.latest = none
  rotorStates : ∀ i, (t.rotor i).state = .offline ∧ (t.rotor i).cause = none ∧ (t.rotor i).probeNoModule = false
  rotorFields : ∀ i, (t.rotor i).staged = none ∧ (t.rotor i).discharged = ⟨0, 0⟩ ∧ (t.rotor i).absorbed = ⟨0, 0⟩ ∧
    (t.rotor i).statusBody = List.replicate 50 0#8
  rsqQueues : t.rsq.spinUpQueue = [] ∧ t.rsq.syncQueue = [] ∧ t.rsq.syncUnit = none
  rsqTimers : ∀ i, t.rsq.timer i = none
  rsqChanged : t.rsq.changed = []
  rbiRound : t.rbi.round = none ∧ t.rbi.pendingResult = none ∧ t.rbi.pendingProbes = [] ∧ t.rbi.inFlight = none
  rbiTags : ∀ i : Slot, t.rbi.tags[i] = 0
  rbiAssembly : t.rbi.assembly = []
  orl : t.orl.orders = [] ∧ t.orl.changed = []
  lifReceiver : t.lif.receiver = .hunting ∧ t.lif.gapExpiry = none
  lifReply : t.lif.slot = none ∧ t.lif.waiting = none ∧ t.lif.sending = none ∧ t.lif.overrunMark = false
  lifCounters : t.lif.gapCount = 0 ∧ t.lif.crcCount = 0 ∧ t.lif.overrunCount = 0
  lifMask : ∀ k, t.lif.mask.has k = true
  lifNotices : ∀ k, t.lif.pendingNotices.has k = (k == .start || (k == .halt && line == .asserted))
  stuFlags : t.stu.flags.any = false
  stuRest : t.stu.capture = none ∧ t.stu.restartPending = false ∧ t.stu.offset = 0 ∧ t.stu.resetCause = cause

/-! ## The terms of the statements: samples (R6 to R16) -/

/-- The commands that bring a sample: an edge that is not a first edge, and the expiry of the missing-edge timer (R6). -/
def bringsSample (c : Instr) (s : State) : Prop :=
  s.supply = .up ∧ (c = .missingEdgeTimeout ∨ ∃ dt, c = .zeroCrossingEdge dt ∧ s.fmu.lastEdge.isSome = true)

/-- The newest entries of a list that is kept oldest first, in their order, at most n of them (R4, R13). -/
def newestEntries {α : Type} (n : Nat) (l : List α) : List α := l.drop (l.length - n)

/-- A sample handed on fresh (R9 to R11, R13, R14, R16): its estimate, deviation and rocof are held and reported, it has
joined the history queue, and the dispatch record carries its df and rocof, not marked held. -/
structure HandedFresh (u v : Fmu) (now : Tick) (d : DispatchRecord) : Prop where
  state : v.state = .valid ∧ v.regain = (if u.state = .lost then 0 else u.regain) ∧
    v.invalid = (if u.state = .holding then 0 else u.invalid)
  history : v.history = newestEntries 17 (u.history ++ [(now, deviation u.nominal (estimate u.periods))])
  held : v.held = some ⟨estimate u.periods, deviation u.nominal (estimate u.periods), rocofOf u.w v.history⟩
  reported : v.held = some v.reported
  record : d.df = some (deviation u.nominal (estimate u.periods)) ∧ d.held = false ∧
    d.rocof = some (rocofOf u.w v.history)

/-- A sample handed on as LOST (R9, R11, R12, R16): no df, no rocof, reported values 0. -/
structure HandedLost (v : Fmu) (d : DispatchRecord) : Prop where
  state : v.state = .lost
  reported : v.reported = ⟨0, 0, 0⟩
  record : d.df = none ∧ d.held = false ∧ d.rocof = none

/-- A sample handed on as HOLDING (R10, R11): with the held values, which stay as they were. -/
structure HandedHeld (u v : Fmu) (h : Measured) (d : DispatchRecord) : Prop where
  state : v.state = .holding ∧ v.regain = u.regain
  kept : v.held = some h ∧ v.history = u.history ∧ v.reported = h
  record : d.df = some h.df ∧ d.held = true ∧ d.rocof = some h.rocof

/-- The table of R12. u is the FMU once the period list has been brought up to date, v the FMU after the sample, d the
dispatch record. Held values are present in VALID and HOLDING. -/
def measuredAs (u v : Fmu) (now : Tick) (valid : Bool) (d : DispatchRecord) : Prop :=
  match u.state, valid with
  | .lost, true =>
    if 8 ≤ u.regain + 1 then HandedFresh u v now d
    else HandedLost v d ∧ v.regain = u.regain + 1 ∧ v.invalid = u.invalid ∧ v.held = u.held ∧ v.history = u.history
  | .lost, false =>
    HandedLost v d ∧ v.regain = 0 ∧ v.invalid = u.invalid ∧ v.held = u.held ∧ v.history = u.history
  | .valid, true => HandedFresh u v now d
  | .valid, false => ∀ h, u.held = some h → HandedHeld u v h d ∧ v.invalid = 1
  | .holding, true => HandedFresh u v now d
  | .holding, false =>
    if 4 ≤ u.invalid + 1 then HandedLost v d ∧ v.regain = 0 ∧ v.invalid = 0 ∧ v.held = none ∧ v.history = []
    else ∀ h, u.held = some h → HandedHeld u v h d ∧ v.invalid = u.invalid + 1

/-- What every sample leaves, whatever its validity (R8, R15, R16): u is the FMU once the period list has been brought up
to date, s the state before, t the state after. -/
structure SampleTaken (s : State) (u : Fmu) (now : Tick) (valid : Bool) (t : State) (d : DispatchRecord) : Prop where
  latest : t.dse.latest = some d
  record : d.tick = now ∧ d.state = t.fmu.state
  interval : d.dt = (match s.fmu.prevSample with | none => 0 | some p => (now - p).toNat)
  previous : t.fmu.prevSample = some now
  kept : t.fmu.nominal = u.nominal ∧ t.fmu.n = u.n ∧ t.fmu.w = u.w ∧ t.fmu.lastEdge = u.lastEdge ∧
    t.fmu.periods = u.periods ∧ t.fmu.expiry = u.expiry
  measured : measuredAs u t.fmu now valid d
  notice : t.lif.pendingNotices.measurement =
    (s.lif.pendingNotices.measurement || (s.lif.mask.measurement && t.fmu.state != s.fmu.state))

/-- The triggers of a VALID sample (R40), from the EVT as it stands before the sample: none while the region memory is
unknown. -/
def triggersAt (e : Evt) (df rocof : Int) : Triggers :=
  match e.memory with
  | none => ⟨false, false, false⟩
  | some m =>
    { underHit := decide (m.df ≠ .low ∧ df ≤ -(e.uThreshold : Int) ∧ e.edgeMode ≠ .overOnly)
      overHit := decide (m.df ≠ .high ∧ ¬ df ≤ -(e.uThreshold : Int) ∧ (e.oThreshold : Int) ≤ df ∧ e.edgeMode ≠ .underOnly)
      rocofHit := decide (m.rocof = .slow ∧ 0 < e.rocofThreshold ∧ e.rocofThreshold ≤ rocof.natAbs) }

/-- At least one trigger. -/
def Triggers.anyHit (t : Triggers) : Prop := t.underHit = true ∨ t.overHit = true ∨ t.rocofHit = true

/-! ## The terms of the statements: moves of a rotor (R121, R130, R133, R144) -/

/-- A change of one slot noted for the ROTOR CHANGE notice, and nothing else of the change set or of the LIF (R144). -/
def rotorNoted (s u : State) (i : Slot) : Prop :=
  u.rsq.changed = (if s.lif.mask.rotor then insertAscending i s.rsq.changed else s.rsq.changed) ∧
    u.lif = { s.lif with
      pendingNotices := { s.lif.pendingNotices with rotor := s.lif.pendingNotices.rotor || s.lif.mask.rotor } }

/-- The slots that wait in a queue when slot i has been moved: those that waited, in the order in which they joined, but
for i; and i behind them where the move has brought it to that queue (R130, R132). -/
def waitingThen (queue : List Slot) (i : Slot) (joins : Bool) : List Slot :=
  queue.filter (fun j => j != i) ++ if joins then [i] else []

/-- The spin-up queue when slot i has been moved, before anything is handed on: a slot whose move has left it in
SPINUP_WAIT or ACCELERATING has joined its tail (R130). -/
def spinUpWaiting (s u : State) (i : Slot) : List Slot :=
  waitingThen s.rsq.spinUpQueue i ((u.rotor i).state == .spinupWait || (u.rotor i).state == .accelerating)

/-- The spin-up slots of the four that are free when slot i has been moved (R130). -/
def spinUpFree (s : State) (i : Slot) : Nat :=
  4 - (allSlots.filter fun j => j != i && (s.rotor j).state == .accelerating).length

/-- The sync queue when slot i has been moved, before the unit is handed on: a slot whose move has left it in SYNC_WAIT or
SYNCING has joined its tail (R132). -/
def syncWaiting (s u : State) (i : Slot) : List Slot :=
  waitingThen s.rsq.syncQueue i ((u.rotor i).state == .syncWait || (u.rotor i).state == .syncing)

/-- The sync unit is free when slot i has been moved (R133). -/
def unitFree (s : State) (i : Slot) : Prop := s.rsq.syncUnit = none ∨ s.rsq.syncUnit = some i

/-- What a move of slot i hands on (R124, R130, R133). Each free spin-up slot takes the head of the spin-up queue, which is
then ACCELERATING with its spin-up timer started; a free sync unit takes the head of the sync queue, which is then
SYNCING with its attempts count raised and its sync timer started; the rest of both queues wait in their order; every
other slot has its record and its timer as before. -/
structure HandedOn (s u : State) (i : Slot) : Prop where
  spinUpQueue : u.rsq.spinUpQueue = (spinUpWaiting s u i).drop (spinUpFree s i)
  admitted : ∀ j ∈ (spinUpWaiting s u i).take (spinUpFree s i),
    (u.rotor j).state = .accelerating ∧ (j ≠ i → u.rotor j = { s.rotor j with state := .accelerating }) ∧
      u.rsq.timer j = some (u.tickCount + BitVec.ofNat 64 (s.dse.spinUpLimit * 10000000))
  unitBusy : ¬ unitFree s i → u.rsq.syncUnit = s.rsq.syncUnit ∧ u.rsq.syncQueue = syncWaiting s u i
  unitIdle : unitFree s i → syncWaiting s u i = [] → u.rsq.syncUnit = none ∧ u.rsq.syncQueue = []
  unitTaken : ∀ j rest, unitFree s i → syncWaiting s u i = j :: rest →
    u.rsq.syncUnit = some j ∧ u.rsq.syncQueue = rest ∧ (u.rotor j).state = .syncing ∧
      (j ≠ i → u.rotor j = { s.rotor j with state := .syncing, attempts := (s.rotor j).attempts + 1 }) ∧
      u.rsq.timer j = some (u.tickCount + 20000000#64)
  others : ∀ j, j ≠ i → j ∉ (spinUpWaiting s u i).take (spinUpFree s i) →
    ¬ (unitFree s i ∧ (syncWaiting s u i).head? = some j) →
      u.rotor j = s.rotor j ∧ u.rsq.timer j = s.rsq.timer j

/-- A move of slot i at the RSQ touches no block but the rotor records, the RSQ, the pending ROTOR CHANGE notice and the
flag ROTOR_TRIP (R92, R139, R144); what it frees or fills is handed on at once (R130, R133); the slots whose state it
changes join the ROTOR CHANGE set while the kind is enabled. -/
structure MoveFrame (s u : State) (i : Slot) (tripped : Bool) : Prop where
  blocks : u.supply = s.supply ∧ u.fmu = s.fmu ∧ u.evt = s.evt ∧ u.dse = s.dse ∧ u.orl = s.orl ∧ u.pending = s.pending
  lif : u.lif = { s.lif with
    pendingNotices := { s.lif.pendingNotices with rotor := s.lif.pendingNotices.rotor || s.lif.mask.rotor } }
  stu : u.stu = { s.stu with flags := { s.stu.flags with rotorTrip := s.stu.flags.rotorTrip || tripped } }
  handedOn : HandedOn s u i
  changed : ∀ j, j ∈ u.rsq.changed ↔
    j ∈ s.rsq.changed ∨ (s.lif.mask.rotor = true ∧ (j = i ∨ (u.rotor j).state ≠ (s.rotor j).state))

/-- A slot off the road: in neither queue, not with the sync unit, its timer stopped (R124, R130, R132, R133). -/
def offRoad (u : State) (i : Slot) : Prop :=
  i ∉ u.rsq.spinUpQueue ∧ i ∉ u.rsq.syncQueue ∧ u.rsq.syncUnit ≠ some i ∧ u.rsq.timer i = none

/-- A record as a trip leaves it (R139): TRIPPED with its cause, shares, setpoint and limits zero, the latched code that
is given, all else as before. -/
def trippedRecord (r : RotorRecord) (cause : RotorCause) (latched : FaultCode) : RotorRecord :=
  { r with state := .tripped, cause := some cause, latched := latched, shares := ⟨0, 0, 0⟩, ld := 0, la := 0 }

/-! ## The terms of the statements: events (R45 to R51) -/

/-- The net served power of a dispatch: the signed F_served plus the signed O_served (R47, R82, R87). -/
def netServed (d : DispatchRecord) : Int :=
  (if d.demand < 0 then -(d.fServed : Int) else d.fServed) + (if d.po < 0 then -(d.oServed : Int) else d.oServed)

/-- A total with the energy of a power over an interval counted into it: the kJ saturate, the residue takes the remainder
(R47, R74, R75). -/
def countedInto (e : Energy) (power dt : Nat) : Energy :=
  ⟨min 4294967295 (e.kJ + (power * dt + e.residue) / 10000000), (power * dt + e.residue) % 10000000⟩

/-- The discharged and the absorbed total once a signed power over an interval has been counted (R47, R74). -/
def dischargedAfter (e : Energy) (power : Int) (dt : Nat) : Energy :=
  if 0 < power then countedInto e power.natAbs dt else e

/-- See dischargedAfter. -/
def absorbedAfter (e : Energy) (power : Int) (dt : Nat) : Energy :=
  if power < 0 then countedInto e power.natAbs dt else e

/-- An open event record with a dispatch result added to it (R47). -/
def resultAdded (r : EventRecord) (d : DispatchRecord) : EventRecord :=
  { r with
    discharged := dischargedAfter r.discharged (netServed d) d.dt
    absorbed := absorbedAfter r.absorbed (netServed d) d.dt
    peakUnserved := max r.peakUnserved d.fUnserved }

/-- The event goes on after a sample: the mode and the saved mode stay, the open record stands as given with the dispatch
result added, the recovery timer as given (R45 to R48). -/
structure EventGoesOn (s t : State) (closed : List EventRecord) (r : EventRecord) (recovery : Option Tick)
    (d : DispatchRecord) : Prop where
  mode : t.evt.mode = .event ∧ t.evt.savedMode = s.evt.savedMode
  record : t.evt.history = closed ++ [resultAdded r d]
  timer : t.evt.recovery = recovery
  curve : t.dse.curve = s.dse.curve ∧ t.dse.pendingCurve = s.dse.pendingCurve

/-- The event has ended with a cause at a plant time (R29, R51, R108): the record closed, the mode restored, the saved mode
and the recovery timer gone, a pending curve active, no order suspended by the event, EVENT CHANGE pending. -/
structure EventOver (s t : State) (closed : List EventRecord) (r : EventRecord) (cause : EventEnd) (plant : Nat)
    (mode : Mode) : Prop where
  mode : t.evt.mode = mode ∧ t.evt.savedMode = none ∧ t.evt.recovery = none
  record : t.evt.history = closed ++ [{ r with ended := some (plant, cause) }]
  curve : t.dse.curve = s.dse.pendingCurve.getD s.dse.curve ∧ t.dse.pendingCurve = none
  orders : ∀ o ∈ t.orl.orders, o.status ≠ .suspended .event
  notice : t.lif.pendingNotices.event = (s.lif.pendingNotices.event || s.lif.mask.event)

/-! ## The terms of the statements: orders at a dispatch (R84 to R86, R100 to R103, R107, R108) -/

/-- An order whose deadline has come at a plant time, and that has not ended, expires (R100). -/
def expiredAt (plant : Nat) (o : Order) : Order :=
  match o.deadline with
  | none => o
  | some x =>
    if x ≤ plant ∧ (o.status = .waiting ∨ o.status = .active ∨ o.status = .suspended .event ∨
        o.status = .suspended .exhausted) then
      { o with status := .expired, ended := some plant }
    else o

/-- The records that a dispatch's demand request finds, once overdue orders have expired: an event that the sample opens
has suspended the ACTIVE order, an event that it ends has released its order (R100, R107, R108). s is the state before
the sample, mode the mode the EVT leaves. -/
def ordersAsked (s : State) (mode : Mode) (plant : Nat) : List Order :=
  (s.orl.orders.map fun o =>
    if s.evt.mode ≠ .event ∧ mode = .event ∧ o.status = .active then { o with status := .suspended .event }
    else if s.evt.mode = .event ∧ mode ≠ .event ∧ o.status = .suspended .event then { o with status := .waiting }
    else o).map (expiredAt plant)

/-- The order that a list supplies at a plant time: the ACTIVE one, or else the oldest WAITING one whose start has come
(R101, R102). -/
def supplied (l : List Order) (plant : Nat) : Option Order :=
  match l.find? fun o => o.status == .active with
  | some o => some o
  | none => l.find? fun o => o.status == .waiting && (match o.startTime with | none => true | some x => decide (x ≤ plant))

/-- Whether a repeat condition with its threshold holds for a group, from the rotor records as a dispatch left them
(R105): the group SoC is formed over the ONLINE rotors of the group, whatever their roles. -/
def repeatHolds (t : State) (g : Fin 4) (condition : RepeatCondition) (x : Nat) : Bool :=
  let online := allSlots.filter fun i => (t.rotor i).state == .online && (t.rotor i).group == g
  let soc := 1000 * (online.map fun i => (t.rotor i).eCap * (t.rotor i).soc / 1000).sum /
    (online.map fun i => (t.rotor i).eCap).sum
  match condition with
  | .always => true
  | .above => decide (online ≠ [] ∧ x < soc)
  | .below => decide (online ≠ [] ∧ soc < x)

/-- Between two states the record with an id entered ACTIVE, SUSPENDED or a terminal state (R114). -/
def idEntered (s t : State) (id : Nat) : Prop :=
  ∃ o ∈ s.orl.orders, ∃ o' ∈ t.orl.orders, o.id = id ∧ o'.id = id ∧ o'.status ≠ o.status ∧ o'.status ≠ .waiting

/-- What a change of the orders does to the ORDER CHANGE set and its pending notice: while the kind is enabled, the ids
that entered ACTIVE, SUSPENDED or a terminal state join the set, each once, and the notice is pending (R114). -/
structure OrdersNoted (s t : State) : Prop where
  set : ∀ id, id ∈ t.orl.changed ↔ id ∈ s.orl.changed ∨ (s.lif.mask.order = true ∧ idEntered s t id)
  once : s.orl.changed.Nodup → t.orl.changed.Nodup
  notice : t.lif.pendingNotices.order = true ↔
    s.lif.pendingNotices.order = true ∨ (s.lif.mask.order = true ∧ ∃ id, idEntered s t id)

/-- A rotor may take part in the order pass of an order (R85): derived values and roles as the dispatch has them. -/
def servesOrder (floor ceiling : Nat) (o : Order) (r : RotorRecord) : Bool :=
  r.state == .online && r.group == o.group && r.roles.order &&
    (match o.direction with
     | .discharge => r.roles.discharge && decide (floor < r.soc)
     | .absorb => r.roles.absorb && decide (r.soc < ceiling))

/-- The weight of a rotor in the order pass: its distance from the order SoC bound (R85). -/
def weightForOrder (floor ceiling : Nat) (o : Order) (r : RotorRecord) : Nat :=
  match o.direction with
  | .discharge => r.eCap * (r.soc - floor) / 1000
  | .absorb => r.eCap * (ceiling - r.soc) / 1000

/-- The room of a rotor in the order pass (R86). -/
def roomForOrder (o : Order) (r : RotorRecord) : Int :=
  match o.direction with
  | .discharge => r.ld - r.shares.f
  | .absorb => r.la + r.shares.f

/-! ## The terms of the statements: the road of a rotor (R122, R127, R130 to R134) -/

/-- The record of a rotor that joins the spin-up queue: admitted at once while a spin-up slot is free (R130). -/
def joinsSpinUp (s : State) (r : RotorRecord) : RotorRecord :=
  if s.accelerating.length < 4 then { r with state := .accelerating } else { r with state := .spinupWait }

/-- The record of a rotor that joins the sync queue: handed the unit at once while it is free (R133). -/
def joinsSync (s : State) (r : RotorRecord) : RotorRecord :=
  if s.rsq.syncUnit = none then { r with state := .syncing, attempts := r.attempts + 1 } else { r with state := .syncWait }

/-- The telemetry of a matching reply written into a record, with the late count, the review flag and the acknowledged
limits (R62, R64, R73). -/
def reported (r : RotorRecord) (m : ModuleReport) (offered : Option Limits) : RotorRecord :=
  { r with
    speed := m.speed
    actualPower := m.actualPower
    temperature := m.temperature
    flags := m.flags
    faultCode := m.faultCode
    lateCount := 0
    review := r.review || m.flags.powerCycled
    limits := if m.flags.limitsAck then offered.getD r.limits else r.limits
    staged := if m.flags.limitsAck ∧ offered ≠ none ∧ r.staged = offered then none else r.staged }

/-- Whether a reply in a state other than PROBING, TRIPPED and OFFLINE trips the rotor, and why (R122). -/
def replyTrip (r : RotorRecord) : Option RotorCause :=
  if r.faultCode ≠ .none then some .fault
  else if r.flags.powerCycled = true ∧
      (r.state = .lifting ∨ r.state = .accelerating ∨ r.state = .syncing ∨ r.state = .online) then
    some .moduleRestart
  else none

/-- The record after the RSQ has acted on a reply that has been written into it (R122, R127, R129, R131, R132, R134,
R138). -/
def afterReply (s : State) (r : RotorRecord) : RotorRecord :=
  if r.state = .offline ∨ r.state = .tripped then r
  else if r.state = .probing then
    if r.faultCode ≠ .none then trippedRecord r .fault r.faultCode
    else if r.speed ≤ 60 then { r with state := .parked }
    else if s.evt.mode = .halted then trippedRecord r .stop r.latched
    else if r.smin ≤ r.speed then joinsSync s r
    else joinsSpinUp s r
  else if replyTrip r = some .fault then trippedRecord r .fault r.faultCode
  else if replyTrip r = some .moduleRestart then trippedRecord r .moduleRestart r.latched
  else if r.state = .lifting ∧ r.flags.levitated = true then joinsSpinUp s r
  else if r.state = .accelerating ∧ r.smin ≤ r.speed then joinsSync s r
  else if r.state = .syncWait ∧ r.speed < r.smin then joinsSpinUp s r
  else if r.state = .syncing ∧ r.flags.locked = true then { r with state := .online, attempts := 0 }
  else if r.state = .decelerating ∧ r.flags.atRest = true then { r with state := .parked, attempts := 0 }
  else r

/-- The record after a late poll (R123, R126, R154). -/
def afterLate (r : RotorRecord) : RotorRecord :=
  let late := min 3 (r.lateCount + 1)
  if r.state = .offline then r
  else if r.state = .probing then { RotorRecord.empty with cause := some .noModule, probeNoModule := true }
  else if late < 3 then { r with lateCount := late }
  else if r.state = .tripped then { r with lateCount := late, cause := some .lost }
  else trippedRecord { r with lateCount := late } .lost r.latched

/-! ## The terms of the statements: rounds (R147, R148, R156) -/

/-- The RBI once a round has begun with setpoints, composed from the rotor records and the pending probes as they stand
(R148); a round with nothing in it has ended as it began (R156). -/
def roundBegun (b : Rbi) (rotor : Slot → RotorRecord) (setpoints : Vector Int 16) : Rbi :=
  let slotPart := allSlots.filter fun i => (rotor i).state != .offline && (rotor i).state != .probing
  { b with
    round := if slotPart = [] ∧ b.pendingProbes = [] then none else some ⟨setpoints, slotPart, b.pendingProbes⟩
    pendingProbes := [] }

/-- The RBI once the poll in flight, or a slot passed over, is done with: while the round has turns left it goes on, after
its last turn it ends, and a pending result begins a new one (R156). -/
def roundGoesOn (b : Rbi) (rotor : Slot → RotorRecord) : Rbi :=
  match b.round with
  | none => b
  | some r =>
    if r.slotPart = [] ∧ r.probePart = [] then
      match b.pendingResult with
      | none => { b with round := none }
      | some setpoints => roundBegun { b with round := none, pendingResult := none } rotor setpoints
    else b

/-! ## The terms of the statements: bytes of the link (R160, R161) -/

/-- The bytes of a frame taken one after the other, dt ticks apart. -/
def takeBytes (dt : Nat) (bytes : List Byte) (s : State) : Host.Outcome State Fault Refusal :=
  match bytes with
  | [] => .next s
  | b :: rest =>
    match exec (.linkByteReceived dt b false) s with
    | .next t => takeBytes dt rest t
    | .fault f => .fault f
    | .refused r => .refused r

/-! ## The terms of the statements: record layouts (R195, R196) -/

/-- The bank header's layout (R195): the dispatch record's fields at their offsets, the modes and the FMU's present state;
with no record, all but the modes and the present state read 0. -/
def headerLaidOut (s : State) (h : List Byte) : Prop :=
  h.length = 30 ∧
    (∃ modes marks, h[9]? = some modes ∧ h[10]? = some marks ∧
      modes.toNat % 8 = modeCode s.evt.mode ∧
      modes.toNat / 8 % 4 =
        (match s.evt.savedMode with | none => 3 | some .idle => 0 | some .guard => 1 | some .armed => 2) ∧
      marks.toNat / 8 = measStateCode s.fmu.state ∧
      (match s.dse.latest with
       | none => modes.toNat / 32 = 0 ∧ marks.toNat % 8 = 0
       | some d => modes.toNat / 32 = measStateCode d.state + 4 ∧
           marks.toNat % 8 = d.held.toNat + 2 * d.saturated.toNat + 4 * d.exhausted.toNat)) ∧
    match s.dse.latest with
    | none => h.take 9 = List.replicate 9 0#8 ∧ h.drop 11 = List.replicate 19 0#8
    | some d =>
      h.take 6 = beBytes 6 d.plantTime ∧ (h.drop 6).take 3 = beBytes 3 (min 16777215 d.dt) ∧
        (h.drop 11).take 2 = beIntBytes 2 (d.df.getD 0) ∧ (h.drop 13).take 2 = beIntBytes 2 (d.rocof.getD 0) ∧
        (h.drop 15).take 2 = beIntBytes 2 d.pCurve ∧ (h.drop 17).take 3 = beIntBytes 3 d.pIn ∧
        (h.drop 20).take 2 = beIntBytes 2 d.demand ∧ (h.drop 22).take 2 = beBytes 2 d.fServed ∧
        (h.drop 24).take 2 = beBytes 2 (d.orderId.getD 0) ∧ (h.drop 26).take 2 = beIntBytes 2 d.po ∧
        (h.drop 28).take 2 = beBytes 2 d.oServed

/-- The rotor snapshot record's layout (R196). -/
def snapshotLaidOut (r : RotorRecord) (h : List Byte) : Prop :=
  h.length = 24 ∧
    h.take 3 = [byteOf (rotorStateCode r.state), byteOf (rotorCauseCode r.cause), byteOf r.group.val] ∧
    (∃ roles, h[3]? = some roles ∧ roles.getLsbD 0 = r.roles.discharge ∧ roles.getLsbD 1 = r.roles.absorb ∧
      roles.getLsbD 2 = r.roles.frequency ∧ roles.getLsbD 3 = r.roles.order ∧ roles.toNat < 16) ∧
    (h.drop 4).take 2 = beBytes 2 r.speed ∧ (h.drop 6).take 1 = beIntBytes 1 r.temperature ∧
    (∃ flags, h[7]? = some flags ∧ flags.getLsbD 0 = r.flags.levitated ∧ flags.getLsbD 1 = r.flags.atRest ∧
      flags.getLsbD 2 = r.flags.locked ∧ flags.getLsbD 3 = r.flags.powerCycled ∧ flags.getLsbD 4 = r.flags.limitsAck ∧
      flags.toNat < 32) ∧
    (h.drop 8).take 2 = [byteOf (faultCodeCode r.faultCode), byteOf (faultCodeCode r.latched)] ∧
    (r.lateCount ≤ 3 → r.attempts ≤ 3 →
      ∃ counts, h[10]? = some counts ∧ counts.toNat % 16 = r.lateCount ∧ counts.toNat / 16 = r.attempts) ∧
    (∃ marks, h[11]? = some marks ∧ marks.getLsbD 0 = r.derated ∧ marks.getLsbD 1 = r.review ∧
      marks.getLsbD 2 = r.staged.isSome ∧ marks.getLsbD 3 = r.probeNoModule ∧ marks.toNat < 16) ∧
    (h.drop 12).take 2 = beBytes 2 r.soc ∧ (h.drop 14).take 2 = beBytes 2 r.ld ∧ (h.drop 16).take 2 = beBytes 2 r.la ∧
    (h.drop 18).take 2 = beIntBytes 2 r.shares.f ∧ (h.drop 20).take 2 = beIntBytes 2 r.shares.o ∧
    (h.drop 22).take 2 = beIntBytes 2 r.shares.n

/-! ## The terms of the statements: polls (R124, R150) -/

/-- The command of a poll to a slot in a state, by the table of R150; none where R150 names no poll of the slot part. -/
def pollTable : RotorState → Option PollCommand
  | .offline => none
  | .probing => none
  | .parked => some .hold
  | .lifting => some .lift
  | .spinupWait => some .hold
  | .accelerating => some .motor
  | .syncWait => some .hold
  | .syncing => some .sync
  | .online => some .setpoint
  | .decelerating => some .brake
  | .tripped => some .coast

/-- Where a rotor stands on the road once it has been moved, at a tick (R124, R130, R132, R133): waiting, it is the last of
its queue; with a spin-up slot or the sync unit, its timer runs from now; anywhere else it is off the road. -/
def standsWhereItShould (s u : State) (i : Slot) (now : Tick) : Prop :=
  match (u.rotor i).state with
  | .spinupWait => u.rsq.spinUpQueue.getLast? = some i ∧ u.rsq.timer i = none
  | .accelerating => u.rsq.timer i = some (now + BitVec.ofNat 64 (s.dse.spinUpLimit * 10000000))
  | .syncWait => u.rsq.syncQueue.getLast? = some i ∧ u.rsq.timer i = none
  | .syncing => u.rsq.syncUnit = some i ∧ u.rsq.timer i = some (now + 20000000#64)
  | .offline => offRoad u i
  | .probing => offRoad u i
  | .parked => offRoad u i
  | .lifting => offRoad u i
  | .online => offRoad u i
  | .decelerating => offRoad u i
  | .tripped => offRoad u i

end Sys2Proof.Machine
end

