-- ==== Sys2Proof/Certificates/Slice0/Obligations.lean ====
section
/-! DEFINITION. The statements for the provers. Each says what a rule of spec/ says of a command, of an operation, or of
every step. -/

open Sys2Proof Sys2Proof.Machine

/-! ## The queue, the supply and the resets -/

/-- A step takes the command at the front of the queue and runs it on the state with the queue's rest; with no command
waiting nothing changes (the queue and the idle step are the model's own: log entry 4). -/
def Obligations.StepRunsFrontCommand : Prop :=
  (∀ (c : Instr) (rest : List Instr) (s : State),
      step { s with pending := c :: rest } = exec c { s with pending := rest }) ∧
    ∀ s : State, s.pending = [] → step s = .next s

/-- In every state exec answers a next state for every command, and leaves the commands that wait as they are. Both are the
model's own choice: that no command ends in a fault or a refusal is log entry 8 (no rule describes a fault of the part;
one held in reset takes no command and answers with its state as it stands, R184), the queue is log entry 4. -/
def Obligations.EveryCommandAnswersNext : Prop :=
  ∀ (c : Instr) (s : State), ∃ t, exec c s = .next t ∧ t.pending = s.pending

/-- SUPPLY_FALL puts the part in reset; from then on only POWER_ON and SUPPLY_DIP are taken, and every other command
leaves the state as it stands (R184; that the state stays as it stood at the fall is log entry 11). -/
def Obligations.SupplyFallHoldsThePart : Prop :=
  (∀ (dt : Nat) (s : State), s.supply = .up →
      exec (.supplyFall dt) s =
        .next { s with tickCount := s.tickCount + BitVec.ofNat 64 dt, supply := .down }) ∧
    ∀ (c : Instr) (s : State), s.supply = .down → (∀ line, c ≠ .powerOn line) → (∀ line, c ≠ .supplyDip line) →
      exec c s = .next s

/-- POWER_ON and SUPPLY_DIP give every block its reset state, at tick 0, in whatever state they find the part; they differ
in the cause alone (R18, R33, R57, R77, R118, R145, R159, R176, R184, R187, R188; that both are taken whatever the supply
was is the model's choice, log entry 22). That the machine starts in the state that a POWER_ON reset with the stop line
released leaves, with no command waiting, is the model's choice too (log entries 9 and 4), and so is it that no frame is
being received on the rotor bus then (log entry 25). -/
def Obligations.PowerOnAndSupplyDipReset : Prop :=
  (∀ (line : StopLevel) (s : State),
      (∃ t, exec (.powerOn line) s = .next t ∧ AfterReset t .powerOn 0 line) ∧
        ∃ t, exec (.supplyDip line) s = .next t ∧ AfterReset t .supplyDip 0 line) ∧
    AfterReset State.reset .powerOn 0 .released ∧ State.reset.pending = []

/-- REQUEST_SLOT_RELEASE: with the last byte of a reply sent, the transmitter falls free and the slot is empty; with
restart pending, the reset for RESTART takes effect there, the tick count running on (R171, R184, R186). -/
def Obligations.SlotReleaseAndRestart : Prop :=
  ∀ (dt : Nat) (line : StopLevel) (s : State) (f : Sending),
    s.supply = .up → s.lif.sending = some f → f.isReply = true →
      (s.stu.restartPending = false →
        exec (.requestSlotRelease dt line) s =
          .next { s with
            tickCount := s.tickCount + BitVec.ofNat 64 dt
            lif := { s.lif with sending := none, slot := none } }) ∧
      (s.stu.restartPending = true →
        ∃ t, exec (.requestSlotRelease dt line) s = .next t ∧
          AfterReset t .restart (s.tickCount + BitVec.ofNat 64 dt) line)

/-! ## Frequency measurement (chapter 01) -/

/-- ZERO_CROSSING_EDGE: a first edge is recorded and restarts the missing-edge timer, and does nothing else; every other
edge, whether its period is valid or not, is recorded, restarts the timer, has its period classified into the period
list, of which the newest N are kept in their order, and produces one sample, which is measured by the table of R12 and
dispatched (R2 to R6, R8 to R16). -/
def Obligations.ZeroCrossingEdgeMeasures : Prop :=
  ∀ (dt : Nat) (s : State), s.supply = .up →
    let now := s.tickCount + BitVec.ofNat 64 dt
    let expiry := now + BitVec.ofNat 64 (if s.fmu.nominal = .hz50 then 400000 else 333334)
    (s.fmu.lastEdge = none →
      exec (.zeroCrossingEdge dt) s =
        .next { s with tickCount := now, fmu := { s.fmu with lastEdge := some now, expiry := expiry } }) ∧
    ∀ last, s.fmu.lastEdge = some last →
      let period := (now - last).toNat
      let valid := periodValid s.fmu.nominal period
      ∃ t d, exec (.zeroCrossingEdge dt) s = .next t ∧ t.tickCount = now ∧
        SampleTaken s
          { s.fmu with
            lastEdge := some now
            expiry := expiry
            periods := if valid = true then newestEntries s.fmu.n (s.fmu.periods ++ [period]) else [] }
          now valid t d

/-- MISSING_EDGE_TIMEOUT: the period list is emptied, the timer restarted from the expiry tick, and one invalid sample,
with the expiry tick as its time, is measured by the table of R12 and dispatched; the last edge time is kept (R5, R6,
R8 to R16). -/
def Obligations.MissingEdgeTimeoutMeasures : Prop :=
  ∀ s : State, s.supply = .up →
    ∃ t d, exec .missingEdgeTimeout s = .next t ∧
      ((s.fmu.expiry - s.tickCount).toNat < 2 ^ 63 → t.tickCount = s.fmu.expiry) ∧
      SampleTaken s
        { s.fmu with
          expiry := s.fmu.expiry + BitVec.ofNat 64 (if s.fmu.nominal = .hz50 then 400000 else 333334)
          periods := [] }
        s.fmu.expiry false t d

/-- What a sample's whole passage leaves unchanged, and what it counts. Of the rotor records it writes the derived
values, the shares and the energy counters alone; of the LIF the pending notices alone; nothing of the RSQ, of the host's
settings, of the capture, the reset state or the clock (R61, R66, R71, R92). At the RBI a round begins with the dispatch's
setpoints, or, with a round in progress, they become the pending result; tags and the poll in flight stay (R147, R148).
Every enrolled rotor's setpoint is counted over the interval into its counters, which saturate, and a counter that would
have passed its largest value sets COUNTER (R74, R75); that an addition of less than 1 kJ to a saturated counter sets
nothing is the model's reading of R75 (log entry 24). -/
def Obligations.SampleFrameAndThroughput : Prop :=
  ∀ (c : Instr) (s t : State) (d : DispatchRecord),
    bringsSample c s → exec c s = .next t → t.dse.latest = some d →
      (t.supply = s.supply ∧ t.rsq = s.rsq ∧ t.pending = s.pending) ∧
      (∃ soc ld la : Slot → Nat, ∃ derated : Slot → Bool, ∀ i,
        (t.rotor i).shares = d.slots[i] ∧
        t.rotor i = { s.rotor i with
          soc := soc i
          ld := ld i
          la := la i
          derated := derated i
          shares := d.slots[i]
          discharged :=
            if (s.rotor i).state = .offline then (s.rotor i).discharged
            else dischargedAfter (s.rotor i).discharged d.slots[i].n d.dt
          absorbed :=
            if (s.rotor i).state = .offline then (s.rotor i).absorbed
            else absorbedAfter (s.rotor i).absorbed d.slots[i].n d.dt }) ∧
      (t.stu.flags.counter = true ↔ s.stu.flags.counter = true ∨
        ∃ i, (s.rotor i).state ≠ .offline ∧
          ((0 < d.slots[i].n ∧ 4294967295 < (s.rotor i).discharged.kJ +
              (d.slots[i].n.natAbs * d.dt + (s.rotor i).discharged.residue) / 10000000) ∨
            (d.slots[i].n < 0 ∧ 4294967295 < (s.rotor i).absorbed.kJ +
              (d.slots[i].n.natAbs * d.dt + (s.rotor i).absorbed.residue) / 10000000))) ∧
      t.stu = { s.stu with flags := { s.stu.flags with
        saturated := t.stu.flags.saturated, unserved := t.stu.flags.unserved, counter := t.stu.flags.counter } } ∧
      t.lif = { s.lif with pendingNotices := { s.lif.pendingNotices with
        event := t.lif.pendingNotices.event, order := t.lif.pendingNotices.order,
        measurement := t.lif.pendingNotices.measurement } } ∧
      t.evt = { s.evt with
        mode := t.evt.mode, savedMode := t.evt.savedMode, memory := t.evt.memory, recovery := t.evt.recovery,
        history := t.evt.history, eventNumber := t.evt.eventNumber } ∧
      t.dse = { s.dse with curve := t.dse.curve, pendingCurve := t.dse.pendingCurve, latest := t.dse.latest } ∧
      (s.rbi.round = none → t.rbi = roundBegun s.rbi s.rotor (Vector.ofFn fun i : Fin 16 => d.slots[i].n)) ∧
      (s.rbi.round ≠ none → t.rbi = { s.rbi with pendingResult := some (Vector.ofFn fun i : Fin 16 => d.slots[i].n) })

/-- The band of valid periods, bounds included: the table of R3, which is the nominal frequency ±5 Hz rounded inward to
whole ticks. -/
def Obligations.PeriodBand : Prop :=
  ∀ (nom : Nominal) (period : Nat),
    (periodValid nom period = true ↔
      match nom with
      | .hz50 => 181819 ≤ period ∧ period ≤ 222222
      | .hz60 => 153847 ≤ period ∧ period ≤ 181818) ∧
    (periodValid nom period = true ↔
      match nom with
      | .hz50 => 45000 * period ≤ 10 ^ 10 ∧ 10 ^ 10 ≤ 55000 * period
      | .hz60 => 55000 * period ≤ 10 ^ 10 ∧ 10 ^ 10 ≤ 65000 * period)

/-- The frequency estimate of the listed periods is k × 10^10 / S mHz rounded half up; with every period valid it lies
within the band, and the deviation from nominal is then not cut by its clamp (R7). Rocof is the difference of the
newest deviation and the one W places before it, times 10^7, over their ticks, truncated toward zero and clamped; with W
entries or fewer it is 0 (R14). -/
def Obligations.EstimateAndRocof : Prop :=
  (∀ periods : List Nat, 0 < periods.sum →
      2 * estimate periods * periods.sum ≤ 2 * (periods.length * 10 ^ 10) + periods.sum ∧
      2 * (periods.length * 10 ^ 10) + periods.sum < (2 * estimate periods + 2) * periods.sum) ∧
  (∀ (nom : Nominal) (periods : List Nat), periods ≠ [] → (∀ p ∈ periods, periodValid nom p = true) →
      let nominal : Int := if nom = .hz50 then 50000 else 60000
      deviation nom (estimate periods) = (estimate periods : Int) - nominal ∧
        -5000 ≤ (estimate periods : Int) - nominal ∧ (estimate periods : Int) - nominal ≤ 5000) ∧
  (∀ (old mid : List (Tick × Int)) (x newest : Tick × Int),
      rocofOf (mid.length + 1) (old ++ x :: mid ++ [newest]) =
        max (-20000) (min 20000 (((newest.2 - x.2) * 10 ^ 7).tdiv ((newest.1 - x.1).toNat : Int)))) ∧
  ∀ (w : Nat) (history : List (Tick × Int)), 0 < w → history.length ≤ w → rocofOf w history = 0

/-! ## The demand stage (chapter 02) -/

/-- The response curve at a deviation: the first power at and below the first breakpoint, the last power at and above the
last, and on the segment that holds df the first power plus a quotient truncated toward zero, which lies between the
segment's powers (R20). -/
def Obligations.ResponseCurve : Prop :=
  ∀ (c : List Breakpoint) (df : Int), curveFits c →
    (∀ first rest, c = first :: rest → df ≤ first.df → curveAt c df = first.p) ∧
    (∀ init last, c = init ++ [last] → last.df ≤ df → curveAt c df = last.p) ∧
    (∀ before x y after_, c = before ++ x :: y :: after_ → x.df ≤ df → df < y.df →
      curveAt c df = x.p + ((y.p - x.p) * (df - x.df)).tdiv (y.df - x.df) ∧
        min x.p y.p ≤ curveAt c df ∧ curveAt c df ≤ max x.p y.p) ∧
    -8000 ≤ curveAt c df ∧ curveAt c df ≤ 8000

/-- Every sample's dispatch, whatever the sample, mode and measurement state, records the demand by the tables of R22
and R23, in the mode the EVT has left: in LOST nothing; otherwise P_curve of the active curve, P_in = −(K_in × rocof) /
1000 truncated, and F, the mode's raw demand clamped to the bank limits, marked saturated exactly when the clamp changed
it, which also sets SATURATED (R21 to R24, R34). -/
def Obligations.DispatchDemand : Prop :=
  ∀ (c : Instr) (s t : State) (d : DispatchRecord),
    bringsSample c s → exec c s = .next t → t.dse.latest = some d →
      (d.state = .lost →
        d.df = none ∧ d.rocof = none ∧ d.pCurve = 0 ∧ d.pIn = 0 ∧ d.demand = 0 ∧ d.saturated = false) ∧
      (∀ df rocof, d.df = some df → d.rocof = some rocof →
        let raw : Int :=
          match t.evt.mode with
          | .idle => 0
          | .guard => 0
          | .armed => d.pCurve
          | .event => d.pCurve + d.pIn
          | .halted => 0
        d.pCurve = curveAt t.dse.curve df ∧ d.pIn = -(((t.dse.kIn : Int) * rocof).tdiv 1000) ∧
          d.demand = max (-(t.dse.paBank : Int)) (min t.dse.pdBank raw) ∧
          (d.saturated = true ↔ d.demand ≠ raw)) ∧
      t.stu.flags.saturated = (s.stu.flags.saturated || d.saturated)

/-! ## The event monitor (chapter 03) -/

/-- A VALID sample is classified into its regions, which the region memory then holds; a HOLDING one leaves the memory, a
LOST one makes it unknown (R38 to R41). Outside EVENT nothing else of the EVT changes, unless a trigger meets GUARD or
ARMED (R42). -/
def Obligations.SampleClassified : Prop :=
  ∀ (c : Instr) (s t : State) (d : DispatchRecord),
    bringsSample c s → exec c s = .next t → t.dse.latest = some d →
      (d.state = .lost → t.evt.memory = none) ∧
      (d.state = .holding → t.evt.memory = s.evt.memory) ∧
      (∀ df rocof, d.state = .valid → d.df = some df → d.rocof = some rocof →
        t.evt.memory = some
          ⟨if df ≤ -(s.evt.uThreshold : Int) then .low
            else if (s.evt.oThreshold : Int) ≤ df then .high else .normal,
           if 0 < s.evt.rocofThreshold ∧ s.evt.rocofThreshold ≤ rocof.natAbs then .fast else .slow⟩) ∧
      (ModeInv s → s.evt.mode ≠ .event →
        (∀ df rocof, d.state = .valid → d.df = some df → d.rocof = some rocof →
          s.evt.mode = .guard ∨ s.evt.mode = .armed → ¬ (triggersAt s.evt df rocof).anyHit) →
        t.evt = { s.evt with memory := t.evt.memory })

/-- A trigger in GUARD or ARMED opens an event: the mode is saved, the record opens with the values of R44 (the dispatch
of the same sample already added to it), the oldest record gives way to a fifth, no order stays ACTIVE, EVENT CHANGE is
pending (R37, R40, R42 to R44, R47, R107). -/
def Obligations.TriggerOpensEvent : Prop :=
  ∀ (c : Instr) (s t : State) (d : DispatchRecord) (df rocof : Int) (entry : HostMode),
    bringsSample c s → ModeInv s → exec c s = .next t → t.dse.latest = some d →
    d.state = .valid → d.df = some df → d.rocof = some rocof → (triggersAt s.evt df rocof).anyHit →
    (s.evt.mode = .guard ∧ entry = .guard) ∨ (s.evt.mode = .armed ∧ entry = .armed) →
      t.evt.mode = .event ∧ t.evt.savedMode = some entry ∧ t.evt.recovery = none ∧
      t.evt.eventNumber = (if 65535 < s.evt.eventNumber + 1 then 1 else s.evt.eventNumber + 1) ∧
      t.evt.history = (if s.evt.history.length = 4 then s.evt.history.drop 1 else s.evt.history) ++
        [resultAdded
          { number := t.evt.eventNumber
            cause := triggersAt s.evt df rocof
            entryMode := entry
            startTime := s.plantTimeAt d.tick
            dfAtTrigger := df
            rocofAtTrigger := rocof
            nadir := df
            zenith := df
            retriggers := 0
            discharged := ⟨0, 0⟩
            absorbed := ⟨0, 0⟩
            peakUnserved := 0
            ended := none } d] ∧
      (∀ o ∈ t.orl.orders, o.status ≠ .active) ∧
      t.lif.pendingNotices.event = (s.lif.pendingNotices.event || s.lif.mask.event)

/-- A sample handled in EVENT, with the open record r (R38, R45 to R51): a HOLDING one changes the energies alone; one in
LOST ends the event; a VALID one follows nadir and zenith, and then a trigger counts a retrigger and stops the recovery
timer, a deviation beyond the band stops it, and one within the band starts it or keeps it, and ends the event once the
hold time has passed. -/
def Obligations.EventRunsAndEnds : Prop :=
  ∀ (c : Instr) (s t : State) (d : DispatchRecord) (closed : List EventRecord) (r : EventRecord) (saved : HostMode),
    bringsSample c s → ModeInv s → s.evt.mode = .event → s.evt.history = closed ++ [r] → s.evt.savedMode = some saved →
    exec c s = .next t → t.dse.latest = some d →
      (d.state = .holding → EventGoesOn s t closed r s.evt.recovery d) ∧
      (d.state = .lost → EventOver s t closed r .lost (s.plantTimeAt d.tick) (modeOfHost saved)) ∧
      ∀ df rocof, d.state = .valid → d.df = some df → d.rocof = some rocof →
        let followed := { r with nadir := min r.nadir df, zenith := max r.zenith df }
        ((triggersAt s.evt df rocof).anyHit →
          EventGoesOn s t closed { followed with retriggers := min 255 (r.retriggers + 1) } none d) ∧
        (¬ (triggersAt s.evt df rocof).anyHit → s.evt.band < df.natAbs → EventGoesOn s t closed followed none d) ∧
        (¬ (triggersAt s.evt df rocof).anyHit → df.natAbs ≤ s.evt.band →
          let start := s.evt.recovery.getD d.tick
          if s.evt.hold * 10000 ≤ (d.tick - start).toNat then
            EventOver s t closed followed .recovered (s.plantTimeAt d.tick) (modeOfHost saved)
          else EventGoesOn s t closed followed (some start) d)

/-! ## The rotor table and the power allocation (chapters 04 and 05) -/

/-- Every dispatch recomputes the derived values of every record from its telemetry, roles and applied limits: the SoC by
R67, the limits of an ONLINE rotor by R68 and R69, those of every other rotor 0, the derated mark by R69, and all zero
or clear for an OFFLINE slot (R66 to R69). -/
def Obligations.DerivedValues : Prop :=
  ∀ (c : Instr) (s t : State) (i : Slot), bringsSample c s → exec c s = .next t →
    let r := s.rotor i
    let soc : Int := max 0 (min 1000
      ((1000 * ((r.speed : Int) ^ 2 - (r.smin : Int) ^ 2)).tdiv ((r.smax : Int) ^ 2 - (r.smin : Int) ^ 2)))
    let limit := r.limits.rating * min r.speed r.sbase / r.sbase
    let hot := (r.limits.derate : Int) ≤ r.temperature
    (r.state = .offline → (t.rotor i).soc = 0 ∧ (t.rotor i).derated = false) ∧
    (r.state ≠ .offline → ((t.rotor i).soc : Int) = soc ∧ ((t.rotor i).derated = true ↔ hot)) ∧
    (r.state ≠ .online → (t.rotor i).ld = 0 ∧ (t.rotor i).la = 0) ∧
    (r.state = .online →
      (soc = 0 ∨ r.roles.discharge = false → (t.rotor i).ld = 0) ∧
      (soc ≠ 0 → r.roles.discharge = true → (t.rotor i).ld = if hot then limit / 2 else limit) ∧
      (soc = 1000 ∨ r.roles.absorb = false → (t.rotor i).la = 0) ∧
      (soc ≠ 1000 → r.roles.absorb = true → (t.rotor i).la = if hot then limit / 2 else limit))

/-- The share procedure: pass 1 gives each rotor the smaller of its room and its truncated proportion of the target, pass
2 gives what is left in ascending order to what room is left; so every share lies within its room, and what is served is
the target, or all the room there is where that is less (R79, R80). -/
def Obligations.ShareProcedure : Prop :=
  ∀ (target : Nat) (cs : List Candidate),
    let total := (cs.map fun c => c.weight).sum
    let first := fun c : Candidate => min c.room (target * c.weight / total)
    let left := target - (cs.map first).sum
    (∀ before c after_, cs = before ++ c :: after_ →
      (shareOut target cs)[before.length]? =
        some ⟨c.slot, first c + min (left - (before.map fun b => b.room - first b).sum) (c.room - first c)⟩) ∧
    (shareOut target cs).length = cs.length ∧
    (cs.map first).sum ≤ target ∧
    ((shareOut target cs).map fun x => x.amount).sum = min target ((cs.map fun c => c.room).sum)

/-- No dispatch asks more of a rotor than its limits, or of the bank than the bank limits: each ONLINE rotor's setpoint is
its frequency share plus its order share and lies within −La to Ld of the same dispatch, its frequency share has the
sign of F, every other slot has 0, and the signed F_served plus the signed O_served lies within −Pa_bank to +Pd_bank
(R82, R86, R89). -/
def Obligations.DispatchWithinLimits : Prop :=
  ∀ (c : Instr) (s t : State) (d : DispatchRecord),
    bringsSample c s → exec c s = .next t → t.dse.latest = some d →
      (∀ i, (t.rotor i).state ≠ .online → d.slots[i] = ⟨0, 0, 0⟩) ∧
      (∀ i, (t.rotor i).state = .online →
        d.slots[i].n = d.slots[i].f + d.slots[i].o ∧
        -((t.rotor i).la : Int) ≤ d.slots[i].n ∧ d.slots[i].n ≤ (t.rotor i).ld ∧
        (0 ≤ d.demand → 0 ≤ d.slots[i].f ∧ d.slots[i].f ≤ (t.rotor i).ld) ∧
        (d.demand ≤ 0 → -((t.rotor i).la : Int) ≤ d.slots[i].f ∧ d.slots[i].f ≤ 0)) ∧
      -(t.dse.paBank : Int) ≤ netServed d ∧ netServed d ≤ t.dse.pdBank

/-- The frequency pass serves as much of the demand as its eligible rotors have room for, those that are ONLINE with the
frequency role and with a limit and a weight in the direction of F; each of them takes the share that the share procedure
gives it by these weights and limits, with the sign of F, and every other slot 0; what is left is unserved and sets
UNSERVED (R70, R79 to R83). -/
def Obligations.FrequencyPassServes : Prop :=
  ∀ (c : Instr) (s t : State) (d : DispatchRecord),
    bringsSample c s → exec c s = .next t → t.dse.latest = some d →
      let weight := fun i : Slot =>
        if 0 < d.demand then (t.rotor i).eCap * (t.rotor i).soc / 1000
        else (t.rotor i).eCap * (1000 - (t.rotor i).soc) / 1000
      let room := fun i : Slot =>
        if (t.rotor i).state = .online ∧ (t.rotor i).roles.frequency = true ∧ 0 < weight i then
          if 0 < d.demand then (t.rotor i).ld else (t.rotor i).la
        else 0
      let eligible : List Candidate := (allSlots.filter fun i => 0 < room i).map fun i => ⟨i, weight i, room i⟩
      d.fServed = min d.demand.natAbs (allSlots.map room).sum ∧
        d.fUnserved = d.demand.natAbs - d.fServed ∧
        (∀ i, room i = 0 → d.slots[i].f = 0) ∧
        (∀ x ∈ shareOut d.demand.natAbs eligible,
          d.slots[x.slot].f = if d.demand < 0 then -(x.amount : Int) else x.amount) ∧
        t.stu.flags.unserved = (s.stu.flags.unserved || decide (0 < d.fUnserved))

/-- The demand request and the accounting: in every mode overdue orders expire first; in GUARD and ARMED the ACTIVE order
is supplied, or else the oldest WAITING one whose start has come, which becomes ACTIVE; in every other mode none is. The
order supplied, and no other, is then accounted, its repeat condition tested against the group SoC that this dispatch
left; and the ids of the records that the sample has brought to ACTIVE, SUSPENDED or an end join the ORDER CHANGE set and
make its notice pending (R84, R100 to R108, R114). -/
def Obligations.OrdersAtDispatch : Prop :=
  ∀ (c : Instr) (s t : State) (d : DispatchRecord),
    bringsSample c s → OrderInv s → exec c s = .next t → t.dse.latest = some d →
      let asked := ordersAsked s t.evt.mode d.plantTime
      d.orderId =
        (if t.evt.mode = .guard ∨ t.evt.mode = .armed then (supplied asked d.plantTime).map fun o => o.id else none) ∧
      (t.orl.orders = asked.map fun o =>
        if d.orderId = some o.id then
          (if o.status = .active then o
            else { o with status := .active, activated := some d.plantTime }).account
              (d.oServed * d.dt) d.exhausted (repeatHolds t o.group) d.plantTime
        else o) ∧
      OrdersNoted s t

/-- The order pass for the order supplied: it is exhausted exactly when no rotor of its group may serve it, and then
nothing is served; otherwise it serves its power, or the bank room, or the rotors' rooms, whichever is least, and each
rotor that may serve it takes the share that the share procedure gives it by its distance from the order SoC bound and
its room, with the order's sign, and every other slot 0; with no order supplied every figure is 0 (R79, R80, R84 to
R88). -/
def Obligations.OrderPassServes : Prop :=
  ∀ (c : Instr) (s t : State) (d : DispatchRecord),
    bringsSample c s → OrderInv s → exec c s = .next t → t.dse.latest = some d →
      (d.orderId = none →
        d.po = 0 ∧ d.oServed = 0 ∧ d.oUnserved = 0 ∧ d.exhausted = false ∧ ∀ i : Slot, d.slots[i].o = 0) ∧
      ∀ o ∈ ordersAsked s t.evt.mode d.plantTime, d.orderId = some o.id →
        let serving := allSlots.filter fun i => servesOrder t.dse.floor t.dse.ceiling o (t.rotor i)
        let signedServed : Int := if d.demand < 0 then -(d.fServed : Int) else d.fServed
        let bankRoom : Int :=
          match o.direction with
          | .discharge => t.dse.pdBank - signedServed
          | .absorb => t.dse.paBank + signedServed
        d.po = (match o.direction with | .discharge => (o.power : Int) | .absorb => -(o.power : Int)) ∧
        (d.exhausted = true ↔ serving = []) ∧
        (d.oServed : Int) =
          min (min (o.power : Int) (max 0 bankRoom)) ((serving.map fun i => roomForOrder o (t.rotor i)).sum) ∧
        d.oUnserved = o.power - d.oServed ∧
        (∀ i : Slot, i ∉ serving → d.slots[i].o = 0) ∧
        ∀ x ∈ shareOut (min o.power bankRoom.toNat)
            (serving.map fun i =>
              ⟨i, weightForOrder t.dse.floor t.dse.ceiling o (t.rotor i), (roomForOrder o (t.rotor i)).toNat⟩),
          d.slots[x.slot].o = (match o.direction with | .discharge => (x.amount : Int) | .absorb => -(x.amount : Int))

/-- An order's accounting of a dispatch result: exhausted, it is suspended with nothing delivered; otherwise the delivered
joules are taken off the remaining quota, and a completed run ends the order, or repeats it, by its repeat part (R103,
R104, R106). The repeat condition: ALWAYS holds in every case; the other two hold when the group has an ONLINE rotor and
its group SoC, over those rotors whatever their roles, is above or below the threshold (R105). -/
def Obligations.OrderAccounting : Prop :=
  (∀ (o : Order) (units : Nat) (holds : RepeatCondition → Nat → Bool) (plant : Nat),
    let joules := (units + o.residue) / 10000
    let residue := (units + o.residue) % 10000
    o.account units true holds plant = { o with status := .suspended .exhausted } ∧
    (joules < o.remaining →
      o.account units false holds plant =
        { o with remaining := o.remaining - joules, residue := residue, delivered := o.delivered + joules }) ∧
    (o.remaining ≤ joules →
      (∀ r, o.repeats = some r → r.count ≠ 0 →
        (holds r.condition r.x = true →
          o.account units false holds plant =
            { o with
              remaining := o.quota * 1000, residue := 0, delivered := o.delivered + o.remaining
              repeats := some { r with count := r.count - 1 } }) ∧
        (holds r.condition r.x = false →
          o.account units false holds plant =
            { o with
              remaining := 0, residue := residue, delivered := o.delivered + o.remaining
              repeats := some { r with count := r.count - 1 }, status := .done .condition, ended := some plant })) ∧
      ((∀ r, o.repeats = some r → r.count = 0) →
        o.account units false holds plant =
          { o with
            remaining := 0, residue := residue, delivered := o.delivered + o.remaining
            status := .done .quota, ended := some plant }))) ∧
  ∀ (t : State) (g : Fin 4) (x : Nat),
    let online := allSlots.filter fun i => (t.rotor i).state == .online && (t.rotor i).group == g
    let soc := 1000 * (online.map fun i => (t.rotor i).eCap * (t.rotor i).soc / 1000).sum /
      (online.map fun i => (t.rotor i).eCap).sum
    conditionHolds (t.groupOnline g) .always x = true ∧
      (conditionHolds (t.groupOnline g) .above x = true ↔ online ≠ [] ∧ x < soc) ∧
      (conditionHolds (t.groupOnline g) .below x = true ↔ online ≠ [] ∧ soc < x)

/-! ## The bank stop input (chapters 03, 06, 07; R201) -/

/-- STOP_ASSERTION: a qualified new low level halts the bank from every other mode, ending an open event with cause STOP;
trips every moving rotor with cause STOP and no other, with no admission or hand-over after it; and cancels every order
that has not ended, whose ids join the ORDER CHANGE set and make its notice pending (R37, R51, R52, R108, R111, R114,
R139, R140, R144). STOP_RELEASE: a qualified new high level makes the mode IDLE and adds HALT CHANGE; rotors and orders
are not restored, and the region memory is kept (R53). A level held less than 100 ticks, or the level already taken, is
no arrival (R201). -/
def Obligations.StopInputHaltsAndReleases : Prop :=
  (∀ (dt steady : Nat) (s : State), s.supply = .up →
    let now := s.tickCount + BitVec.ofNat 64 dt
    (steady < 100 ∨ s.evt.stopLevel = .asserted → exec (.stopAssertion dt steady) s = .next { s with tickCount := now }) ∧
    (100 ≤ steady → s.evt.stopLevel = .released → ModeInv s →
      ∃ t, exec (.stopAssertion dt steady) s = .next t ∧ t.tickCount = now ∧
        (t.fmu = s.fmu ∧ t.rbi = s.rbi ∧ t.supply = s.supply) ∧
        (t.evt.mode = .halted ∧ t.evt.stopLevel = .asserted ∧ t.evt.memory = s.evt.memory) ∧
        (s.evt.mode ≠ .event → t.evt = { s.evt with mode := .halted, stopLevel := .asserted } ∧ t.dse = s.dse ∧
          t.lif.pendingNotices.event = s.lif.pendingNotices.event) ∧
        (∀ closed r, s.evt.mode = .event → s.evt.history = closed ++ [r] →
          EventOver s t closed r .stop (s.plantTimeAt now) .halted) ∧
        t.lif.pendingNotices.halt = (s.lif.pendingNotices.halt || s.lif.mask.halt) ∧
        (∀ i, movingState (s.rotor i).state = true →
          t.rotor i = trippedRecord (s.rotor i) .stop (s.rotor i).latched ∧ offRoad t i) ∧
        (∀ i, i ∈ t.rsq.changed ↔
          i ∈ s.rsq.changed ∨ (s.lif.mask.rotor = true ∧ movingState (s.rotor i).state = true)) ∧
        (t.lif.pendingNotices.rotor = true ↔
          s.lif.pendingNotices.rotor = true ∨
            (s.lif.mask.rotor = true ∧ ∃ i, movingState (s.rotor i).state = true)) ∧
        t.lif = { s.lif with pendingNotices := { s.lif.pendingNotices with
          event := t.lif.pendingNotices.event, rotor := t.lif.pendingNotices.rotor
          order := t.lif.pendingNotices.order, halt := t.lif.pendingNotices.halt } } ∧
        t.stu = { s.stu with flags := { s.stu.flags with rotorTrip := t.stu.flags.rotorTrip } } ∧
        (∀ i, movingState (s.rotor i).state = false → t.rotor i = s.rotor i ∧ t.rsq.timer i = s.rsq.timer i) ∧
        (RoadInv s → t.rsq.spinUpQueue = [] ∧ t.rsq.syncQueue = [] ∧ t.rsq.syncUnit = none) ∧
        (t.stu.flags.rotorTrip = true ↔
          s.stu.flags.rotorTrip = true ∨ ∃ i, movingState (s.rotor i).state = true) ∧
        (t.orl.orders = s.orl.orders.map fun o =>
          if o.status = .waiting ∨ o.status = .active ∨ o.status = .suspended .event ∨
              o.status = .suspended .exhausted then
            { o with status := .cancelled .stop, ended := some (s.plantTimeAt now) }
          else o) ∧
        (OrderInv s → OrdersNoted s t))) ∧
  ∀ (dt steady : Nat) (s : State), s.supply = .up →
    let now := s.tickCount + BitVec.ofNat 64 dt
    (steady < 100 ∨ s.evt.stopLevel = .released → exec (.stopRelease dt steady) s = .next { s with tickCount := now }) ∧
    (100 ≤ steady → s.evt.stopLevel = .asserted →
      exec (.stopRelease dt steady) s =
        .next { s with
          tickCount := now
          evt := { s.evt with stopLevel := .released, mode := .idle }
          lif := { s.lif with pendingNotices :=
            { s.lif.pendingNotices with halt := s.lif.pendingNotices.halt || s.lif.mask.halt } } })

/-! ## The supervisory link (chapter 09) -/

/-- The receiver takes a byte: hunting, only an unbroken START begins a frame and starts the gap timer; in assembly, a
broken byte or a LEN above 240 abandons and counts the frame, the last byte that LEN asks for completes it, and every
other byte restarts the timer; a frame completed and not yet checked is checked first (log entry 7). The gap timer's
expiry abandons and counts the frame in assembly; a stopped timer does not expire (R160 to R162, R164; that a late expiry
leaves the tick count where it stands is the model's choice, log entries 2 and 3). -/
def Obligations.ReceiverTakesBytes : Prop :=
  (∀ (dt : Nat) (b : Byte) (broken : Bool) (s : State), s.supply = .up →
    let now := s.tickCount + BitVec.ofNat 64 dt
    let timer := some (now + 50000#64)
    let abandoned : State :=
      { s with
        tickCount := now
        lif := { s.lif with receiver := .hunting, gapExpiry := none, crcCount := min 65535 (s.lif.crcCount + 1) }
        stu := { s.stu with flags := { s.stu.flags with linkError := true } } }
    (s.lif.receiver = .hunting →
      exec (.linkByteReceived dt b broken) s =
        if b = 0xC3#8 ∧ broken = false then
          .next { s with tickCount := now, lif := { s.lif with receiver := .assembling [0xC3#8], gapExpiry := timer } }
        else .next { s with tickCount := now }) ∧
    (∀ bytes, s.lif.receiver = .assembling bytes →
      let frame := bytes ++ [b]
      (broken = true → exec (.linkByteReceived dt b broken) s = .next abandoned) ∧
      (broken = false → frame.length < 4 →
        exec (.linkByteReceived dt b broken) s =
          .next { s with
            tickCount := now, lif := { s.lif with receiver := .assembling frame, gapExpiry := timer } }) ∧
      (broken = false → ∀ len, 4 ≤ frame.length → (frame[3]?).map BitVec.toNat = some len →
        exec (.linkByteReceived dt b broken) s =
          if 240 < len then .next abandoned
          else if frame.length = 6 + len then
            .next { s with tickCount := now, lif := { s.lif with receiver := .complete frame, gapExpiry := none } }
          else
            .next { s with
              tickCount := now, lif := { s.lif with receiver := .assembling frame, gapExpiry := timer } })) ∧
    (∀ frame, s.lif.receiver = .complete frame →
      ∃ u, exec .frameCompleted { s with tickCount := now } = .next u ∧ u.lif.receiver = .hunting ∧
        exec (.linkByteReceived dt b broken) s = exec (.linkByteReceived 0 b broken) u)) ∧
  ∀ s : State, s.supply = .up →
    (s.lif.gapExpiry = none → exec .gapTimerExpiry s = .next s) ∧
    ∀ e, s.lif.gapExpiry = some e →
      exec .gapTimerExpiry s =
        .next { s with
          tickCount := if (e - s.tickCount).toNat < 2 ^ 63 then e else s.tickCount
          lif := { s.lif with receiver := .hunting, gapExpiry := none, gapCount := min 65535 (s.lif.gapCount + 1) }
          stu := { s.stu with flags := { s.stu.flags with linkError := true } } }

/-- FRAME_COMPLETED: a frame whose CRC differs is discarded and counted; a well-formed one that finds the slot occupied is
an overrun; one that finds it empty enters it, where an unknown kind is refused with BAD_KIND and a length other than
the one fixed for the kind with BAD_LENGTH, and every other request waits for its owner (R163 to R167). The kinds and
their lengths are those of the catalogue of chapter 09 and of R192. -/
def Obligations.FrameCompletedChecks : Prop :=
  (∀ (s : State) (frame : List Byte), s.supply = .up → s.lif.receiver = .complete frame →
    let lif := { s.lif with receiver := .hunting, gapExpiry := none }
    let covered := (frame.drop 1).take (frame.length - 3)
    let agrees := frame.drop (frame.length - 2) = crcBytes covered
    (¬ agrees →
      exec .frameCompleted s =
        .next { s with
          lif := { lif with crcCount := min 65535 (s.lif.crcCount + 1) }
          stu := { s.stu with flags := { s.stu.flags with linkError := true } } }) ∧
    (agrees → s.lif.slot ≠ none →
      exec .frameCompleted s =
        .next { s with
          lif := { lif with overrunCount := min 65535 (s.lif.overrunCount + 1), overrunMark := true }
          stu := { s.stu with flags := { s.stu.flags with overrun := true } } }) ∧
    ∀ (kind tag len : Byte) (payload check : List Byte),
      frame = 0xC3#8 :: kind :: tag :: len :: payload ++ check → check.length = 2 → agrees → s.lif.slot = none →
        let r : Request := ⟨kind, tag, payload, false⟩
        let u := { s with lif := { lif with slot := some r } }
        ((∀ k, requestKindByte k ≠ kind) → exec .frameCompleted s = .next (u.formReply r .badKind [])) ∧
        ∀ k, requestKindByte k = kind →
          (∀ n, fixedLength k = some n → payload.length ≠ n →
            exec .frameCompleted s = .next (u.formReply r .badLength [])) ∧
          ((∀ n, fixedLength k = some n → payload.length = n) → exec .frameCompleted s = .next u)) ∧
  ∀ k : RequestKind,
    (requestKindByte k, fixedLength k) =
      match k with
      | .identify => (0x01#8, some 0)
      | .status => (0x02#8, some 0)
      | .clearSummary => (0x03#8, some 0)
      | .setClock => (0x04#8, some 6)
      | .setMode => (0x05#8, some 1)
      | .setMeasurement => (0x06#8, some 3)
      | .setEvent => (0x07#8, some 13)
      | .setBankLimits => (0x08#8, some 10)
      | .setCurve => (0x09#8, none)
      | .readCurve => (0x0A#8, some 0)
      | .readEvents => (0x0B#8, some 0)
      | .setNotices => (0x0C#8, some 1)
      | .restart => (0x0D#8, some 0)
      | .snapshot => (0x0E#8, some 1)
      | .enrol => (0x20#8, some 16)
      | .release => (0x21#8, some 1)
      | .spinUp => (0x22#8, some 1)
      | .park => (0x23#8, some 1)
      | .resetFault => (0x24#8, some 1)
      | .setRotorLimits => (0x25#8, some 4)
      | .setRotorRole => (0x26#8, some 3)
      | .rotorStatus => (0x27#8, some 2)
      | .placeOrder => (0x40#8, none)
      | .cancelOrder => (0x41#8, some 2)
      | .resumeOrder => (0x42#8, some 2)
      | .orderStatus => (0x43#8, some 2)
      | .listOrders => (0x44#8, some 0)

/-- Every request frame laid out by R191 and closed by the CRC of R163, with a payload of at most 240 bytes, is read as
what it carries: its bytes, taken by a hunting receiver, leave a complete frame and nothing else changed but the tick
count, and FRAME_COMPLETED then puts its kind, tag and payload into the empty slot (R161, R163, R165, R191). -/
def Obligations.LinkFrameIsRead : Prop :=
  ∀ (dt : Nat) (kind tag : Byte) (payload : List Byte) (s : State),
    s.supply = .up → s.lif.receiver = .hunting → payload.length ≤ 240 →
      ∃ t, takeBytes dt (linkFrame kind tag payload) s = .next t ∧
        t = { s with
          tickCount := t.tickCount
          lif := { s.lif with receiver := .complete (linkFrame kind tag payload), gapExpiry := none } } ∧
        ∀ k, requestKindByte k = kind → (∀ n, fixedLength k = some n → payload.length = n) → s.lif.slot = none →
          exec .frameCompleted t =
            .next { t with lif := { t.lif with receiver := .hunting, slot := some ⟨kind, tag, payload, false⟩ } }

/-- A reply as it is formed: the request's kind plus 0x80 modulo 256, its tag, the result code, the status byte of the
state as it then stands, and the body; the slot stays occupied, the overrun mark is cleared, and nothing else changes
(R165, R167, R169, R191). The result codes have the values of R191. -/
def Obligations.ReplyFormed : Prop :=
  (∀ (s : State) (r : Request) (code : ResultCode) (body : List Byte),
    s.formReply r code body =
      { s with lif := { s.lif with
        slot := some { r with taken := true }
        waiting := some (linkFrame (r.kind + 0x80#8) r.tag (resultCodeByte code :: s.statusByte :: body))
        overrunMark := false } } ∧
    s.statusByte.toNat % 8 =
      (match s.evt.mode with | .idle => 0 | .guard => 1 | .armed => 2 | .event => 3 | .halted => 4) ∧
    (s.statusByte.getLsbD 3 = true ↔
      s.stu.flags.saturated = true ∨ s.stu.flags.unserved = true ∨ s.stu.flags.rotorTrip = true ∨
        s.stu.flags.counter = true ∨ s.stu.flags.linkError = true ∨ s.stu.flags.overrun = true) ∧
    s.statusByte.getLsbD 4 = s.lif.overrunMark ∧
    (s.statusByte.getLsbD 5 = true ↔ ∃ k, s.lif.pendingNotices.has k = true) ∧
    s.statusByte.getLsbD 6 = s.dse.pendingCurve.isSome ∧
    s.statusByte.getLsbD 7 = false) ∧
  ∀ code : ResultCode,
    resultCodeByte code =
      match code with
      | .ok => 0x00#8
      | .clamped => 0x01#8
      | .badKind => 0x10#8
      | .badLength => 0x11#8
      | .badValue => 0x12#8
      | .inconsistent => 0x13#8
      | .wrongState => 0x20#8
      | .occupied => 0x21#8
      | .noSuch => 0x22#8
      | .full => 0x23#8
      | .duplicate => 0x24#8
      | .tooLate => 0x25#8
      | .inEvent => 0x26#8
      | .halted => 0x27#8
      | .notIdle => 0x28#8
      | .noSnapshot => 0x29#8

/-- The transmitter: a waiting reply is begun when it is free; the end of a notice frees it, and ends no reply; with it free
and no reply waiting, the lowest pending kind of notice is begun, and no other; that kind leaves the pending set, its
payload is formed from its owner's state then, its tag is 0, and the RSQ's and the ORL's change sets are emptied with it;
the codes in the payloads are those of R190 (R37, R114, R144, R170 to R172, R187, R190, R198; that a command with nothing to act on changes nothing but the time is log
entry 4). -/
def Obligations.TransmitterSendsRepliesAndNotices : Prop :=
  (∀ (dt : Nat) (line : StopLevel) (s : State), s.supply = .up →
    let now := s.tickCount + BitVec.ofNat 64 dt
    (∀ frame, s.lif.sending = none → s.lif.waiting = some frame →
      exec .replySend s = .next { s with lif := { s.lif with sending := some ⟨frame, true⟩, waiting := none } }) ∧
    (s.lif.sending ≠ none ∨ s.lif.waiting = none → exec .replySend s = .next s) ∧
    (∀ frame, s.lif.sending = some ⟨frame, false⟩ →
      exec (.noticeFrameEnd dt) s = .next { s with tickCount := now, lif := { s.lif with sending := none } } ∧
        exec (.requestSlotRelease dt line) s = .next { s with tickCount := now }) ∧
    ∀ frame, s.lif.sending = some ⟨frame, true⟩ → exec (.noticeFrameEnd dt) s = .next { s with tickCount := now }) ∧
  (∀ s : State, s.supply = .up →
    let p := s.lif.pendingNotices
    (s.lif.sending = none → s.lif.waiting = none →
      (p.start = true →
        exec .start s =
          .next { s with lif := { s.lif with
            pendingNotices := { p with start := false }
            sending := some ⟨linkFrame 0x60#8 0#8
              (byteOf (resetCauseCode s.stu.resetCause) :: beBytes 6 s.plantTime), false⟩ } }) ∧
      (p.start = false → p.event = true → ∀ older newest, s.evt.history = older ++ [newest] →
        exec .eventChange s =
          .next { s with lif := { s.lif with
            pendingNotices := { p with event := false }
            sending := some ⟨linkFrame 0x61#8 0#8 (byteOf (modeCode s.evt.mode) :: newest.bytes), false⟩ } }) ∧
      (p.start = false → p.event = false → p.rotor = true →
        exec .rotorChange s =
          .next { s with
            rsq := { s.rsq with changed := [] }
            lif := { s.lif with
              pendingNotices := { p with rotor := false }
              sending := some ⟨linkFrame 0x62#8 0#8
                (byteOf s.rsq.changed.length :: s.rsq.changed.flatMap fun i =>
                  [byteOf i.val, byteOf (rotorStateCode (s.rotor i).state), byteOf (rotorCauseCode (s.rotor i).cause)]),
                false⟩ } }) ∧
      (p.start = false → p.event = false → p.rotor = false → p.order = true →
        let told := s.orl.orders.filter fun o => s.orl.changed.contains o.id
        exec .orderChange s =
          .next { s with
            orl := { s.orl with changed := [] }
            lif := { s.lif with
              pendingNotices := { p with order := false }
              sending := some ⟨linkFrame 0x63#8 0#8
                (byteOf told.length :: told.flatMap fun o =>
                  beBytes 2 o.id ++ [byteOf (orderStateCode o.status), byteOf (orderCauseCode o.status)]),
                false⟩ } }) ∧
      (p.start = false → p.event = false → p.rotor = false → p.order = false → p.measurement = true →
        exec .measurementChange s =
          .next { s with lif := { s.lif with
            pendingNotices := { p with measurement := false }
            sending := some ⟨linkFrame 0x64#8 0#8 [byteOf (measStateCode s.fmu.state)], false⟩ } }) ∧
      (p.start = false → p.event = false → p.rotor = false → p.order = false → p.measurement = false → p.halt = true →
        exec .haltChange s =
          .next { s with lif := { s.lif with
            pendingNotices := { p with halt := false }
            sending := some ⟨linkFrame 0x65#8 0#8 [byteOf (stopLevelCode s.evt.stopLevel)], false⟩ } })) ∧
    (s.lif.sending ≠ none ∨ s.lif.waiting ≠ none →
      exec .start s = .next s ∧ exec .eventChange s = .next s ∧ exec .rotorChange s = .next s ∧
        exec .orderChange s = .next s ∧ exec .measurementChange s = .next s ∧ exec .haltChange s = .next s) ∧
    ((p.start = false → exec .start s = .next s) ∧
      (p.start = true ∨ p.event = false → exec .eventChange s = .next s) ∧
      (p.start = true ∨ p.event = true ∨ p.rotor = false → exec .rotorChange s = .next s) ∧
      (p.start = true ∨ p.event = true ∨ p.rotor = true ∨ p.order = false → exec .orderChange s = .next s) ∧
      (p.start = true ∨ p.event = true ∨ p.rotor = true ∨ p.order = true ∨ p.measurement = false →
        exec .measurementChange s = .next s) ∧
      (p.start = true ∨ p.event = true ∨ p.rotor = true ∨ p.order = true ∨ p.measurement = true ∨ p.halt = false →
        exec .haltChange s = .next s))) ∧
  (∀ c, resetCauseCode c = match c with | .powerOn => 1 | .supplyDip => 2 | .restart => 3) ∧
  (∀ m, modeCode m = match m with | .idle => 0 | .guard => 1 | .armed => 2 | .event => 3 | .halted => 4) ∧
  (∀ m, measStateCode m = match m with | .lost => 0 | .valid => 1 | .holding => 2) ∧
  (∀ l, stopLevelCode l = match l with | .released => 0 | .asserted => 1) ∧
  (∀ st, rotorStateCode st =
    match st with
    | .offline => 0 | .probing => 1 | .parked => 2 | .lifting => 3 | .spinupWait => 4 | .accelerating => 5
    | .syncWait => 6 | .syncing => 7 | .online => 8 | .decelerating => 9 | .tripped => 10) ∧
  (∀ c, rotorCauseCode c =
    match c with
    | none => 0 | some .host => 1 | some .stop => 2 | some .fault => 3 | some .lost => 4 | some .moduleRestart => 5
    | some .liftTimeout => 6 | some .spinupTimeout => 7 | some .syncFail => 8 | some .noModule => 9) ∧
  ∀ o, (orderStateCode o, orderCauseCode o) =
    match o with
    | .waiting => (0, 0) | .active => (1, 0) | .suspended .event => (2, 1) | .suspended .exhausted => (2, 2)
    | .done .quota => (3, 3) | .done .condition => (3, 4) | .expired => (4, 5) | .cancelled .host => (5, 6)
    | .cancelled .stop => (5, 7)

/-! ## Requests to the STU, the LIF, the EVT, the FMU and the DSE (chapters 02, 03, 09, 10) -/

/-- IDENTIFY, STATUS, READ CURVE, READ EVENTS and LIST ORDERS change nothing but that the reply is formed, with result OK,
in every mode, and their bodies carry what the rules list at the offsets of R192 (R30, R56, R113, R179, R180, R192,
R195, R197). The revision byte of IDENTIFY is whatever the part has there (log entry 5). -/
def Obligations.ReadRequestsReport : Prop :=
  (∀ (s : State) (tag : Byte) (p : List Byte), s.asks .identify tag p →
    exec .identify s = answered s .identify tag p .ok
      [0x0A#8, 0x71#8, 0x0B#8, 0x16#8, Config.revision, 16#8, 8#8, 12#8, 4#8, 4#8]) ∧
  (∀ (s : State) (tag : Byte) (p : List Byte), s.asks .status tag p →
    ∃ body, exec .status s = answered s .status tag p .ok body ∧ body.length = 72 ∧
      headerLaidOut s (body.take 30) ∧ (body.drop 30).take 6 = beBytes 6 s.plantTime ∧
      (body.drop 36).take 4 = beIntBytes 4 s.fmu.reported.f ∧ (body.drop 40).take 2 = beIntBytes 2 s.fmu.reported.df ∧
      (body.drop 42).take 2 = beIntBytes 2 s.fmu.reported.rocof ∧
      (∃ flags, body[44]? = some flags ∧ flags.getLsbD 0 = s.stu.flags.saturated ∧
        flags.getLsbD 1 = s.stu.flags.unserved ∧ flags.getLsbD 2 = s.stu.flags.rotorTrip ∧
        flags.getLsbD 3 = s.stu.flags.counter ∧ flags.getLsbD 4 = s.stu.flags.linkError ∧
        flags.getLsbD 5 = s.stu.flags.overrun ∧ flags.toNat < 64) ∧
      (body.drop 45).take 6 = beBytes 2 s.lif.gapCount ++ beBytes 2 s.lif.crcCount ++ beBytes 2 s.lif.overrunCount ∧
      body[51]? = some (byteOf (resetCauseCode s.stu.resetCause)) ∧
      body[52]? = some (byteOf s.dse.pendingCurve.isSome.toNat) ∧
      (body.drop 53).take 2 = beBytes 2 (match s.dse.latest with | none => 0 | some d => d.fUnserved) ∧
      (∀ st : RotorState,
        body[55 + rotorStateCode st]? = some (byteOf (allSlots.filter fun i => (s.rotor i).state == st).length)) ∧
      (((body.drop 55).take 11).map BitVec.toNat).sum = 16 ∧
      ∀ code < 6,
        body[66 + code]? = some (byteOf (s.orl.orders.filter fun o => orderStateCode o.status == code).length)) ∧
  (∀ (s : State) (tag : Byte) (p : List Byte), s.asks .readCurve tag p →
    let bytes := fun c : List Breakpoint => byteOf c.length :: c.flatMap fun b => beIntBytes 4 b.df ++ beIntBytes 2 b.p
    exec .readCurve s = answered s .readCurve tag p .ok
      (bytes s.dse.curve ++
        match s.dse.pendingCurve with
        | none => [0#8, 0#8]
        | some c => 1#8 :: bytes c)) ∧
  (∀ (s : State) (tag : Byte) (p : List Byte), s.asks .readEvents tag p →
    exec .readEvents s = answered s .readEvents tag p .ok
      (byteOf s.evt.history.length :: s.evt.history.reverse.flatMap fun r =>
        beBytes 2 r.number ++
          [byteOf (r.cause.underHit.toNat + 2 * r.cause.overHit.toNat + 4 * r.cause.rocofHit.toNat),
           byteOf (match r.entryMode with | .idle => 0 | .guard => 1 | .armed => 2)] ++
          beBytes 6 r.startTime ++ beIntBytes 2 r.dfAtTrigger ++ beIntBytes 2 r.rocofAtTrigger ++
          beIntBytes 2 r.nadir ++ beIntBytes 2 r.zenith ++ [byteOf r.retriggers] ++ beBytes 4 r.discharged.kJ ++
          beBytes 4 r.absorbed.kJ ++ beBytes 2 r.peakUnserved ++
          (match r.ended with
           | none => List.replicate 7 0#8
           | some (time, cause) =>
             beBytes 6 time ++ [match cause with | .recovered => 1#8 | .lost => 2#8 | .stop => 3#8]))) ∧
  ∀ (s : State) (tag : Byte) (p : List Byte), s.asks .listOrders tag p →
    exec .listOrders s = answered s .listOrders tag p .ok
      (byteOf s.orl.orders.length :: s.orl.orders.flatMap fun o =>
        beBytes 2 o.id ++
          [match o.status with
           | .waiting => 0#8
           | .active => 1#8
           | .suspended _ => 2#8
           | .done _ => 3#8
           | .expired => 4#8
           | .cancelled _ => 5#8])

/-- CLEAR SUMMARY returns the flags and the counters as they stood and clears them, before its reply is formed; SET CLOCK
sets the offset so that plant time reads the value sent, and touches no tick; SET NOTICES replaces the mask, and the
kinds it disables leave the pending set with their change sets; RESTART is taken in IDLE with every enrolled rotor
PARKED, and sets restart pending (R173, R174, R178, R185). -/
def Obligations.StatusUnitAndLinkRequests : Prop :=
  (∀ (s : State) (tag : Byte) (p : List Byte), s.asks .clearSummary tag p →
    ∃ flags : Byte,
      exec .clearSummary s =
        answered
          { s with
            stu := { s.stu with flags := ⟨false, false, false, false, false, false⟩ }
            lif := { s.lif with gapCount := 0, crcCount := 0, overrunCount := 0 } }
          .clearSummary tag p .ok
          (flags :: (beBytes 2 s.lif.gapCount ++ beBytes 2 s.lif.crcCount ++ beBytes 2 s.lif.overrunCount)) ∧
      flags.getLsbD 0 = s.stu.flags.saturated ∧ flags.getLsbD 1 = s.stu.flags.unserved ∧
      flags.getLsbD 2 = s.stu.flags.rotorTrip ∧ flags.getLsbD 3 = s.stu.flags.counter ∧
      flags.getLsbD 4 = s.stu.flags.linkError ∧ flags.getLsbD 5 = s.stu.flags.overrun ∧ flags.toNat < 64) ∧
  (∀ (s : State) (tag : Byte) (p : List Byte), s.asks .setClock tag p →
    ∃ u, exec .setClock s = answered u .setClock tag p .ok [] ∧
      u = { s with stu := { s.stu with offset := u.stu.offset } } ∧ u.plantTime = field p 0 6) ∧
  (∀ (s : State) (tag : Byte) (mask : Byte), s.asks .setNotices tag [mask] →
    (64 ≤ mask.toNat → exec .setNotices s = answered s .setNotices tag [mask] .badValue []) ∧
    (mask.toNat < 64 →
      ∃ u, exec .setNotices s = answered u .setNotices tag [mask] .ok [] ∧
        u = { s with
          lif := { s.lif with mask := u.lif.mask, pendingNotices := u.lif.pendingNotices }
          rsq := { s.rsq with changed := if mask.getLsbD 2 then s.rsq.changed else [] }
          orl := { s.orl with changed := if mask.getLsbD 3 then s.orl.changed else [] } } ∧
        (u.lif.mask.start = mask.getLsbD 0 ∧ u.lif.mask.event = mask.getLsbD 1 ∧ u.lif.mask.rotor = mask.getLsbD 2 ∧
          u.lif.mask.order = mask.getLsbD 3 ∧ u.lif.mask.measurement = mask.getLsbD 4 ∧
          u.lif.mask.halt = mask.getLsbD 5) ∧
        ∀ k, u.lif.pendingNotices.has k = (s.lif.pendingNotices.has k && u.lif.mask.has k))) ∧
  ∀ (s : State) (tag : Byte) (p : List Byte), s.asks .restart tag p →
    (s.evt.mode ≠ .idle → exec .restart s = answered s .restart tag p .notIdle []) ∧
    (s.evt.mode = .idle → (∃ i, (s.rotor i).state ≠ .offline ∧ (s.rotor i).state ≠ .parked) →
      exec .restart s = answered s .restart tag p .wrongState []) ∧
    (s.evt.mode = .idle → (∀ i, (s.rotor i).state = .offline ∨ (s.rotor i).state = .parked) →
      exec .restart s = answered { s with stu := { s.stu with restartPending := true } } .restart tag p .ok [])

/-- SET MODE: IDLE, GUARD or ARMED becomes the mode at once in any of these three, and the saved mode in EVENT; in HALTED
it is refused with HALTED; a field naming anything else is refused with BAD_VALUE in every mode (R35). -/
def Obligations.SetMode : Prop :=
  ∀ (s : State) (tag : Byte) (p : List Byte) (wanted : HostMode), s.asks .setMode tag p →
    (2 < field p 0 1 → exec .setMode s = answered s .setMode tag p .badValue []) ∧
    (field p 0 1 = (match wanted with | .idle => 0 | .guard => 1 | .armed => 2) →
      (s.evt.mode = .idle ∨ s.evt.mode = .guard ∨ s.evt.mode = .armed →
        exec .setMode s =
          answered
            { s with evt := { s.evt with
              mode := match wanted with | .idle => .idle | .guard => .guard | .armed => .armed } }
            .setMode tag p .ok []) ∧
      (s.evt.mode = .event →
        exec .setMode s = answered { s with evt := { s.evt with savedMode := some wanted } } .setMode tag p .ok []) ∧
      (s.evt.mode = .halted → exec .setMode s = answered s .setMode tag p .halted []))

/-- SET MEASUREMENT: refused with NOT_IDLE outside IDLE, with BAD_VALUE for a nominal other than 50 and 60; accepted, it
stores the nominal and the clamped N and W, sets the LOST state afresh, empties the period list and the last edge time,
restarts the timer, keeps the previous sample time, and makes the EVT's memory unknown; MEASUREMENT CHANGE is added
unless the state was LOST (R12, R15 to R17, R41, R50). -/
def Obligations.SetMeasurement : Prop :=
  ∀ (s : State) (tag : Byte) (p : List Byte) (nom : Nominal), s.asks .setMeasurement tag p →
    (s.evt.mode ≠ .idle → exec .setMeasurement s = answered s .setMeasurement tag p .notIdle []) ∧
    (s.evt.mode = .idle → field p 0 1 ≠ 50 → field p 0 1 ≠ 60 →
      exec .setMeasurement s = answered s .setMeasurement tag p .badValue []) ∧
    (s.evt.mode = .idle → field p 0 1 = (match nom with | .hz50 => 50 | .hz60 => 60) →
      exec .setMeasurement s =
        answered
          { s with
            fmu :=
              { nominal := nom
                n := max 1 (min 8 (field p 1 1))
                w := max 1 (min 16 (field p 2 1))
                lastEdge := none
                periods := []
                expiry := s.tickCount + BitVec.ofNat 64 (match nom with | .hz50 => 400000 | .hz60 => 333334)
                prevSample := s.fmu.prevSample
                state := .lost
                regain := 0
                invalid := 0
                held := none
                history := []
                reported := ⟨0, 0, 0⟩ }
            evt := { s.evt with memory := none }
            lif := { s.lif with pendingNotices :=
              { s.lif.pendingNotices with
                measurement := s.lif.pendingNotices.measurement ||
                  (s.lif.mask.measurement && s.fmu.state != .lost) } } }
          .setMeasurement tag p
          (if (1 ≤ field p 1 1 ∧ field p 1 1 ≤ 8) ∧ 1 ≤ field p 2 1 ∧ field p 2 1 ≤ 16 then .ok else .clamped) [])

/-- SET EVENT stores its seven values, clamped, in every mode, and is refused with BAD_VALUE for an unknown edge mode; SET
BANK LIMITS stores its five, clamped, and is refused with INCONSISTENT for a floor at or above the ceiling. A refused
request changes none of them; a running recovery timer is kept (R21, R31, R55). -/
def Obligations.SetEventAndBankLimits : Prop :=
  (∀ (s : State) (tag : Byte) (p : List Byte) (edge : EdgeMode), s.asks .setEvent tag p →
    (field p 4 1 = 0 ∨ 3 < field p 4 1 → exec .setEvent s = answered s .setEvent tag p .badValue []) ∧
    (field p 4 1 = (match edge with | .underOnly => 1 | .overOnly => 2 | .both => 3) →
      exec .setEvent s =
        answered
          { s with
            evt := { s.evt with
              uThreshold := max 20 (min 3000 (field p 0 2))
              oThreshold := max 20 (min 3000 (field p 2 2))
              edgeMode := edge
              rocofThreshold := min 5000 (field p 5 2)
              band := max 10 (min 1000 (field p 7 2))
              hold := min 60000 (field p 9 2) }
            dse := { s.dse with kIn := min 4000 (field p 11 2) } }
          .setEvent tag p
          (if (20 ≤ field p 0 2 ∧ field p 0 2 ≤ 3000) ∧ (20 ≤ field p 2 2 ∧ field p 2 2 ≤ 3000) ∧ field p 5 2 ≤ 5000 ∧
              (10 ≤ field p 7 2 ∧ field p 7 2 ≤ 1000) ∧ field p 9 2 ≤ 60000 ∧ field p 11 2 ≤ 4000 then .ok
            else .clamped) [])) ∧
  ∀ (s : State) (tag : Byte) (p : List Byte), s.asks .setBankLimits tag p →
    (min 1000 (field p 6 2) ≤ min 1000 (field p 4 2) →
      exec .setBankLimits s = answered s .setBankLimits tag p .inconsistent []) ∧
    (min 1000 (field p 4 2) < min 1000 (field p 6 2) →
      exec .setBankLimits s =
        answered
          { s with dse := { s.dse with
            pdBank := min 8000 (field p 0 2)
            paBank := min 8000 (field p 2 2)
            floor := min 1000 (field p 4 2)
            ceiling := min 1000 (field p 6 2)
            spinUpLimit := max 60 (min 3600 (field p 8 2)) } }
          .setBankLimits tag p
          (if field p 0 2 ≤ 8000 ∧ field p 2 2 ≤ 8000 ∧ field p 4 2 ≤ 1000 ∧ field p 6 2 ≤ 1000 ∧
              60 ≤ field p 8 2 ∧ field p 8 2 ≤ 3600 then .ok else .clamped) [])

/-- SET CURVE: refused with BAD_LENGTH for a length that its count does not give or a count outside 2 to 12, with
INCONSISTENT where the clamped df values do not strictly ascend; accepted, the clamped curve is the active curve at once
outside EVENT, and in EVENT the pending curve, with the active curve kept (R26 to R28, R193). -/
def Obligations.SetCurve : Prop :=
  ∀ (s : State) (tag : Byte) (p : List Byte), s.asks .setCurve tag p →
    let n := field p 0 1
    let sent : List Breakpoint :=
      (List.range n).map fun i => ⟨signedField p (1 + 6 * i) 4, signedField p (5 + 6 * i) 2⟩
    let curve : List Breakpoint :=
      sent.map fun b => ⟨max (-5000) (min 5000 b.df), max (-8000) (min 8000 b.p)⟩
    let ascends := (curve.map fun b => b.df).Pairwise (· < ·)
    (p.length ≠ 1 + 6 * n ∨ n < 2 ∨ 12 < n → exec .setCurve s = answered s .setCurve tag p .badLength []) ∧
    (p.length = 1 + 6 * n → 2 ≤ n → n ≤ 12 →
      (¬ ascends → exec .setCurve s = answered s .setCurve tag p .inconsistent []) ∧
      (ascends →
        exec .setCurve s =
          answered
            { s with dse :=
              if s.evt.mode = .event then { s.dse with pendingCurve := some curve } else { s.dse with curve := curve } }
            .setCurve tag p (if curve = sent then .ok else .clamped) []))

/-- SNAPSHOT: part 0 captures the bank header and the sixteen rotor records as they stand, in their layouts, replaces any
capture held, and reports the header and slots 0 to 7; part 1 reports slots 8 to 15 of the capture held, whatever the
records are by then, and releases it, and is refused with NO_SNAPSHOT without one; every other part is refused with
BAD_VALUE (R181 to R183, R192, R195, R196; which row takes which part is log entry 10). The fault codes in the records
are those of R190. -/
def Obligations.SnapshotParts : Prop :=
  (∀ c, faultCodeCode c =
    match c with
    | .none => 0 | .overspeed => 1 | .bearing => 2 | .thermal => 3 | .converter => 4 | .internal => 5) ∧
  (∀ (s : State) (tag : Byte) (p : List Byte), s.asks .snapshot tag p →
    (field p 0 1 = 0 →
      ∃ (header : List Byte) (records : Vector (List Byte) 16),
        headerLaidOut s header ∧ (∀ i : Slot, snapshotLaidOut (s.rotor i) records[i]) ∧
          exec .snapshotPart0 s =
            answered { s with stu := { s.stu with capture := some ⟨header, records⟩ } } .snapshot tag p .ok
              (header ++ records[0] ++ records[1] ++ records[2] ++ records[3] ++ records[4] ++ records[5] ++ records[6] ++
                records[7])) ∧
    (1 < field p 0 1 → exec .snapshotPart0 s = answered s .snapshot tag p .badValue []) ∧
    (field p 0 1 = 1 →
      (s.stu.capture = none → exec .snapshotPart1 s = answered s .snapshot tag p .noSnapshot []) ∧
      ∀ capture, s.stu.capture = some capture →
        exec .snapshotPart1 s =
          answered { s with stu := { s.stu with capture := none } } .snapshot tag p .ok
            (capture.records[8] ++ capture.records[9] ++ capture.records[10] ++ capture.records[11] ++
              capture.records[12] ++ capture.records[13] ++ capture.records[14] ++ capture.records[15])))

/-! ## Requests to the RSQ and the RTB (chapters 04 and 07) -/

/-- ENROL: a slot that does not exist is refused with BAD_VALUE, HALTED with HALTED, a slot not OFFLINE with OCCUPIED, an
unknown group or role with BAD_VALUE, speeds that cannot stand together with INCONSISTENT; accepted, the slot is PROBING
with cause HOST, its record filled with the clamped fields and all else at its start, its probe pending, its change
noted (R59, R121, R125, R144, R155). -/
def Obligations.EnrolFillsRecord : Prop :=
  ∀ (s : State) (tag : Byte) (p : List Byte) (i : Slot), s.asks .enrol tag p →
    (namesNoSlot p → exec .enrol s = answered s .enrol tag p .badValue []) ∧
    (namesSlot p i →
      (s.evt.mode = .halted → exec .enrol s = answered s .enrol tag p .halted []) ∧
      (s.evt.mode ≠ .halted → (s.rotor i).state ≠ .offline →
        exec .enrol s = answered s .enrol tag p .occupied []) ∧
      (s.evt.mode ≠ .halted → (s.rotor i).state = .offline →
        let smin := max 1000 (min 60000 (field p 9 2))
        let sbase := max 1000 (min 60000 (field p 11 2))
        let smax := max 1000 (min 60000 (field p 13 2))
        (3 < field p 1 1 ∨ 15 < field p 2 1 → exec .enrol s = answered s .enrol tag p .badValue []) ∧
        ∀ (group : Fin 4) (roles : Byte), field p 1 1 = group.val → field p 2 1 = roles.toNat → roles.toNat < 16 →
          (¬ (smin < sbase ∧ sbase ≤ smax ∧ smin + 1000 ≤ smax) →
            exec .enrol s = answered s .enrol tag p .inconsistent []) ∧
          (smin < sbase → sbase ≤ smax → smin + 1000 ≤ smax →
            ∃ u, exec .enrol s = answered u .enrol tag p
                (if (10 ≤ field p 3 2 ∧ field p 3 2 ≤ 500) ∧ (1000 ≤ field p 5 4 ∧ field p 5 4 ≤ 400000) ∧
                    smin = field p 9 2 ∧ sbase = field p 11 2 ∧ smax = field p 13 2 ∧
                    (40 ≤ field p 15 1 ∧ field p 15 1 ≤ 120) then .ok else .clamped) [] ∧
              u = { s with
                rotors := u.rotors
                rsq := { s.rsq with changed := u.rsq.changed }
                rbi := { s.rbi with pendingProbes := insertAscending i s.rbi.pendingProbes }
                lif := u.lif } ∧
              rotorNoted s u i ∧ (∀ j, j ≠ i → u.rotor j = s.rotor j) ∧
              u.rotor i =
                { RotorRecord.empty with
                  state := .probing
                  cause := some .host
                  group := group
                  roles := ⟨roles.getLsbD 0, roles.getLsbD 1, roles.getLsbD 2, roles.getLsbD 3⟩
                  limits := ⟨max 10 (min 500 (field p 3 2)), max 40 (min 120 (field p 15 1))⟩
                  eCap := max 1000 (min 400000 (field p 5 4))
                  smin := smin
                  sbase := sbase
                  smax := smax })))

/-- RELEASE: accepted for a PARKED slot and for a TRIPPED slot with cause LOST, in every mode; the record is emptied, with
no cause and no probe result, and a poll in flight to the slot is abandoned; in every other state it is refused with
WRONG_STATE (R142, R144, R158). -/
def Obligations.ReleaseEmptiesSlot : Prop :=
  ∀ (s : State) (tag : Byte) (p : List Byte) (i : Slot), s.asks .release tag p →
    let accepted := (s.rotor i).state = .parked ∨ ((s.rotor i).state = .tripped ∧ (s.rotor i).cause = some .lost)
    (namesNoSlot p → exec .release s = answered s .release tag p .badValue []) ∧
    (namesSlot p i → ¬ accepted → exec .release s = answered s .release tag p .wrongState []) ∧
    (namesSlot p i → accepted →
      ∃ u, exec .release s = answered u .release tag p .ok [] ∧
        u = { s with
          rotors := u.rotors
          rsq := { s.rsq with changed := u.rsq.changed }
          rbi := { s.rbi with inFlight := u.rbi.inFlight }
          lif := u.lif } ∧
        rotorNoted s u i ∧ (∀ j, j ≠ i → u.rotor j = s.rotor j) ∧ u.rotor i = RotorRecord.empty ∧
        (s.rbi.inFlight = none → u.rbi.inFlight = none) ∧
        ∀ poll, s.rbi.inFlight = some poll →
          u.rbi.inFlight = some (if poll.slot = i then { poll with abandoned := true } else poll))

/-- SPIN UP: refused with BAD_VALUE, HALTED or WRONG_STATE in this order; accepted, a PARKED rotor is LIFTING with cause
HOST and its lift timer runs. RESET FAULT: a TRIPPED rotor whose telemetry shows it at rest, fault-free and with no poll
late is PARKED with cause HOST, its latched code NONE and its attempts 0; every other is refused with WRONG_STATE (R124,
R128, R141, R144). -/
def Obligations.SpinUpAndResetFault : Prop :=
  (∀ (s : State) (tag : Byte) (p : List Byte) (i : Slot), s.asks .spinUp tag p →
    (namesNoSlot p → exec .spinUp s = answered s .spinUp tag p .badValue []) ∧
    (namesSlot p i → s.evt.mode = .halted → exec .spinUp s = answered s .spinUp tag p .halted []) ∧
    (namesSlot p i → s.evt.mode ≠ .halted → (s.rotor i).state ≠ .parked →
      exec .spinUp s = answered s .spinUp tag p .wrongState []) ∧
    (namesSlot p i → s.evt.mode ≠ .halted → (s.rotor i).state = .parked →
      ∃ u, exec .spinUp s = answered u .spinUp tag p .ok [] ∧
        u = { s with
          rotors := u.rotors
          rsq := { s.rsq with timers := u.rsq.timers, changed := u.rsq.changed }
          lif := u.lif } ∧
        rotorNoted s u i ∧ (∀ j, j ≠ i → u.rotor j = s.rotor j ∧ u.rsq.timer j = s.rsq.timer j) ∧
        u.rotor i = { s.rotor i with state := .lifting, cause := some .host } ∧
        u.rsq.timer i = some (s.tickCount + 50000000#64))) ∧
  ∀ (s : State) (tag : Byte) (p : List Byte) (i : Slot), s.asks .resetFault tag p →
    let accepted := (s.rotor i).state = .tripped ∧ (s.rotor i).flags.atRest = true ∧ (s.rotor i).faultCode = .none ∧
      (s.rotor i).lateCount = 0
    (namesNoSlot p → exec .resetFault s = answered s .resetFault tag p .badValue []) ∧
    (namesSlot p i → ¬ accepted → exec .resetFault s = answered s .resetFault tag p .wrongState []) ∧
    (namesSlot p i → accepted → RoadInv s →
      ∃ u, exec .resetFault s = answered u .resetFault tag p .ok [] ∧
        u = { s with rotors := u.rotors, rsq := { s.rsq with changed := u.rsq.changed }, lif := u.lif } ∧
        rotorNoted s u i ∧ (∀ j, j ≠ i → u.rotor j = s.rotor j) ∧
        u.rotor i = { s.rotor i with state := .parked, cause := some .host, latched := .none, attempts := 0 })

/-- PARK: refused with BAD_VALUE, IN_EVENT and WRONG_STATE as R136 says; accepted, it takes the rotor off its road, zeroes
what an ONLINE rotor had, and moves it to DECELERATING with cause HOST, or, from LIFTING with at_rest in its latest
telemetry, straight to PARKED; what it frees is handed on, within the request, to the head of its queue, with its timer
started, and no other rotor is touched (R71, R124, R130, R133, R136, R137). -/
def Obligations.ParkTakesOffTheRoad : Prop :=
  ∀ (s : State) (tag : Byte) (p : List Byte) (i : Slot), s.asks .park tag p →
    let st := (s.rotor i).state
    (namesNoSlot p → exec .park s = answered s .park tag p .badValue []) ∧
    (namesSlot p i →
      (st = .offline ∨ st = .probing ∨ st = .parked ∨ st = .decelerating ∨ st = .tripped →
        exec .park s = answered s .park tag p .wrongState []) ∧
      (st = .online → s.evt.mode = .event → exec .park s = answered s .park tag p .inEvent []) ∧
      (RoadInv s →
        st = .lifting ∨ st = .spinupWait ∨ st = .accelerating ∨ st = .syncWait ∨ st = .syncing ∨
            (st = .online ∧ s.evt.mode ≠ .event) →
        ∃ u, exec .park s = answered u .park tag p .ok [] ∧ MoveFrame s u i false ∧ u.rbi = s.rbi ∧
          u.tickCount = s.tickCount ∧ offRoad u i ∧
          u.rotor i =
            (if st = .lifting ∧ (s.rotor i).flags.atRest = true then
              { s.rotor i with state := .parked, cause := some .host, attempts := 0 }
            else if st = .online then
              { s.rotor i with
                state := .decelerating, cause := some .host, shares := ⟨0, 0, 0⟩, ld := 0, la := 0 }
            else { s.rotor i with state := .decelerating, cause := some .host })))

/-- SET ROTOR LIMITS stages the clamped pair, the rating rounded down to an even number, and leaves the applied pair; SET
ROTOR ROLE replaces group and roles together; both in every state but OFFLINE and in every mode, with nothing else
changed (R61, R72). -/
def Obligations.SetRotorLimitsAndRole : Prop :=
  (∀ (s : State) (tag : Byte) (p : List Byte) (i : Slot), s.asks .setRotorLimits tag p →
    let rating := max 10 (min 500 (field p 1 2)) / 2 * 2
    let derate := max 40 (min 120 (field p 3 1))
    (namesNoSlot p → exec .setRotorLimits s = answered s .setRotorLimits tag p .badValue []) ∧
    (namesSlot p i → (s.rotor i).state = .offline →
      exec .setRotorLimits s = answered s .setRotorLimits tag p .wrongState []) ∧
    (namesSlot p i → (s.rotor i).state ≠ .offline →
      exec .setRotorLimits s =
        answered
          { s with rotors := setSlot s.rotors i { s.rotor i with staged := some ⟨rating, derate⟩ } }
          .setRotorLimits tag p (if rating = field p 1 2 ∧ derate = field p 3 1 then .ok else .clamped) [])) ∧
  ∀ (s : State) (tag : Byte) (p : List Byte) (i : Slot), s.asks .setRotorRole tag p →
    (namesNoSlot p → exec .setRotorRole s = answered s .setRotorRole tag p .badValue []) ∧
    (namesSlot p i → (s.rotor i).state = .offline →
      exec .setRotorRole s = answered s .setRotorRole tag p .wrongState []) ∧
    (namesSlot p i → (s.rotor i).state ≠ .offline → 3 < field p 1 1 ∨ 15 < field p 2 1 →
      exec .setRotorRole s = answered s .setRotorRole tag p .badValue []) ∧
    ∀ (group : Fin 4) (roles : Byte), namesSlot p i → (s.rotor i).state ≠ .offline →
      field p 1 1 = group.val → field p 2 1 = roles.toNat → roles.toNat < 16 →
        exec .setRotorRole s =
          answered
            { s with
              rotors := setSlot s.rotors i
                { s.rotor i with
                  group := group
                  roles := ⟨roles.getLsbD 0, roles.getLsbD 1, roles.getLsbD 2, roles.getLsbD 3⟩ } }
            .setRotorRole tag p .ok []

/-- ROTOR STATUS reports the record as it stands, in the layout of R192, and only then lets its options act: acknowledge
clears the review flag, clear counters sets both counters and both residues to 0; of an OFFLINE slot they change nothing
(R58, R76, R192, R196). -/
def Obligations.RotorStatusReportsThenClears : Prop :=
  ∀ (s : State) (tag : Byte) (p : List Byte) (i : Slot), s.asks .rotorStatus tag p →
    (namesNoSlot p → exec .rotorStatus s = answered s .rotorStatus tag p .badValue []) ∧
    (namesSlot p i → 3 < field p 1 1 → exec .rotorStatus s = answered s .rotorStatus tag p .badValue []) ∧
    ∀ options : Byte, namesSlot p i → field p 1 1 = options.toNat → options.toNat < 4 →
      let r := s.rotor i
      ∃ body replied, answered s .rotorStatus tag p .ok body = .next replied ∧
        exec .rotorStatus s =
          (if r.state = .offline then .next replied
          else .next
            { replied with
              rotors := setSlot s.rotors i
                { r with
                  review := if options.getLsbD 0 then false else r.review
                  discharged := if options.getLsbD 1 then ⟨0, 0⟩ else r.discharged
                  absorbed := if options.getLsbD 1 then ⟨0, 0⟩ else r.absorbed } }) ∧
        body.length = 50 ∧ snapshotLaidOut r (body.take 24) ∧ (body.drop 24).take 2 = beBytes 2 r.limits.rating ∧
        (body.drop 26).take 4 = beBytes 4 r.eCap ∧ (body.drop 30).take 2 = beBytes 2 r.smin ∧
        (body.drop 32).take 2 = beBytes 2 r.sbase ∧ (body.drop 34).take 2 = beBytes 2 r.smax ∧
        (body.drop 36).take 1 = beBytes 1 r.limits.derate ∧
        (body.drop 37).take 3 =
          (match r.staged with
           | none => [0#8, 0#8, 0#8]
           | some l => beBytes 2 l.rating ++ beBytes 1 l.derate) ∧
        (body.drop 40).take 2 = beIntBytes 2 r.actualPower ∧ (body.drop 42).take 4 = beBytes 4 r.discharged.kJ ∧
        (body.drop 46).take 4 = beBytes 4 r.absorbed.kJ

/-! ## Requests to the ORL (chapter 06) -/

/-- PLACE ORDER: the form is checked in the order of R98, then the mode, the list, the id and the times in the order of
R99; accepted, the order joins the tail of the list as WAITING with its full quota to deliver, and nothing else changes
(R95, R98, R99, R194). -/
def Obligations.PlaceOrderAdmits : Prop :=
  ∀ (s : State) (tag : Byte) (p : List Byte), s.asks .placeOrder tag p →
    let mask := field p 0 1
    let hasStart := mask % 2 = 1
    let hasDeadline := mask / 2 % 2 = 1
    let hasRepeat := mask / 4 % 2 = 1
    let deadlineAt := 11 + (if hasStart then 6 else 0)
    let repeatAt := deadlineAt + (if hasDeadline then 6 else 0)
    let id := field p 1 2
    let power := field p 5 2
    let quota := field p 7 4
    let start := if hasStart then some (field p 11 6) else none
    let deadline := if hasDeadline then some (field p deadlineAt 6) else none
    (p = [] → exec .placeOrder s = answered s .placeOrder tag p .badLength []) ∧
    (8 ≤ mask → exec .placeOrder s = answered s .placeOrder tag p .badValue []) ∧
    (p ≠ [] → mask < 8 → p.length ≠ repeatAt + (if hasRepeat then 4 else 0) →
      exec .placeOrder s = answered s .placeOrder tag p .badLength []) ∧
    (mask < 8 → p.length = repeatAt + (if hasRepeat then 4 else 0) →
      (id = 0 ∨ field p 3 1 = 0 ∨ 2 < field p 3 1 ∨ 3 < field p 4 1 ∨
          (hasRepeat ∧ (field p (repeatAt + 1) 1 = 0 ∨ 3 < field p (repeatAt + 1) 1)) →
        exec .placeOrder s = answered s .placeOrder tag p .badValue []) ∧
      ∀ (direction : Direction) (group : Fin 4) (condition : RepeatCondition),
        id ≠ 0 → field p 3 1 = (match direction with | .discharge => 1 | .absorb => 2) → field p 4 1 = group.val →
        (hasRepeat → field p (repeatAt + 1) 1 = (match condition with | .always => 1 | .above => 2 | .below => 3)) →
          (s.evt.mode = .halted → exec .placeOrder s = answered s .placeOrder tag p .halted []) ∧
          (s.evt.mode ≠ .halted → 8 ≤ s.orl.orders.length →
            exec .placeOrder s = answered s .placeOrder tag p .full []) ∧
          (s.evt.mode ≠ .halted → s.orl.orders.length < 8 → (∃ o ∈ s.orl.orders, o.id = id) →
            exec .placeOrder s = answered s .placeOrder tag p .duplicate []) ∧
          (s.evt.mode ≠ .halted → s.orl.orders.length < 8 → (∀ o ∈ s.orl.orders, o.id ≠ id) →
            ((∃ a b, start = some a ∧ deadline = some b ∧ b ≤ a) →
              exec .placeOrder s = answered s .placeOrder tag p .inconsistent []) ∧
            ((∀ a b, start = some a → deadline = some b → a < b) → (∃ b, deadline = some b ∧ b ≤ s.plantTime) →
              exec .placeOrder s = answered s .placeOrder tag p .tooLate []) ∧
            ((∀ a b, start = some a → deadline = some b → a < b) → (∀ b, deadline = some b → s.plantTime < b) →
              exec .placeOrder s =
                answered
                  { s with orl := { s.orl with orders := s.orl.orders ++
                    [{ id := id
                       direction := direction
                       group := group
                       power := max 1 (min 8000 power)
                       quota := max 1 (min 6400000 quota)
                       remaining := max 1 (min 6400000 quota) * 1000
                       residue := 0
                       startTime := start
                       deadline := deadline
                       repeats :=
                         if hasRepeat then
                           some ⟨max 1 (field p repeatAt 1), condition, min 1000 (field p (repeatAt + 2) 2)⟩
                         else none
                       status := .waiting
                       placed := s.plantTime
                       activated := none
                       ended := none
                       delivered := 0 }] } }
                  .placeOrder tag p
                  (if (1 ≤ power ∧ power ≤ 8000) ∧ (1 ≤ quota ∧ quota ≤ 6400000) ∧
                      (hasRepeat → 1 ≤ field p repeatAt 1 ∧ field p (repeatAt + 2) 2 ≤ 1000) then .ok
                    else .clamped) [])))

/-- CANCEL ORDER ends a record that has not ended as CANCELLED with cause HOST at the present plant time; RESUME ORDER
returns one SUSPENDED with cause EXHAUSTED to WAITING; an id of 0, one that no record holds, and a record in another
state are refused as R109 and R110 say. Every other record stays as it is, and the id of a cancelled record, but not of
a resumed one, joins the ORDER CHANGE set while the kind is enabled (R109, R110, R114). -/
def Obligations.CancelAndResumeOrder : Prop :=
  (∀ (s : State) (tag : Byte) (p : List Byte), s.asks .cancelOrder tag p →
    let id := field p 0 2
    (id = 0 → exec .cancelOrder s = answered s .cancelOrder tag p .badValue []) ∧
    (id ≠ 0 → (∀ o ∈ s.orl.orders, o.id ≠ id) →
      exec .cancelOrder s = answered s .cancelOrder tag p .noSuch []) ∧
    ∀ before o after_, id ≠ 0 → s.orl.orders = before ++ o :: after_ → o.id = id → OrderInv s →
      (o.status.terminal = true → exec .cancelOrder s = answered s .cancelOrder tag p .wrongState []) ∧
      (o.status.terminal = false →
        exec .cancelOrder s =
          answered
            { s with
              orl :=
                { orders := before ++ ({ o with status := .cancelled .host, ended := some s.plantTime } : Order) :: after_
                  changed :=
                    if s.lif.mask.order = true ∧ id ∉ s.orl.changed then s.orl.changed ++ [id] else s.orl.changed }
              lif := { s.lif with pendingNotices :=
                { s.lif.pendingNotices with order := s.lif.pendingNotices.order || s.lif.mask.order } } }
            .cancelOrder tag p .ok [])) ∧
  ∀ (s : State) (tag : Byte) (p : List Byte), s.asks .resumeOrder tag p →
    let id := field p 0 2
    (id = 0 → exec .resumeOrder s = answered s .resumeOrder tag p .badValue []) ∧
    (id ≠ 0 → (∀ o ∈ s.orl.orders, o.id ≠ id) →
      exec .resumeOrder s = answered s .resumeOrder tag p .noSuch []) ∧
    ∀ before o after_, id ≠ 0 → s.orl.orders = before ++ o :: after_ → o.id = id → OrderInv s →
      (o.status = .suspended .exhausted →
        exec .resumeOrder s =
          answered { s with orl := { s.orl with orders := before ++ ({ o with status := .waiting } : Order) :: after_ } }
            .resumeOrder tag p .ok []) ∧
      (o.status = .suspended .event → exec .resumeOrder s = answered s .resumeOrder tag p .inEvent []) ∧
      ((∀ cause, o.status ≠ .suspended cause) → exec .resumeOrder s = answered s .resumeOrder tag p .wrongState [])

/-- ORDER STATUS reports the record in the layout of R192, with the remaining quota in kJ rounded up and the delivered
total truncated; a terminal record then leaves the list, its id leaves the ORDER CHANGE set, and ORDER CHANGE leaves the
pending notices if that empties the set; every other record is reported and stays (R112, R114, R119, R192). That the
reply's status byte is formed before the record is retired, with ORDER CHANGE still pending, is the model's reading of
R112 (log entry 15). -/
def Obligations.OrderStatusReportsThenRetires : Prop :=
  ∀ (s : State) (tag : Byte) (p : List Byte), s.asks .orderStatus tag p →
    let id := field p 0 2
    (id = 0 → exec .orderStatus s = answered s .orderStatus tag p .badValue []) ∧
    (id ≠ 0 → (∀ o ∈ s.orl.orders, o.id ≠ id) →
      exec .orderStatus s = answered s .orderStatus tag p .noSuch []) ∧
    ∀ before o after_, id ≠ 0 → s.orl.orders = before ++ o :: after_ → o.id = id → OrderInv s → NoticeInv s →
      let body :=
        beBytes 2 id ++ [match o.direction with | .discharge => 1#8 | .absorb => 2#8, byteOf o.group.val] ++
          beBytes 2 o.power ++ beBytes 4 o.quota ++ beBytes 4 ((o.remaining + 999) / 1000) ++
          [byteOf (o.startTime.isSome.toNat + 2 * o.deadline.isSome.toNat + 4 * o.repeats.isSome.toNat)] ++
          beBytes 6 (o.startTime.getD 0) ++ beBytes 6 (o.deadline.getD 0) ++
          (match o.repeats with
           | none => [0#8, 0#8, 0#8, 0#8]
           | some r =>
             [byteOf r.count, match r.condition with | .always => 1#8 | .above => 2#8 | .below => 3#8] ++
               beBytes 2 r.x) ++
          (match o.status with
           | .waiting => [0#8, 0#8]
           | .active => [1#8, 0#8]
           | .suspended .event => [2#8, 1#8]
           | .suspended .exhausted => [2#8, 2#8]
           | .done .quota => [3#8, 3#8]
           | .done .condition => [3#8, 4#8]
           | .expired => [4#8, 5#8]
           | .cancelled .host => [5#8, 6#8]
           | .cancelled .stop => [5#8, 7#8]) ++
          beBytes 6 o.placed ++ beBytes 6 (o.activated.getD 0) ++ beBytes 6 (o.ended.getD 0) ++
          beBytes 6 (o.delivered / 1000)
      body.length = 57 ∧
      (o.status.terminal = false → exec .orderStatus s = answered s .orderStatus tag p .ok body) ∧
      (o.status.terminal = true →
        ∃ replied, answered s .orderStatus tag p .ok body = .next replied ∧
          let changed := s.orl.changed.filter fun x => x ≠ id
          exec .orderStatus s =
            .next { replied with
              orl := { orders := before ++ after_, changed := changed }
              lif := { replied.lif with pendingNotices :=
                { s.lif.pendingNotices with order := !changed.isEmpty } } })

/-! ## The rotor bus and the rotor timers (chapters 07 and 08) -/

/-- POLL: with a round in progress, no poll in flight and the bus quiet, the next slot of the slot part is polled with the
command of its state at that moment, its tag raised by 1, the carried setpoint only while it is ONLINE, its staged pair
offered, and a reply window of 4,000 ticks; after the slot part each slot of the probe part is sent its IDENT. While a
frame is being received none of them is sent, and the turn waits. An OFFLINE or PROBING slot is passed over, and the last
one passed over ends the round. Otherwise nothing is sent. A poll's twelve bytes are laid out by R199 (R146, R149 to R152,
R155, R156, R199). The model's own: one POLL is one turn, taken at the tick of its complete sending, at which it reads the
slot's state and staged pair (log entry 12); with nothing to send it changes only the time (log entry 4); passing over does
not wait for the bus (log entry 25). -/
def Obligations.PollSendsNextTurn : Prop :=
  (∀ (dt : Nat) (s : State), s.supply = .up →
    let now := s.tickCount + BitVec.ofNat 64 dt
    let sent := fun (i : Slot) (command : PollCommand) (setpoint : Int) (b : Rbi) =>
      { b with
        tags := setSlot b.tags i (b.tags[i] + 1#8)
        inFlight := some
          { slot := i
            tag := b.tags[i] + 1#8
            command := command
            setpoint := setpoint
            offered := (s.rotor i).staged
            windowClose := now + 4000#64
            abandoned := false } }
    (s.rbi.inFlight ≠ none ∨ s.rbi.round = none → exec (.poll dt) s = .next { s with tickCount := now }) ∧
    ∀ r, s.rbi.inFlight = none → s.rbi.round = some r →
      (∀ i rest, r.slotPart = i :: rest →
        let rbi := { s.rbi with round := some { r with slotPart := rest } }
        (pollTable (s.rotor i).state = none →
          exec (.poll dt) s = .next { s with tickCount := now, rbi := roundGoesOn rbi s.rotor }) ∧
        ∀ command, pollTable (s.rotor i).state = some command →
          exec (.poll dt) s =
            .next { s with
              tickCount := now
              rbi :=
                if s.rbi.assembly = [] then sent i command (if (s.rotor i).state = .online then r.setpoints[i] else 0) rbi
                else s.rbi }) ∧
      (∀ i rest, r.slotPart = [] → r.probePart = i :: rest →
        exec (.poll dt) s =
          .next { s with
            tickCount := now
            rbi :=
              if s.rbi.assembly = [] then sent i .ident 0 { s.rbi with round := some { r with probePart := rest } }
              else s.rbi }) ∧
      (r.slotPart = [] → r.probePart = [] →
        exec (.poll dt) s = .next { s with tickCount := now, rbi := roundGoesOn s.rbi s.rotor })) ∧
  ∀ p : Poll,
    let f := pollFrame p
    f.length = 12 ∧ f.take 3 = [0xB1#8, byteOf p.slot.val, p.tag] ∧
      f[3]? = some
        (match p.command with
         | .ident => 1#8 | .hold => 2#8 | .lift => 3#8 | .motor => 4#8
         | .sync => 5#8 | .setpoint => 6#8 | .brake => 7#8 | .coast => 8#8) ∧
      (f.drop 4).take 2 = beIntBytes 2 p.setpoint ∧
      (f.drop 6).take 4 =
        (match p.offered with
         | none => [0#8, 0#8, 0#8, 0#8]
         | some l => [0#8, 1#8, byteOf (l.rating / 2), byteOf l.derate]) ∧
      f.drop 10 = crcBytes (f.take 10)

/-- A reply frame laid out and closed by R199, after any bytes that are not 0xB2, is read as what it carries, a fault code
above 5 as INTERNAL and the flag bits above bit 4 ignored; twelve bytes from a 0xB2 on with a slot byte above 15 or a
check that differs are read as none, and so are bytes without a 0xB2, or with fewer than eleven after the first (R62,
R199). That bytes after the twelfth do not count is the model's choice (log entry 16). -/
def Obligations.ReplyFrameIsRead : Prop :=
  (∀ (junk extra : List Byte) (slot : Slot) (tag flags fault : Byte) (speed : Nat) (power temperature : Int),
    (∀ b ∈ junk, b ≠ 0xB2#8) → speed < 65536 → -32768 ≤ power → power ≤ 32767 → -128 ≤ temperature →
    temperature ≤ 127 →
      let body := [0xB2#8, byteOf slot.val, tag] ++ beBytes 2 speed ++ beIntBytes 2 power ++ beIntBytes 1 temperature ++
        [flags, fault]
      (assembleReply (junk ++ body ++ crcBytes body ++ extra)).bind readReply = some
        { slot := slot
          tag := tag
          speed := speed
          actualPower := power
          temperature := temperature
          flags := ⟨flags.getLsbD 0, flags.getLsbD 1, flags.getLsbD 2, flags.getLsbD 3, flags.getLsbD 4⟩
          faultCode :=
            if fault = 0#8 then .none else if fault = 1#8 then .overspeed else if fault = 2#8 then .bearing
            else if fault = 3#8 then .thermal else if fault = 4#8 then .converter else .internal }) ∧
  (∀ (junk extra : List Byte) (slot tag : Byte) (rest check : List Byte), (∀ b ∈ junk, b ≠ 0xB2#8) →
    15 < slot.toNat ∨ check ≠ crcBytes ([0xB2#8, slot, tag] ++ rest) → rest.length = 7 → check.length = 2 →
      (assembleReply (junk ++ [0xB2#8, slot, tag] ++ rest ++ check ++ extra)).bind readReply = none) ∧
  (∀ bytes : List Byte, (bytes.length < 12 ∨ ∀ b ∈ bytes, b ≠ 0xB2#8) → assembleReply bytes = none) ∧
  ∀ junk rest : List Byte, (∀ b ∈ junk, b ≠ 0xB2#8) → rest.length < 11 → assembleReply (junk ++ 0xB2#8 :: rest) = none

/-- MODULE_REPLY: the bytes join the frame that is being received, or begin one at a 0xB2, and the twelfth completes it. A
frame that is not the answer to the poll in flight, within its window, from its slot and with its tag, is discarded and
changes no state; a matching one to an abandoned poll ends the poll and is discarded; any other
matching one ends the poll, has its telemetry, review flag and acknowledged limits written, and moves the rotor by the
tests of R122 and R127, with what it frees handed on to the head of its queue; then the round goes on (R62, R64, R73,
R122, R124, R127, R129 to R134, R138, R139, R144, R152, R153, R156, R158, R199). The model's own: that a matching reply
ends an abandoned poll (its reading of R158, log entry 21), that bytes after the twelfth do not count (log entry 16), and
that a command with no bytes says that the bus has fallen idle (log entry 25). -/
def Obligations.MatchingReplyIsDelivered : Prop :=
  ∀ (dt : Nat) (bytes : List Byte) (s : State), s.supply = .up →
    let now := s.tickCount + BitVec.ofNat 64 dt
    let arrived := s.rbi.assembly ++ bytes
    let matching := fun (p : Poll) (m : ModuleReport) =>
      bytes ≠ [] ∧ (assembleReply arrived).bind readReply = some m ∧ s.rbi.inFlight = some p ∧
        (p.windowClose - now).toNat ≤ 4000 ∧ m.slot = p.slot ∧ m.tag = p.tag
    ((∀ p m, ¬ matching p m) →
      exec (.moduleReply dt bytes) s =
        .next { s with
          tickCount := now
          rbi := { s.rbi with
            assembly :=
              if bytes = [] ∨ 12 ≤ (arrived.dropWhile fun b => b != 0xB2#8).length then []
              else arrived.dropWhile fun b => b != 0xB2#8 } }) ∧
    ∀ p m, matching p m →
      (p.abandoned = true →
        exec (.moduleReply dt bytes) s =
          .next { s with
            tickCount := now, rbi := roundGoesOn { s.rbi with inFlight := none, assembly := [] } s.rotor }) ∧
      (p.abandoned = false → RoadInv s →
        let before := s.rotor p.slot
        let after_ := afterReply s (reported before m p.offered)
        ∃ t, exec (.moduleReply dt bytes) s = .next t ∧ t.tickCount = now ∧ t.rotor p.slot = after_ ∧
          t.rbi = roundGoesOn { s.rbi with inFlight := none, assembly := [] } t.rotor ∧
          (after_.state = before.state →
            t = { s with tickCount := now, rotors := setSlot s.rotors p.slot after_, rbi := t.rbi }) ∧
          (after_.state ≠ before.state →
            MoveFrame s t p.slot (after_.state == .tripped) ∧
              (before.state = .probing ∧ after_.state = .parked ∨ standsWhereItShould s t p.slot now)))

/-- REPLY_WINDOW_CLOSE: the poll in flight is late and ended; an abandoned one raises nothing; a probe's returns the slot
to OFFLINE with cause and probe result NO_MODULE; any other raises the late count, at most to 3, and a count of 3 trips
the rotor with cause LOST, or in TRIPPED rewrites the cause, with what it frees handed on to the head of its queue; then
the round goes on (R123, R126, R130, R133, R139, R144, R154 to R156, R158). That a late close leaves the tick count where
it stands, and that one with no poll in flight changes nothing, is the model's choice (log entries 2, 3 and 4). -/
def Obligations.LatePollIsCounted : Prop :=
  ∀ s : State, s.supply = .up →
    (s.rbi.inFlight = none → exec .replyWindowClose s = .next s) ∧
    ∀ p, s.rbi.inFlight = some p →
      let now := if (p.windowClose - s.tickCount).toNat < 2 ^ 63 then p.windowClose else s.tickCount
      (p.abandoned = true →
        exec .replyWindowClose s =
          .next { s with tickCount := now, rbi := roundGoesOn { s.rbi with inFlight := none } s.rotor }) ∧
      (p.abandoned = false → RoadInv s →
        let before := s.rotor p.slot
        let after_ := afterLate before
        ∃ t, exec .replyWindowClose s = .next t ∧ t.tickCount = now ∧ t.rotor p.slot = after_ ∧
          t.rbi = roundGoesOn { s.rbi with inFlight := none } t.rotor ∧
          (after_.state = before.state → after_.cause = before.cause →
            t = { s with tickCount := now, rotors := setSlot s.rotors p.slot after_, rbi := t.rbi }) ∧
          (after_.state ≠ before.state ∨ after_.cause ≠ before.cause →
            MoveFrame s t p.slot (before.state != .tripped && after_.state == .tripped) ∧ offRoad t p.slot))

/-- The rotor timers expire, each in the state it belongs to: the lift timer trips the rotor with cause LIFT_TIMEOUT; the
spin-up timer brakes it with cause SPINUP_TIMEOUT; the sync timer fails the attempt, and the rotor rejoins the sync
queue, to be handed the unit again at once if it is alone there, or, after its third attempt, is braked with cause
SYNC_FAIL; what is freed is handed on to the head of its queue. A stopped timer does not expire (R124, R129 to R131, R133,
R134, R139, R144). That an expiry brings the tick count to the expiry tick, and a late one leaves it where it stands, is
the model's choice (log entries 2 and 3). -/
def Obligations.RotorTimersExpire : Prop :=
  ∀ (s : State) (i : Slot), s.supply = .up →
    let st := (s.rotor i).state
    (s.rsq.timer i = none →
      exec (.liftTimerExpiry i) s = .next s ∧ exec (.spinupTimerExpiry i) s = .next s ∧
        exec (.syncTimerExpiry i) s = .next s) ∧
    (st ≠ .lifting → exec (.liftTimerExpiry i) s = .next s) ∧
    (st ≠ .accelerating → exec (.spinupTimerExpiry i) s = .next s) ∧
    (st ≠ .syncing → exec (.syncTimerExpiry i) s = .next s) ∧
    ∀ e, s.rsq.timer i = some e → RoadInv s → TableInv s →
      let now := if (e - s.tickCount).toNat < 2 ^ 63 then e else s.tickCount
      (st = .lifting →
        ∃ t, exec (.liftTimerExpiry i) s = .next t ∧ t.tickCount = now ∧ t.rbi = s.rbi ∧ MoveFrame s t i true ∧
          offRoad t i ∧ t.rotor i = trippedRecord (s.rotor i) .liftTimeout (s.rotor i).latched) ∧
      (st = .accelerating →
        ∃ t, exec (.spinupTimerExpiry i) s = .next t ∧ t.tickCount = now ∧ t.rbi = s.rbi ∧ MoveFrame s t i false ∧
          offRoad t i ∧ t.rotor i = { s.rotor i with state := .decelerating, cause := some .spinupTimeout }) ∧
      (st = .syncing →
        ∃ t, exec (.syncTimerExpiry i) s = .next t ∧ t.tickCount = now ∧ t.rbi = s.rbi ∧ MoveFrame s t i false ∧
          standsWhereItShould s t i now ∧
          t.rotor i =
            (if (s.rotor i).attempts = 3 then { s.rotor i with state := .decelerating, cause := some .syncFail }
            else if s.rsq.syncQueue = [] then { s.rotor i with attempts := (s.rotor i).attempts + 1 }
            else { s.rotor i with state := .syncWait }))

/-! ## What every step keeps -/

/-- The state after reset meets every invariant below (R18, R33, R57, R77, R118, R145, R159, R176, R188). -/
def Obligations.ResetMeetsInvariants : Prop :=
  ModeInv State.reset ∧ RoadInv State.reset ∧ TableInv State.reset ∧ OrderInv State.reset ∧ NoticeInv State.reset ∧
    LinkInv State.reset ∧ LatestInv State.reset ∧ RoundInv State.reset ∧ MeasInv State.reset ∧ SettingsInv State.reset

/-- Every step keeps what the spec says always holds of the mode, the event history and the pending curve (R27, R34, R44,
R48, R52, R53). -/
def Obligations.StepKeepsModeInv : Prop :=
  ∀ s t : State, ModeInv s → step s = .next t → ModeInv t

/-- Every step keeps what the spec says always holds of the queues, the spin-up slots, the sync unit and the rotor timers
(R124, R130, R133, R140). -/
def Obligations.StepKeepsRoadInv : Prop :=
  ∀ s t : State, RoadInv s → step s = .next t → RoadInv t

/-- Every step keeps what the spec says always holds of the rotor records (R58, R71, R134, R135). -/
def Obligations.StepKeepsTableInv : Prop :=
  ∀ s t : State, RoadInv s → TableInv s → step s = .next t → TableInv t

/-- Every step keeps what the spec says always holds of the order list, the conservation of its energy included (R95,
R103, R107, R111, R119). -/
def Obligations.StepKeepsOrderInv : Prop :=
  ∀ s t : State, OrderInv s → step s = .next t → OrderInv t

/-- Every step keeps what the spec says always holds of the pending notices and the change sets (R114, R144, R172, R173). -/
def Obligations.StepKeepsNoticeInv : Prop :=
  ∀ s t : State, NoticeInv s → step s = .next t → NoticeInv t

/-- Every step keeps what the spec says always holds of the request slot, the replies, the receiver and the link counters
(R161, R162, R164, R165, R171). -/
def Obligations.StepKeepsLinkInv : Prop :=
  ∀ s t : State, LinkInv s → step s = .next t → LinkInv t

/-- Every step keeps what R91 says of every dispatch record, for the latest one. -/
def Obligations.StepKeepsLatestInv : Prop :=
  ∀ s t : State, LatestInv s → step s = .next t → LatestInv t

/-- Every step keeps what the spec says always holds of rounds, probes and the poll in flight (R148, R155, R158). -/
def Obligations.StepKeepsRoundInv : Prop :=
  ∀ s t : State, RoadInv s → RoundInv s → step s = .next t → RoundInv t

/-- Every step keeps what the spec says always holds of the measurement (R4, R9 to R13, R16, R17, R38). -/
def Obligations.StepKeepsMeasInv : Prop :=
  ∀ s t : State, MeasInv s → step s = .next t → MeasInv t

/-- Every step keeps every value the host sets in its range (R19, R21, R28, R31, R55, R59, R72, R73). -/
def Obligations.StepKeepsSettingsInv : Prop :=
  ∀ s t : State, RoadInv s → SettingsInv s → step s = .next t → SettingsInv t
end

