-- ==== Sys2Proof/Laws/State.lean ====
section
/-! SUPPORT. One lemma per field of State per named update: the field updated reads the new value, every other field
reads as before. -/

namespace Sys2Proof.Machine

@[simp] theorem State.withTick_tickCount (s : State) (x : Tick) : (s.withTick x).tickCount = x := rfl
@[simp] theorem State.withTick_supply (s : State) (x : Tick) : (s.withTick x).supply = s.supply := rfl
@[simp] theorem State.withTick_fmu (s : State) (x : Tick) : (s.withTick x).fmu = s.fmu := rfl
@[simp] theorem State.withTick_evt (s : State) (x : Tick) : (s.withTick x).evt = s.evt := rfl
@[simp] theorem State.withTick_dse (s : State) (x : Tick) : (s.withTick x).dse = s.dse := rfl
@[simp] theorem State.withTick_rotors (s : State) (x : Tick) : (s.withTick x).rotors = s.rotors := rfl
@[simp] theorem State.withTick_rsq (s : State) (x : Tick) : (s.withTick x).rsq = s.rsq := rfl
@[simp] theorem State.withTick_rbi (s : State) (x : Tick) : (s.withTick x).rbi = s.rbi := rfl
@[simp] theorem State.withTick_orl (s : State) (x : Tick) : (s.withTick x).orl = s.orl := rfl
@[simp] theorem State.withTick_lif (s : State) (x : Tick) : (s.withTick x).lif = s.lif := rfl
@[simp] theorem State.withTick_stu (s : State) (x : Tick) : (s.withTick x).stu = s.stu := rfl
@[simp] theorem State.withTick_pending (s : State) (x : Tick) : (s.withTick x).pending = s.pending := rfl

@[simp] theorem State.withSupply_tickCount (s : State) (x : Supply) : (s.withSupply x).tickCount = s.tickCount := rfl
@[simp] theorem State.withSupply_supply (s : State) (x : Supply) : (s.withSupply x).supply = x := rfl
@[simp] theorem State.withSupply_fmu (s : State) (x : Supply) : (s.withSupply x).fmu = s.fmu := rfl
@[simp] theorem State.withSupply_evt (s : State) (x : Supply) : (s.withSupply x).evt = s.evt := rfl
@[simp] theorem State.withSupply_dse (s : State) (x : Supply) : (s.withSupply x).dse = s.dse := rfl
@[simp] theorem State.withSupply_rotors (s : State) (x : Supply) : (s.withSupply x).rotors = s.rotors := rfl
@[simp] theorem State.withSupply_rsq (s : State) (x : Supply) : (s.withSupply x).rsq = s.rsq := rfl
@[simp] theorem State.withSupply_rbi (s : State) (x : Supply) : (s.withSupply x).rbi = s.rbi := rfl
@[simp] theorem State.withSupply_orl (s : State) (x : Supply) : (s.withSupply x).orl = s.orl := rfl
@[simp] theorem State.withSupply_lif (s : State) (x : Supply) : (s.withSupply x).lif = s.lif := rfl
@[simp] theorem State.withSupply_stu (s : State) (x : Supply) : (s.withSupply x).stu = s.stu := rfl
@[simp] theorem State.withSupply_pending (s : State) (x : Supply) : (s.withSupply x).pending = s.pending := rfl

@[simp] theorem State.withFmu_tickCount (s : State) (x : Fmu) : (s.withFmu x).tickCount = s.tickCount := rfl
@[simp] theorem State.withFmu_supply (s : State) (x : Fmu) : (s.withFmu x).supply = s.supply := rfl
@[simp] theorem State.withFmu_fmu (s : State) (x : Fmu) : (s.withFmu x).fmu = x := rfl
@[simp] theorem State.withFmu_evt (s : State) (x : Fmu) : (s.withFmu x).evt = s.evt := rfl
@[simp] theorem State.withFmu_dse (s : State) (x : Fmu) : (s.withFmu x).dse = s.dse := rfl
@[simp] theorem State.withFmu_rotors (s : State) (x : Fmu) : (s.withFmu x).rotors = s.rotors := rfl
@[simp] theorem State.withFmu_rsq (s : State) (x : Fmu) : (s.withFmu x).rsq = s.rsq := rfl
@[simp] theorem State.withFmu_rbi (s : State) (x : Fmu) : (s.withFmu x).rbi = s.rbi := rfl
@[simp] theorem State.withFmu_orl (s : State) (x : Fmu) : (s.withFmu x).orl = s.orl := rfl
@[simp] theorem State.withFmu_lif (s : State) (x : Fmu) : (s.withFmu x).lif = s.lif := rfl
@[simp] theorem State.withFmu_stu (s : State) (x : Fmu) : (s.withFmu x).stu = s.stu := rfl
@[simp] theorem State.withFmu_pending (s : State) (x : Fmu) : (s.withFmu x).pending = s.pending := rfl

@[simp] theorem State.withEvt_tickCount (s : State) (x : Evt) : (s.withEvt x).tickCount = s.tickCount := rfl
@[simp] theorem State.withEvt_supply (s : State) (x : Evt) : (s.withEvt x).supply = s.supply := rfl
@[simp] theorem State.withEvt_fmu (s : State) (x : Evt) : (s.withEvt x).fmu = s.fmu := rfl
@[simp] theorem State.withEvt_evt (s : State) (x : Evt) : (s.withEvt x).evt = x := rfl
@[simp] theorem State.withEvt_dse (s : State) (x : Evt) : (s.withEvt x).dse = s.dse := rfl
@[simp] theorem State.withEvt_rotors (s : State) (x : Evt) : (s.withEvt x).rotors = s.rotors := rfl
@[simp] theorem State.withEvt_rsq (s : State) (x : Evt) : (s.withEvt x).rsq = s.rsq := rfl
@[simp] theorem State.withEvt_rbi (s : State) (x : Evt) : (s.withEvt x).rbi = s.rbi := rfl
@[simp] theorem State.withEvt_orl (s : State) (x : Evt) : (s.withEvt x).orl = s.orl := rfl
@[simp] theorem State.withEvt_lif (s : State) (x : Evt) : (s.withEvt x).lif = s.lif := rfl
@[simp] theorem State.withEvt_stu (s : State) (x : Evt) : (s.withEvt x).stu = s.stu := rfl
@[simp] theorem State.withEvt_pending (s : State) (x : Evt) : (s.withEvt x).pending = s.pending := rfl

@[simp] theorem State.withDse_tickCount (s : State) (x : Dse) : (s.withDse x).tickCount = s.tickCount := rfl
@[simp] theorem State.withDse_supply (s : State) (x : Dse) : (s.withDse x).supply = s.supply := rfl
@[simp] theorem State.withDse_fmu (s : State) (x : Dse) : (s.withDse x).fmu = s.fmu := rfl
@[simp] theorem State.withDse_evt (s : State) (x : Dse) : (s.withDse x).evt = s.evt := rfl
@[simp] theorem State.withDse_dse (s : State) (x : Dse) : (s.withDse x).dse = x := rfl
@[simp] theorem State.withDse_rotors (s : State) (x : Dse) : (s.withDse x).rotors = s.rotors := rfl
@[simp] theorem State.withDse_rsq (s : State) (x : Dse) : (s.withDse x).rsq = s.rsq := rfl
@[simp] theorem State.withDse_rbi (s : State) (x : Dse) : (s.withDse x).rbi = s.rbi := rfl
@[simp] theorem State.withDse_orl (s : State) (x : Dse) : (s.withDse x).orl = s.orl := rfl
@[simp] theorem State.withDse_lif (s : State) (x : Dse) : (s.withDse x).lif = s.lif := rfl
@[simp] theorem State.withDse_stu (s : State) (x : Dse) : (s.withDse x).stu = s.stu := rfl
@[simp] theorem State.withDse_pending (s : State) (x : Dse) : (s.withDse x).pending = s.pending := rfl

@[simp] theorem State.withRotors_tickCount (s : State) (x : Vector RotorRecord 16) : (s.withRotors x).tickCount = s.tickCount := rfl
@[simp] theorem State.withRotors_supply (s : State) (x : Vector RotorRecord 16) : (s.withRotors x).supply = s.supply := rfl
@[simp] theorem State.withRotors_fmu (s : State) (x : Vector RotorRecord 16) : (s.withRotors x).fmu = s.fmu := rfl
@[simp] theorem State.withRotors_evt (s : State) (x : Vector RotorRecord 16) : (s.withRotors x).evt = s.evt := rfl
@[simp] theorem State.withRotors_dse (s : State) (x : Vector RotorRecord 16) : (s.withRotors x).dse = s.dse := rfl
@[simp] theorem State.withRotors_rotors (s : State) (x : Vector RotorRecord 16) : (s.withRotors x).rotors = x := rfl
@[simp] theorem State.withRotors_rsq (s : State) (x : Vector RotorRecord 16) : (s.withRotors x).rsq = s.rsq := rfl
@[simp] theorem State.withRotors_rbi (s : State) (x : Vector RotorRecord 16) : (s.withRotors x).rbi = s.rbi := rfl
@[simp] theorem State.withRotors_orl (s : State) (x : Vector RotorRecord 16) : (s.withRotors x).orl = s.orl := rfl
@[simp] theorem State.withRotors_lif (s : State) (x : Vector RotorRecord 16) : (s.withRotors x).lif = s.lif := rfl
@[simp] theorem State.withRotors_stu (s : State) (x : Vector RotorRecord 16) : (s.withRotors x).stu = s.stu := rfl
@[simp] theorem State.withRotors_pending (s : State) (x : Vector RotorRecord 16) : (s.withRotors x).pending = s.pending := rfl

@[simp] theorem State.withRsq_tickCount (s : State) (x : Rsq) : (s.withRsq x).tickCount = s.tickCount := rfl
@[simp] theorem State.withRsq_supply (s : State) (x : Rsq) : (s.withRsq x).supply = s.supply := rfl
@[simp] theorem State.withRsq_fmu (s : State) (x : Rsq) : (s.withRsq x).fmu = s.fmu := rfl
@[simp] theorem State.withRsq_evt (s : State) (x : Rsq) : (s.withRsq x).evt = s.evt := rfl
@[simp] theorem State.withRsq_dse (s : State) (x : Rsq) : (s.withRsq x).dse = s.dse := rfl
@[simp] theorem State.withRsq_rotors (s : State) (x : Rsq) : (s.withRsq x).rotors = s.rotors := rfl
@[simp] theorem State.withRsq_rsq (s : State) (x : Rsq) : (s.withRsq x).rsq = x := rfl
@[simp] theorem State.withRsq_rbi (s : State) (x : Rsq) : (s.withRsq x).rbi = s.rbi := rfl
@[simp] theorem State.withRsq_orl (s : State) (x : Rsq) : (s.withRsq x).orl = s.orl := rfl
@[simp] theorem State.withRsq_lif (s : State) (x : Rsq) : (s.withRsq x).lif = s.lif := rfl
@[simp] theorem State.withRsq_stu (s : State) (x : Rsq) : (s.withRsq x).stu = s.stu := rfl
@[simp] theorem State.withRsq_pending (s : State) (x : Rsq) : (s.withRsq x).pending = s.pending := rfl

@[simp] theorem State.withRbi_tickCount (s : State) (x : Rbi) : (s.withRbi x).tickCount = s.tickCount := rfl
@[simp] theorem State.withRbi_supply (s : State) (x : Rbi) : (s.withRbi x).supply = s.supply := rfl
@[simp] theorem State.withRbi_fmu (s : State) (x : Rbi) : (s.withRbi x).fmu = s.fmu := rfl
@[simp] theorem State.withRbi_evt (s : State) (x : Rbi) : (s.withRbi x).evt = s.evt := rfl
@[simp] theorem State.withRbi_dse (s : State) (x : Rbi) : (s.withRbi x).dse = s.dse := rfl
@[simp] theorem State.withRbi_rotors (s : State) (x : Rbi) : (s.withRbi x).rotors = s.rotors := rfl
@[simp] theorem State.withRbi_rsq (s : State) (x : Rbi) : (s.withRbi x).rsq = s.rsq := rfl
@[simp] theorem State.withRbi_rbi (s : State) (x : Rbi) : (s.withRbi x).rbi = x := rfl
@[simp] theorem State.withRbi_orl (s : State) (x : Rbi) : (s.withRbi x).orl = s.orl := rfl
@[simp] theorem State.withRbi_lif (s : State) (x : Rbi) : (s.withRbi x).lif = s.lif := rfl
@[simp] theorem State.withRbi_stu (s : State) (x : Rbi) : (s.withRbi x).stu = s.stu := rfl
@[simp] theorem State.withRbi_pending (s : State) (x : Rbi) : (s.withRbi x).pending = s.pending := rfl

@[simp] theorem State.withOrl_tickCount (s : State) (x : Orl) : (s.withOrl x).tickCount = s.tickCount := rfl
@[simp] theorem State.withOrl_supply (s : State) (x : Orl) : (s.withOrl x).supply = s.supply := rfl
@[simp] theorem State.withOrl_fmu (s : State) (x : Orl) : (s.withOrl x).fmu = s.fmu := rfl
@[simp] theorem State.withOrl_evt (s : State) (x : Orl) : (s.withOrl x).evt = s.evt := rfl
@[simp] theorem State.withOrl_dse (s : State) (x : Orl) : (s.withOrl x).dse = s.dse := rfl
@[simp] theorem State.withOrl_rotors (s : State) (x : Orl) : (s.withOrl x).rotors = s.rotors := rfl
@[simp] theorem State.withOrl_rsq (s : State) (x : Orl) : (s.withOrl x).rsq = s.rsq := rfl
@[simp] theorem State.withOrl_rbi (s : State) (x : Orl) : (s.withOrl x).rbi = s.rbi := rfl
@[simp] theorem State.withOrl_orl (s : State) (x : Orl) : (s.withOrl x).orl = x := rfl
@[simp] theorem State.withOrl_lif (s : State) (x : Orl) : (s.withOrl x).lif = s.lif := rfl
@[simp] theorem State.withOrl_stu (s : State) (x : Orl) : (s.withOrl x).stu = s.stu := rfl
@[simp] theorem State.withOrl_pending (s : State) (x : Orl) : (s.withOrl x).pending = s.pending := rfl

@[simp] theorem State.withLif_tickCount (s : State) (x : Lif) : (s.withLif x).tickCount = s.tickCount := rfl
@[simp] theorem State.withLif_supply (s : State) (x : Lif) : (s.withLif x).supply = s.supply := rfl
@[simp] theorem State.withLif_fmu (s : State) (x : Lif) : (s.withLif x).fmu = s.fmu := rfl
@[simp] theorem State.withLif_evt (s : State) (x : Lif) : (s.withLif x).evt = s.evt := rfl
@[simp] theorem State.withLif_dse (s : State) (x : Lif) : (s.withLif x).dse = s.dse := rfl
@[simp] theorem State.withLif_rotors (s : State) (x : Lif) : (s.withLif x).rotors = s.rotors := rfl
@[simp] theorem State.withLif_rsq (s : State) (x : Lif) : (s.withLif x).rsq = s.rsq := rfl
@[simp] theorem State.withLif_rbi (s : State) (x : Lif) : (s.withLif x).rbi = s.rbi := rfl
@[simp] theorem State.withLif_orl (s : State) (x : Lif) : (s.withLif x).orl = s.orl := rfl
@[simp] theorem State.withLif_lif (s : State) (x : Lif) : (s.withLif x).lif = x := rfl
@[simp] theorem State.withLif_stu (s : State) (x : Lif) : (s.withLif x).stu = s.stu := rfl
@[simp] theorem State.withLif_pending (s : State) (x : Lif) : (s.withLif x).pending = s.pending := rfl

@[simp] theorem State.withStu_tickCount (s : State) (x : Stu) : (s.withStu x).tickCount = s.tickCount := rfl
@[simp] theorem State.withStu_supply (s : State) (x : Stu) : (s.withStu x).supply = s.supply := rfl
@[simp] theorem State.withStu_fmu (s : State) (x : Stu) : (s.withStu x).fmu = s.fmu := rfl
@[simp] theorem State.withStu_evt (s : State) (x : Stu) : (s.withStu x).evt = s.evt := rfl
@[simp] theorem State.withStu_dse (s : State) (x : Stu) : (s.withStu x).dse = s.dse := rfl
@[simp] theorem State.withStu_rotors (s : State) (x : Stu) : (s.withStu x).rotors = s.rotors := rfl
@[simp] theorem State.withStu_rsq (s : State) (x : Stu) : (s.withStu x).rsq = s.rsq := rfl
@[simp] theorem State.withStu_rbi (s : State) (x : Stu) : (s.withStu x).rbi = s.rbi := rfl
@[simp] theorem State.withStu_orl (s : State) (x : Stu) : (s.withStu x).orl = s.orl := rfl
@[simp] theorem State.withStu_lif (s : State) (x : Stu) : (s.withStu x).lif = s.lif := rfl
@[simp] theorem State.withStu_stu (s : State) (x : Stu) : (s.withStu x).stu = x := rfl
@[simp] theorem State.withStu_pending (s : State) (x : Stu) : (s.withStu x).pending = s.pending := rfl

@[simp] theorem State.withPending_tickCount (s : State) (x : List Instr) : (s.withPending x).tickCount = s.tickCount := rfl
@[simp] theorem State.withPending_supply (s : State) (x : List Instr) : (s.withPending x).supply = s.supply := rfl
@[simp] theorem State.withPending_fmu (s : State) (x : List Instr) : (s.withPending x).fmu = s.fmu := rfl
@[simp] theorem State.withPending_evt (s : State) (x : List Instr) : (s.withPending x).evt = s.evt := rfl
@[simp] theorem State.withPending_dse (s : State) (x : List Instr) : (s.withPending x).dse = s.dse := rfl
@[simp] theorem State.withPending_rotors (s : State) (x : List Instr) : (s.withPending x).rotors = s.rotors := rfl
@[simp] theorem State.withPending_rsq (s : State) (x : List Instr) : (s.withPending x).rsq = s.rsq := rfl
@[simp] theorem State.withPending_rbi (s : State) (x : List Instr) : (s.withPending x).rbi = s.rbi := rfl
@[simp] theorem State.withPending_orl (s : State) (x : List Instr) : (s.withPending x).orl = s.orl := rfl
@[simp] theorem State.withPending_lif (s : State) (x : List Instr) : (s.withPending x).lif = s.lif := rfl
@[simp] theorem State.withPending_stu (s : State) (x : List Instr) : (s.withPending x).stu = s.stu := rfl
@[simp] theorem State.withPending_pending (s : State) (x : List Instr) : (s.withPending x).pending = x := rfl

end Sys2Proof.Machine
end

