-- ==== Sys2Proof/Laws/Commands.lean ====
section
/-! SUPPORT. What exec is for each command, in one equation; that every command is taken (a next state) and that a part held
in reset takes none but a rise of the supply; and what the taking of a request does. -/

namespace Sys2Proof.Machine

/-- While the supply is up the part does what the command says. -/
theorem State.taking_up {s : State} (h : s.supply = .up) (f : State → State) : s.taking f = .next (f s) := by
  simp [State.taking, h]

/-- A part held in reset takes nothing (R184). -/
theorem State.taking_down {s : State} (h : s.supply = .down) (f : State → State) : s.taking f = .next s := by
  simp [State.taking, h]

theorem exec_zeroCrossingEdge (dt : Nat) (s : State) :
    exec (.zeroCrossingEdge dt) s = s.taking fun s => (s.advance dt).edge := rfl
theorem exec_missingEdgeTimeout (s : State) :
    exec .missingEdgeTimeout s = s.taking State.missingEdge := rfl
theorem exec_stopAssertion (dt : Nat) (steady : Nat) (s : State) :
    exec (.stopAssertion dt steady) s = s.taking fun s => if s.stopArrives .asserted steady then (s.advance dt).assertStop else s.advance dt := rfl
theorem exec_stopRelease (dt : Nat) (steady : Nat) (s : State) :
    exec (.stopRelease dt steady) s = s.taking fun s => if s.stopArrives .released steady then (s.advance dt).releaseStop else s.advance dt := rfl
theorem exec_powerOn (line : StopLevel) (s : State) :
    exec (.powerOn line) s = .next (s.takeReset .powerOn 0 line) := rfl
theorem exec_supplyDip (line : StopLevel) (s : State) :
    exec (.supplyDip line) s = .next (s.takeReset .supplyDip 0 line) := rfl
theorem exec_frameCompleted (s : State) :
    exec .frameCompleted s = s.taking State.completeFrame := rfl
theorem exec_gapTimerExpiry (s : State) :
    exec .gapTimerExpiry s = s.taking State.gapExpires := rfl
theorem exec_replySend (s : State) :
    exec .replySend s = s.taking State.beginReply := rfl
theorem exec_requestSlotRelease (dt : Nat) (line : StopLevel) (s : State) :
    exec (.requestSlotRelease dt line) s = s.taking fun s => (s.advance dt).endReply line := rfl
theorem exec_start (s : State) :
    exec .start s = s.taking fun s => s.beginNotice .start := rfl
theorem exec_eventChange (s : State) :
    exec .eventChange s = s.taking fun s => s.beginNotice .event := rfl
theorem exec_rotorChange (s : State) :
    exec .rotorChange s = s.taking fun s => s.beginNotice .rotor := rfl
theorem exec_orderChange (s : State) :
    exec .orderChange s = s.taking fun s => s.beginNotice .order := rfl
theorem exec_measurementChange (s : State) :
    exec .measurementChange s = s.taking fun s => s.beginNotice .measurement := rfl
theorem exec_haltChange (s : State) :
    exec .haltChange s = s.taking fun s => s.beginNotice .halt := rfl
theorem exec_identify (s : State) :
    exec .identify s = s.taking fun s => s.takeRequest .identify anyPayload ownIdentify nothingAfter := rfl
theorem exec_status (s : State) :
    exec .status s = s.taking fun s => s.takeRequest .status anyPayload ownStatus nothingAfter := rfl
theorem exec_clearSummary (s : State) :
    exec .clearSummary s = s.taking fun s => s.takeRequest .clearSummary anyPayload ownClearSummary nothingAfter := rfl
theorem exec_setClock (s : State) :
    exec .setClock s = s.taking fun s => s.takeRequest .setClock anyPayload ownSetClock nothingAfter := rfl
theorem exec_setMode (s : State) :
    exec .setMode s = s.taking fun s => s.takeRequest .setMode anyPayload ownSetMode nothingAfter := rfl
theorem exec_setMeasurement (s : State) :
    exec .setMeasurement s = s.taking fun s => s.takeRequest .setMeasurement anyPayload ownSetMeasurement nothingAfter := rfl
theorem exec_setEvent (s : State) :
    exec .setEvent s = s.taking fun s => s.takeRequest .setEvent anyPayload ownSetEvent nothingAfter := rfl
theorem exec_setBankLimits (s : State) :
    exec .setBankLimits s = s.taking fun s => s.takeRequest .setBankLimits anyPayload ownSetBankLimits nothingAfter := rfl
theorem exec_setCurve (s : State) :
    exec .setCurve s = s.taking fun s => s.takeRequest .setCurve anyPayload ownSetCurve nothingAfter := rfl
theorem exec_readCurve (s : State) :
    exec .readCurve s = s.taking fun s => s.takeRequest .readCurve anyPayload ownReadCurve nothingAfter := rfl
theorem exec_readEvents (s : State) :
    exec .readEvents s = s.taking fun s => s.takeRequest .readEvents anyPayload ownReadEvents nothingAfter := rfl
theorem exec_setNotices (s : State) :
    exec .setNotices s = s.taking fun s => s.takeRequest .setNotices anyPayload ownSetNotices nothingAfter := rfl
theorem exec_restart (s : State) :
    exec .restart s = s.taking fun s => s.takeRequest .restart anyPayload ownRestart nothingAfter := rfl
theorem exec_snapshotPart0 (s : State) :
    exec .snapshotPart0 s = s.taking fun s => s.takeRequest .snapshot namesAnotherPart ownSnapshotPart0 nothingAfter := rfl
theorem exec_snapshotPart1 (s : State) :
    exec .snapshotPart1 s = s.taking fun s => s.takeRequest .snapshot namesPart1 ownSnapshotPart1 nothingAfter := rfl
theorem exec_enrol (s : State) :
    exec .enrol s = s.taking fun s => s.takeRequest .enrol anyPayload ownEnrol nothingAfter := rfl
theorem exec_release (s : State) :
    exec .release s = s.taking fun s => s.takeRequest .release anyPayload ownRelease nothingAfter := rfl
theorem exec_spinUp (s : State) :
    exec .spinUp s = s.taking fun s => s.takeRequest .spinUp anyPayload ownSpinUp nothingAfter := rfl
theorem exec_park (s : State) :
    exec .park s = s.taking fun s => s.takeRequest .park anyPayload ownPark nothingAfter := rfl
theorem exec_resetFault (s : State) :
    exec .resetFault s = s.taking fun s => s.takeRequest .resetFault anyPayload ownResetFault nothingAfter := rfl
theorem exec_setRotorLimits (s : State) :
    exec .setRotorLimits s = s.taking fun s => s.takeRequest .setRotorLimits anyPayload ownSetRotorLimits nothingAfter := rfl
theorem exec_setRotorRole (s : State) :
    exec .setRotorRole s = s.taking fun s => s.takeRequest .setRotorRole anyPayload ownSetRotorRole nothingAfter := rfl
theorem exec_rotorStatus (s : State) :
    exec .rotorStatus s = s.taking fun s => s.takeRequest .rotorStatus anyPayload ownRotorStatus afterRotorStatus := rfl
theorem exec_placeOrder (s : State) :
    exec .placeOrder s = s.taking fun s => s.takeRequest .placeOrder anyPayload ownPlaceOrder nothingAfter := rfl
theorem exec_cancelOrder (s : State) :
    exec .cancelOrder s = s.taking fun s => s.takeRequest .cancelOrder anyPayload ownCancelOrder nothingAfter := rfl
theorem exec_resumeOrder (s : State) :
    exec .resumeOrder s = s.taking fun s => s.takeRequest .resumeOrder anyPayload ownResumeOrder nothingAfter := rfl
theorem exec_orderStatus (s : State) :
    exec .orderStatus s = s.taking fun s => s.takeRequest .orderStatus anyPayload ownOrderStatus afterOrderStatus := rfl
theorem exec_listOrders (s : State) :
    exec .listOrders s = s.taking fun s => s.takeRequest .listOrders anyPayload ownListOrders nothingAfter := rfl
theorem exec_poll (dt : Nat) (s : State) :
    exec (.poll dt) s = s.taking fun s => (s.advance dt).pollNext := rfl
theorem exec_moduleReply (dt : Nat) (bytes : List Byte) (s : State) :
    exec (.moduleReply dt bytes) s = s.taking fun s => (s.advance dt).busBytes bytes := rfl
theorem exec_replyWindowClose (s : State) :
    exec .replyWindowClose s = s.taking State.windowCloses := rfl
theorem exec_liftTimerExpiry (slot : Slot) (s : State) :
    exec (.liftTimerExpiry slot) s = s.taking fun s => s.timerExpires slot .lifting fun s => s.trip slot .liftTimeout := rfl
theorem exec_spinupTimerExpiry (slot : Slot) (s : State) :
    exec (.spinupTimerExpiry slot) s = s.taking fun s => s.timerExpires slot .accelerating fun s => s.brake slot .spinupTimeout := rfl
theorem exec_syncTimerExpiry (slot : Slot) (s : State) :
    exec (.syncTimerExpiry slot) s = s.taking fun s => s.timerExpires slot .syncing fun s => s.syncFails slot := rfl
theorem exec_linkByteReceived (dt : Nat) (byte : Byte) (broken : Bool) (s : State) :
    exec (.linkByteReceived dt byte broken) s = s.taking fun s => (s.advance dt).takeByte byte broken := rfl
theorem exec_noticeFrameEnd (dt : Nat) (s : State) :
    exec (.noticeFrameEnd dt) s = s.taking fun s => (s.advance dt).endNotice := rfl
theorem exec_supplyFall (dt : Nat) (s : State) :
    exec (.supplyFall dt) s = s.taking fun s => (s.advance dt).withSupply .down := rfl

/-- A request of the kind in the slot, not yet taken, is taken by its owner, and the reply is formed from its answer. -/
theorem State.takeRequest_slot {s : State} {k : RequestKind} {tag : Byte} {p : List Byte}
    (h : s.lif.slot = some ⟨requestKindByte k, tag, p, false⟩) (suits : List Byte → Bool) (hs : suits p = true)
    (owner : State → List Byte → Answer) (after_ : State → List Byte → State) :
    s.takeRequest k suits owner after_ =
      after_ ((owner s p).state.formReply ⟨requestKindByte k, tag, p, false⟩ (owner s p).code (owner s p).body) p := by
  simp [State.takeRequest, h, hs]

/-- What a taking of a request can do: nothing, or the owner's answer to the request that the slot holds. -/
theorem State.takeRequest_cases (s : State) (k : RequestKind) (suits : List Byte → Bool)
    (owner : State → List Byte → Answer) (after_ : State → List Byte → State) :
    s.takeRequest k suits owner after_ = s ∨
      ∃ r : Request, s.lif.slot = some r ∧ r.kind = requestKindByte k ∧ r.taken = false ∧ suits r.payload = true ∧
        s.takeRequest k suits owner after_ =
          after_ ((owner s r.payload).state.formReply r (owner s r.payload).code (owner s r.payload).body)
            r.payload := by
  cases h : s.lif.slot with
  | none => exact .inl (by simp [State.takeRequest, h])
  | some r =>
    by_cases hr : r.kind = requestKindByte k ∧ r.taken = false ∧ suits r.payload = true
    · exact .inr ⟨r, rfl, hr.1, hr.2.1, hr.2.2, by simp [State.takeRequest, h, hr]⟩
    · exact .inl (by simp only [State.takeRequest, h]; rw [if_neg hr])

end Sys2Proof.Machine
end

