-- ==== Sys2Proof/Laws/Frames.lean ====
section
/-! SUPPORT. Frames of the shared operations: one lemma per operation and per field of State that it leaves as it is. -/

namespace Sys2Proof.Machine

@[simp] theorem State.advance_supply (s : State) (dt : Nat) : (s.advance dt).supply = s.supply := rfl
@[simp] theorem State.advance_fmu (s : State) (dt : Nat) : (s.advance dt).fmu = s.fmu := rfl
@[simp] theorem State.advance_evt (s : State) (dt : Nat) : (s.advance dt).evt = s.evt := rfl
@[simp] theorem State.advance_dse (s : State) (dt : Nat) : (s.advance dt).dse = s.dse := rfl
@[simp] theorem State.advance_rotors (s : State) (dt : Nat) : (s.advance dt).rotors = s.rotors := rfl
@[simp] theorem State.advance_rsq (s : State) (dt : Nat) : (s.advance dt).rsq = s.rsq := rfl
@[simp] theorem State.advance_rbi (s : State) (dt : Nat) : (s.advance dt).rbi = s.rbi := rfl
@[simp] theorem State.advance_orl (s : State) (dt : Nat) : (s.advance dt).orl = s.orl := rfl
@[simp] theorem State.advance_lif (s : State) (dt : Nat) : (s.advance dt).lif = s.lif := rfl
@[simp] theorem State.advance_stu (s : State) (dt : Nat) : (s.advance dt).stu = s.stu := rfl
@[simp] theorem State.advance_pending (s : State) (dt : Nat) : (s.advance dt).pending = s.pending := rfl

@[simp] theorem State.raise_tickCount (s : State) (f : SummaryFlag) : (s.raise f).tickCount = s.tickCount := rfl
@[simp] theorem State.raise_supply (s : State) (f : SummaryFlag) : (s.raise f).supply = s.supply := rfl
@[simp] theorem State.raise_fmu (s : State) (f : SummaryFlag) : (s.raise f).fmu = s.fmu := rfl
@[simp] theorem State.raise_evt (s : State) (f : SummaryFlag) : (s.raise f).evt = s.evt := rfl
@[simp] theorem State.raise_dse (s : State) (f : SummaryFlag) : (s.raise f).dse = s.dse := rfl
@[simp] theorem State.raise_rotors (s : State) (f : SummaryFlag) : (s.raise f).rotors = s.rotors := rfl
@[simp] theorem State.raise_rsq (s : State) (f : SummaryFlag) : (s.raise f).rsq = s.rsq := rfl
@[simp] theorem State.raise_rbi (s : State) (f : SummaryFlag) : (s.raise f).rbi = s.rbi := rfl
@[simp] theorem State.raise_orl (s : State) (f : SummaryFlag) : (s.raise f).orl = s.orl := rfl
@[simp] theorem State.raise_lif (s : State) (f : SummaryFlag) : (s.raise f).lif = s.lif := rfl
@[simp] theorem State.raise_pending (s : State) (f : SummaryFlag) : (s.raise f).pending = s.pending := rfl

@[simp] theorem State.setRotor_tickCount (s : State) (i : Slot) (r : RotorRecord) : (s.setRotor i r).tickCount = s.tickCount := rfl
@[simp] theorem State.setRotor_supply (s : State) (i : Slot) (r : RotorRecord) : (s.setRotor i r).supply = s.supply := rfl
@[simp] theorem State.setRotor_fmu (s : State) (i : Slot) (r : RotorRecord) : (s.setRotor i r).fmu = s.fmu := rfl
@[simp] theorem State.setRotor_evt (s : State) (i : Slot) (r : RotorRecord) : (s.setRotor i r).evt = s.evt := rfl
@[simp] theorem State.setRotor_dse (s : State) (i : Slot) (r : RotorRecord) : (s.setRotor i r).dse = s.dse := rfl
@[simp] theorem State.setRotor_rsq (s : State) (i : Slot) (r : RotorRecord) : (s.setRotor i r).rsq = s.rsq := rfl
@[simp] theorem State.setRotor_rbi (s : State) (i : Slot) (r : RotorRecord) : (s.setRotor i r).rbi = s.rbi := rfl
@[simp] theorem State.setRotor_orl (s : State) (i : Slot) (r : RotorRecord) : (s.setRotor i r).orl = s.orl := rfl
@[simp] theorem State.setRotor_lif (s : State) (i : Slot) (r : RotorRecord) : (s.setRotor i r).lif = s.lif := rfl
@[simp] theorem State.setRotor_stu (s : State) (i : Slot) (r : RotorRecord) : (s.setRotor i r).stu = s.stu := rfl
@[simp] theorem State.setRotor_pending (s : State) (i : Slot) (r : RotorRecord) : (s.setRotor i r).pending = s.pending := rfl

@[simp] theorem State.mapRotors_tickCount (s : State) (f : Slot → RotorRecord → RotorRecord) : (s.mapRotors f).tickCount = s.tickCount := rfl
@[simp] theorem State.mapRotors_supply (s : State) (f : Slot → RotorRecord → RotorRecord) : (s.mapRotors f).supply = s.supply := rfl
@[simp] theorem State.mapRotors_fmu (s : State) (f : Slot → RotorRecord → RotorRecord) : (s.mapRotors f).fmu = s.fmu := rfl
@[simp] theorem State.mapRotors_evt (s : State) (f : Slot → RotorRecord → RotorRecord) : (s.mapRotors f).evt = s.evt := rfl
@[simp] theorem State.mapRotors_dse (s : State) (f : Slot → RotorRecord → RotorRecord) : (s.mapRotors f).dse = s.dse := rfl
@[simp] theorem State.mapRotors_rsq (s : State) (f : Slot → RotorRecord → RotorRecord) : (s.mapRotors f).rsq = s.rsq := rfl
@[simp] theorem State.mapRotors_rbi (s : State) (f : Slot → RotorRecord → RotorRecord) : (s.mapRotors f).rbi = s.rbi := rfl
@[simp] theorem State.mapRotors_orl (s : State) (f : Slot → RotorRecord → RotorRecord) : (s.mapRotors f).orl = s.orl := rfl
@[simp] theorem State.mapRotors_lif (s : State) (f : Slot → RotorRecord → RotorRecord) : (s.mapRotors f).lif = s.lif := rfl
@[simp] theorem State.mapRotors_stu (s : State) (f : Slot → RotorRecord → RotorRecord) : (s.mapRotors f).stu = s.stu := rfl
@[simp] theorem State.mapRotors_pending (s : State) (f : Slot → RotorRecord → RotorRecord) : (s.mapRotors f).pending = s.pending := rfl

@[simp] theorem State.advanceTo_supply (s : State) (t : Tick) : (s.advanceTo t).supply = s.supply := by unfold State.advanceTo; split <;> rfl
@[simp] theorem State.advanceTo_fmu (s : State) (t : Tick) : (s.advanceTo t).fmu = s.fmu := by unfold State.advanceTo; split <;> rfl
@[simp] theorem State.advanceTo_evt (s : State) (t : Tick) : (s.advanceTo t).evt = s.evt := by unfold State.advanceTo; split <;> rfl
@[simp] theorem State.advanceTo_dse (s : State) (t : Tick) : (s.advanceTo t).dse = s.dse := by unfold State.advanceTo; split <;> rfl
@[simp] theorem State.advanceTo_rotors (s : State) (t : Tick) : (s.advanceTo t).rotors = s.rotors := by unfold State.advanceTo; split <;> rfl
@[simp] theorem State.advanceTo_rsq (s : State) (t : Tick) : (s.advanceTo t).rsq = s.rsq := by unfold State.advanceTo; split <;> rfl
@[simp] theorem State.advanceTo_rbi (s : State) (t : Tick) : (s.advanceTo t).rbi = s.rbi := by unfold State.advanceTo; split <;> rfl
@[simp] theorem State.advanceTo_orl (s : State) (t : Tick) : (s.advanceTo t).orl = s.orl := by unfold State.advanceTo; split <;> rfl
@[simp] theorem State.advanceTo_lif (s : State) (t : Tick) : (s.advanceTo t).lif = s.lif := by unfold State.advanceTo; split <;> rfl
@[simp] theorem State.advanceTo_stu (s : State) (t : Tick) : (s.advanceTo t).stu = s.stu := by unfold State.advanceTo; split <;> rfl
@[simp] theorem State.advanceTo_pending (s : State) (t : Tick) : (s.advanceTo t).pending = s.pending := by unfold State.advanceTo; split <;> rfl

@[simp] theorem State.raiseIf_tickCount (s : State) (b : Bool) (f : SummaryFlag) : (s.raiseIf b f).tickCount = s.tickCount := by cases b <;> rfl
@[simp] theorem State.raiseIf_supply (s : State) (b : Bool) (f : SummaryFlag) : (s.raiseIf b f).supply = s.supply := by cases b <;> rfl
@[simp] theorem State.raiseIf_fmu (s : State) (b : Bool) (f : SummaryFlag) : (s.raiseIf b f).fmu = s.fmu := by cases b <;> rfl
@[simp] theorem State.raiseIf_evt (s : State) (b : Bool) (f : SummaryFlag) : (s.raiseIf b f).evt = s.evt := by cases b <;> rfl
@[simp] theorem State.raiseIf_dse (s : State) (b : Bool) (f : SummaryFlag) : (s.raiseIf b f).dse = s.dse := by cases b <;> rfl
@[simp] theorem State.raiseIf_rotors (s : State) (b : Bool) (f : SummaryFlag) : (s.raiseIf b f).rotors = s.rotors := by cases b <;> rfl
@[simp] theorem State.raiseIf_rsq (s : State) (b : Bool) (f : SummaryFlag) : (s.raiseIf b f).rsq = s.rsq := by cases b <;> rfl
@[simp] theorem State.raiseIf_rbi (s : State) (b : Bool) (f : SummaryFlag) : (s.raiseIf b f).rbi = s.rbi := by cases b <;> rfl
@[simp] theorem State.raiseIf_orl (s : State) (b : Bool) (f : SummaryFlag) : (s.raiseIf b f).orl = s.orl := by cases b <;> rfl
@[simp] theorem State.raiseIf_lif (s : State) (b : Bool) (f : SummaryFlag) : (s.raiseIf b f).lif = s.lif := by cases b <;> rfl
@[simp] theorem State.raiseIf_pending (s : State) (b : Bool) (f : SummaryFlag) : (s.raiseIf b f).pending = s.pending := by cases b <;> rfl

@[simp] theorem State.addNotice_tickCount (s : State) (k : NoticeKind) : (s.addNotice k).tickCount = s.tickCount := by unfold State.addNotice; split <;> rfl
@[simp] theorem State.addNotice_supply (s : State) (k : NoticeKind) : (s.addNotice k).supply = s.supply := by unfold State.addNotice; split <;> rfl
@[simp] theorem State.addNotice_fmu (s : State) (k : NoticeKind) : (s.addNotice k).fmu = s.fmu := by unfold State.addNotice; split <;> rfl
@[simp] theorem State.addNotice_evt (s : State) (k : NoticeKind) : (s.addNotice k).evt = s.evt := by unfold State.addNotice; split <;> rfl
@[simp] theorem State.addNotice_dse (s : State) (k : NoticeKind) : (s.addNotice k).dse = s.dse := by unfold State.addNotice; split <;> rfl
@[simp] theorem State.addNotice_rotors (s : State) (k : NoticeKind) : (s.addNotice k).rotors = s.rotors := by unfold State.addNotice; split <;> rfl
@[simp] theorem State.addNotice_rsq (s : State) (k : NoticeKind) : (s.addNotice k).rsq = s.rsq := by unfold State.addNotice; split <;> rfl
@[simp] theorem State.addNotice_rbi (s : State) (k : NoticeKind) : (s.addNotice k).rbi = s.rbi := by unfold State.addNotice; split <;> rfl
@[simp] theorem State.addNotice_orl (s : State) (k : NoticeKind) : (s.addNotice k).orl = s.orl := by unfold State.addNotice; split <;> rfl
@[simp] theorem State.addNotice_stu (s : State) (k : NoticeKind) : (s.addNotice k).stu = s.stu := by unfold State.addNotice; split <;> rfl
@[simp] theorem State.addNotice_pending (s : State) (k : NoticeKind) : (s.addNotice k).pending = s.pending := by unfold State.addNotice; split <;> rfl

@[simp] theorem State.addNoticeIf_tickCount (s : State) (b : Bool) (k : NoticeKind) : (s.addNoticeIf b k).tickCount = s.tickCount := by cases b <;> simp [State.addNoticeIf]
@[simp] theorem State.addNoticeIf_supply (s : State) (b : Bool) (k : NoticeKind) : (s.addNoticeIf b k).supply = s.supply := by cases b <;> simp [State.addNoticeIf]
@[simp] theorem State.addNoticeIf_fmu (s : State) (b : Bool) (k : NoticeKind) : (s.addNoticeIf b k).fmu = s.fmu := by cases b <;> simp [State.addNoticeIf]
@[simp] theorem State.addNoticeIf_evt (s : State) (b : Bool) (k : NoticeKind) : (s.addNoticeIf b k).evt = s.evt := by cases b <;> simp [State.addNoticeIf]
@[simp] theorem State.addNoticeIf_dse (s : State) (b : Bool) (k : NoticeKind) : (s.addNoticeIf b k).dse = s.dse := by cases b <;> simp [State.addNoticeIf]
@[simp] theorem State.addNoticeIf_rotors (s : State) (b : Bool) (k : NoticeKind) : (s.addNoticeIf b k).rotors = s.rotors := by cases b <;> simp [State.addNoticeIf]
@[simp] theorem State.addNoticeIf_rsq (s : State) (b : Bool) (k : NoticeKind) : (s.addNoticeIf b k).rsq = s.rsq := by cases b <;> simp [State.addNoticeIf]
@[simp] theorem State.addNoticeIf_rbi (s : State) (b : Bool) (k : NoticeKind) : (s.addNoticeIf b k).rbi = s.rbi := by cases b <;> simp [State.addNoticeIf]
@[simp] theorem State.addNoticeIf_orl (s : State) (b : Bool) (k : NoticeKind) : (s.addNoticeIf b k).orl = s.orl := by cases b <;> simp [State.addNoticeIf]
@[simp] theorem State.addNoticeIf_stu (s : State) (b : Bool) (k : NoticeKind) : (s.addNoticeIf b k).stu = s.stu := by cases b <;> simp [State.addNoticeIf]
@[simp] theorem State.addNoticeIf_pending (s : State) (b : Bool) (k : NoticeKind) : (s.addNoticeIf b k).pending = s.pending := by cases b <;> simp [State.addNoticeIf]

@[simp] theorem State.noteRotor_tickCount (s : State) (i : Slot) : (s.noteRotor i).tickCount = s.tickCount := by unfold State.noteRotor; split <;> simp
@[simp] theorem State.noteRotor_supply (s : State) (i : Slot) : (s.noteRotor i).supply = s.supply := by unfold State.noteRotor; split <;> simp
@[simp] theorem State.noteRotor_fmu (s : State) (i : Slot) : (s.noteRotor i).fmu = s.fmu := by unfold State.noteRotor; split <;> simp
@[simp] theorem State.noteRotor_evt (s : State) (i : Slot) : (s.noteRotor i).evt = s.evt := by unfold State.noteRotor; split <;> simp
@[simp] theorem State.noteRotor_dse (s : State) (i : Slot) : (s.noteRotor i).dse = s.dse := by unfold State.noteRotor; split <;> simp
@[simp] theorem State.noteRotor_rotors (s : State) (i : Slot) : (s.noteRotor i).rotors = s.rotors := by unfold State.noteRotor; split <;> simp
@[simp] theorem State.noteRotor_rbi (s : State) (i : Slot) : (s.noteRotor i).rbi = s.rbi := by unfold State.noteRotor; split <;> simp
@[simp] theorem State.noteRotor_orl (s : State) (i : Slot) : (s.noteRotor i).orl = s.orl := by unfold State.noteRotor; split <;> simp
@[simp] theorem State.noteRotor_stu (s : State) (i : Slot) : (s.noteRotor i).stu = s.stu := by unfold State.noteRotor; split <;> simp
@[simp] theorem State.noteRotor_pending (s : State) (i : Slot) : (s.noteRotor i).pending = s.pending := by unfold State.noteRotor; split <;> simp

@[simp] theorem State.changeRotor_tickCount (s : State) (i : Slot) (st : RotorState) (c : Option RotorCause) : (s.changeRotor i st c).tickCount = s.tickCount := by simp [State.changeRotor]
@[simp] theorem State.changeRotor_supply (s : State) (i : Slot) (st : RotorState) (c : Option RotorCause) : (s.changeRotor i st c).supply = s.supply := by simp [State.changeRotor]
@[simp] theorem State.changeRotor_fmu (s : State) (i : Slot) (st : RotorState) (c : Option RotorCause) : (s.changeRotor i st c).fmu = s.fmu := by simp [State.changeRotor]
@[simp] theorem State.changeRotor_evt (s : State) (i : Slot) (st : RotorState) (c : Option RotorCause) : (s.changeRotor i st c).evt = s.evt := by simp [State.changeRotor]
@[simp] theorem State.changeRotor_dse (s : State) (i : Slot) (st : RotorState) (c : Option RotorCause) : (s.changeRotor i st c).dse = s.dse := by simp [State.changeRotor]
@[simp] theorem State.changeRotor_rbi (s : State) (i : Slot) (st : RotorState) (c : Option RotorCause) : (s.changeRotor i st c).rbi = s.rbi := by simp [State.changeRotor]
@[simp] theorem State.changeRotor_orl (s : State) (i : Slot) (st : RotorState) (c : Option RotorCause) : (s.changeRotor i st c).orl = s.orl := by simp [State.changeRotor]
@[simp] theorem State.changeRotor_stu (s : State) (i : Slot) (st : RotorState) (c : Option RotorCause) : (s.changeRotor i st c).stu = s.stu := by simp [State.changeRotor]
@[simp] theorem State.changeRotor_pending (s : State) (i : Slot) (st : RotorState) (c : Option RotorCause) : (s.changeRotor i st c).pending = s.pending := by simp [State.changeRotor]

@[simp] theorem State.leaveRoad_tickCount (s : State) (i : Slot) : (s.leaveRoad i).tickCount = s.tickCount := rfl
@[simp] theorem State.leaveRoad_supply (s : State) (i : Slot) : (s.leaveRoad i).supply = s.supply := rfl
@[simp] theorem State.leaveRoad_fmu (s : State) (i : Slot) : (s.leaveRoad i).fmu = s.fmu := rfl
@[simp] theorem State.leaveRoad_evt (s : State) (i : Slot) : (s.leaveRoad i).evt = s.evt := rfl
@[simp] theorem State.leaveRoad_dse (s : State) (i : Slot) : (s.leaveRoad i).dse = s.dse := rfl
@[simp] theorem State.leaveRoad_rotors (s : State) (i : Slot) : (s.leaveRoad i).rotors = s.rotors := rfl
@[simp] theorem State.leaveRoad_rbi (s : State) (i : Slot) : (s.leaveRoad i).rbi = s.rbi := rfl
@[simp] theorem State.leaveRoad_orl (s : State) (i : Slot) : (s.leaveRoad i).orl = s.orl := rfl
@[simp] theorem State.leaveRoad_lif (s : State) (i : Slot) : (s.leaveRoad i).lif = s.lif := rfl
@[simp] theorem State.leaveRoad_stu (s : State) (i : Slot) : (s.leaveRoad i).stu = s.stu := rfl
@[simp] theorem State.leaveRoad_pending (s : State) (i : Slot) : (s.leaveRoad i).pending = s.pending := rfl

@[simp] theorem State.setAttempts_tickCount (s : State) (i : Slot) (n : Nat) : (s.setAttempts i n).tickCount = s.tickCount := rfl
@[simp] theorem State.setAttempts_supply (s : State) (i : Slot) (n : Nat) : (s.setAttempts i n).supply = s.supply := rfl
@[simp] theorem State.setAttempts_fmu (s : State) (i : Slot) (n : Nat) : (s.setAttempts i n).fmu = s.fmu := rfl
@[simp] theorem State.setAttempts_evt (s : State) (i : Slot) (n : Nat) : (s.setAttempts i n).evt = s.evt := rfl
@[simp] theorem State.setAttempts_dse (s : State) (i : Slot) (n : Nat) : (s.setAttempts i n).dse = s.dse := rfl
@[simp] theorem State.setAttempts_rsq (s : State) (i : Slot) (n : Nat) : (s.setAttempts i n).rsq = s.rsq := rfl
@[simp] theorem State.setAttempts_rbi (s : State) (i : Slot) (n : Nat) : (s.setAttempts i n).rbi = s.rbi := rfl
@[simp] theorem State.setAttempts_orl (s : State) (i : Slot) (n : Nat) : (s.setAttempts i n).orl = s.orl := rfl
@[simp] theorem State.setAttempts_lif (s : State) (i : Slot) (n : Nat) : (s.setAttempts i n).lif = s.lif := rfl
@[simp] theorem State.setAttempts_stu (s : State) (i : Slot) (n : Nat) : (s.setAttempts i n).stu = s.stu := rfl
@[simp] theorem State.setAttempts_pending (s : State) (i : Slot) (n : Nat) : (s.setAttempts i n).pending = s.pending := rfl

@[simp] theorem State.admitHead_tickCount (s : State) (i : Slot) (rest : List Slot) : (s.admitHead i rest).tickCount = s.tickCount := by simp [State.admitHead]
@[simp] theorem State.admitHead_supply (s : State) (i : Slot) (rest : List Slot) : (s.admitHead i rest).supply = s.supply := by simp [State.admitHead]
@[simp] theorem State.admitHead_fmu (s : State) (i : Slot) (rest : List Slot) : (s.admitHead i rest).fmu = s.fmu := by simp [State.admitHead]
@[simp] theorem State.admitHead_evt (s : State) (i : Slot) (rest : List Slot) : (s.admitHead i rest).evt = s.evt := by simp [State.admitHead]
@[simp] theorem State.admitHead_dse (s : State) (i : Slot) (rest : List Slot) : (s.admitHead i rest).dse = s.dse := by simp [State.admitHead]
@[simp] theorem State.admitHead_rbi (s : State) (i : Slot) (rest : List Slot) : (s.admitHead i rest).rbi = s.rbi := by simp [State.admitHead]
@[simp] theorem State.admitHead_orl (s : State) (i : Slot) (rest : List Slot) : (s.admitHead i rest).orl = s.orl := by simp [State.admitHead]
@[simp] theorem State.admitHead_stu (s : State) (i : Slot) (rest : List Slot) : (s.admitHead i rest).stu = s.stu := by simp [State.admitHead]
@[simp] theorem State.admitHead_pending (s : State) (i : Slot) (rest : List Slot) : (s.admitHead i rest).pending = s.pending := by simp [State.admitHead]

@[simp] theorem State.handHead_tickCount (s : State) (i : Slot) (rest : List Slot) : (s.handHead i rest).tickCount = s.tickCount := by simp [State.handHead]
@[simp] theorem State.handHead_supply (s : State) (i : Slot) (rest : List Slot) : (s.handHead i rest).supply = s.supply := by simp [State.handHead]
@[simp] theorem State.handHead_fmu (s : State) (i : Slot) (rest : List Slot) : (s.handHead i rest).fmu = s.fmu := by simp [State.handHead]
@[simp] theorem State.handHead_evt (s : State) (i : Slot) (rest : List Slot) : (s.handHead i rest).evt = s.evt := by simp [State.handHead]
@[simp] theorem State.handHead_dse (s : State) (i : Slot) (rest : List Slot) : (s.handHead i rest).dse = s.dse := by simp [State.handHead]
@[simp] theorem State.handHead_rbi (s : State) (i : Slot) (rest : List Slot) : (s.handHead i rest).rbi = s.rbi := by simp [State.handHead]
@[simp] theorem State.handHead_orl (s : State) (i : Slot) (rest : List Slot) : (s.handHead i rest).orl = s.orl := by simp [State.handHead]
@[simp] theorem State.handHead_stu (s : State) (i : Slot) (rest : List Slot) : (s.handHead i rest).stu = s.stu := by simp [State.handHead]
@[simp] theorem State.handHead_pending (s : State) (i : Slot) (rest : List Slot) : (s.handHead i rest).pending = s.pending := by simp [State.handHead]

@[simp] theorem State.tripOnly_tickCount (s : State) (i : Slot) (c : RotorCause) : (s.tripOnly i c).tickCount = s.tickCount := by simp [State.tripOnly]
@[simp] theorem State.tripOnly_supply (s : State) (i : Slot) (c : RotorCause) : (s.tripOnly i c).supply = s.supply := by simp [State.tripOnly]
@[simp] theorem State.tripOnly_fmu (s : State) (i : Slot) (c : RotorCause) : (s.tripOnly i c).fmu = s.fmu := by simp [State.tripOnly]
@[simp] theorem State.tripOnly_evt (s : State) (i : Slot) (c : RotorCause) : (s.tripOnly i c).evt = s.evt := by simp [State.tripOnly]
@[simp] theorem State.tripOnly_dse (s : State) (i : Slot) (c : RotorCause) : (s.tripOnly i c).dse = s.dse := by simp [State.tripOnly]
@[simp] theorem State.tripOnly_rbi (s : State) (i : Slot) (c : RotorCause) : (s.tripOnly i c).rbi = s.rbi := by simp [State.tripOnly]
@[simp] theorem State.tripOnly_orl (s : State) (i : Slot) (c : RotorCause) : (s.tripOnly i c).orl = s.orl := by simp [State.tripOnly]
@[simp] theorem State.tripOnly_pending (s : State) (i : Slot) (c : RotorCause) : (s.tripOnly i c).pending = s.pending := by simp [State.tripOnly]

@[simp] theorem State.reviseOrders_tickCount (s : State) (f : Order → Order) : (s.reviseOrders f).tickCount = s.tickCount := by simp only [State.reviseOrders]; split <;> simp
@[simp] theorem State.reviseOrders_supply (s : State) (f : Order → Order) : (s.reviseOrders f).supply = s.supply := by simp only [State.reviseOrders]; split <;> simp
@[simp] theorem State.reviseOrders_fmu (s : State) (f : Order → Order) : (s.reviseOrders f).fmu = s.fmu := by simp only [State.reviseOrders]; split <;> simp
@[simp] theorem State.reviseOrders_evt (s : State) (f : Order → Order) : (s.reviseOrders f).evt = s.evt := by simp only [State.reviseOrders]; split <;> simp
@[simp] theorem State.reviseOrders_dse (s : State) (f : Order → Order) : (s.reviseOrders f).dse = s.dse := by simp only [State.reviseOrders]; split <;> simp
@[simp] theorem State.reviseOrders_rotors (s : State) (f : Order → Order) : (s.reviseOrders f).rotors = s.rotors := by simp only [State.reviseOrders]; split <;> simp
@[simp] theorem State.reviseOrders_rsq (s : State) (f : Order → Order) : (s.reviseOrders f).rsq = s.rsq := by simp only [State.reviseOrders]; split <;> simp
@[simp] theorem State.reviseOrders_rbi (s : State) (f : Order → Order) : (s.reviseOrders f).rbi = s.rbi := by simp only [State.reviseOrders]; split <;> simp
@[simp] theorem State.reviseOrders_stu (s : State) (f : Order → Order) : (s.reviseOrders f).stu = s.stu := by simp only [State.reviseOrders]; split <;> simp
@[simp] theorem State.reviseOrders_pending (s : State) (f : Order → Order) : (s.reviseOrders f).pending = s.pending := by simp only [State.reviseOrders]; split <;> simp

@[simp] theorem State.selectOrder_tickCount (s : State) (plant : Nat) : (s.selectOrder plant).tickCount = s.tickCount := by unfold State.selectOrder; split <;> (try split) <;> simp
@[simp] theorem State.selectOrder_supply (s : State) (plant : Nat) : (s.selectOrder plant).supply = s.supply := by unfold State.selectOrder; split <;> (try split) <;> simp
@[simp] theorem State.selectOrder_fmu (s : State) (plant : Nat) : (s.selectOrder plant).fmu = s.fmu := by unfold State.selectOrder; split <;> (try split) <;> simp
@[simp] theorem State.selectOrder_evt (s : State) (plant : Nat) : (s.selectOrder plant).evt = s.evt := by unfold State.selectOrder; split <;> (try split) <;> simp
@[simp] theorem State.selectOrder_dse (s : State) (plant : Nat) : (s.selectOrder plant).dse = s.dse := by unfold State.selectOrder; split <;> (try split) <;> simp
@[simp] theorem State.selectOrder_rotors (s : State) (plant : Nat) : (s.selectOrder plant).rotors = s.rotors := by unfold State.selectOrder; split <;> (try split) <;> simp
@[simp] theorem State.selectOrder_rsq (s : State) (plant : Nat) : (s.selectOrder plant).rsq = s.rsq := by unfold State.selectOrder; split <;> (try split) <;> simp
@[simp] theorem State.selectOrder_rbi (s : State) (plant : Nat) : (s.selectOrder plant).rbi = s.rbi := by unfold State.selectOrder; split <;> (try split) <;> simp
@[simp] theorem State.selectOrder_stu (s : State) (plant : Nat) : (s.selectOrder plant).stu = s.stu := by unfold State.selectOrder; split <;> (try split) <;> simp
@[simp] theorem State.selectOrder_pending (s : State) (plant : Nat) : (s.selectOrder plant).pending = s.pending := by unfold State.selectOrder; split <;> (try split) <;> simp

@[simp] theorem State.demandRequest_tickCount (s : State) (plant : Nat) : (s.demandRequest plant).tickCount = s.tickCount := by simp [State.demandRequest]
@[simp] theorem State.demandRequest_supply (s : State) (plant : Nat) : (s.demandRequest plant).supply = s.supply := by simp [State.demandRequest]
@[simp] theorem State.demandRequest_fmu (s : State) (plant : Nat) : (s.demandRequest plant).fmu = s.fmu := by simp [State.demandRequest]
@[simp] theorem State.demandRequest_evt (s : State) (plant : Nat) : (s.demandRequest plant).evt = s.evt := by simp [State.demandRequest]
@[simp] theorem State.demandRequest_dse (s : State) (plant : Nat) : (s.demandRequest plant).dse = s.dse := by simp [State.demandRequest]
@[simp] theorem State.demandRequest_rotors (s : State) (plant : Nat) : (s.demandRequest plant).rotors = s.rotors := by simp [State.demandRequest]
@[simp] theorem State.demandRequest_rsq (s : State) (plant : Nat) : (s.demandRequest plant).rsq = s.rsq := by simp [State.demandRequest]
@[simp] theorem State.demandRequest_rbi (s : State) (plant : Nat) : (s.demandRequest plant).rbi = s.rbi := by simp [State.demandRequest]
@[simp] theorem State.demandRequest_stu (s : State) (plant : Nat) : (s.demandRequest plant).stu = s.stu := by simp [State.demandRequest]
@[simp] theorem State.demandRequest_pending (s : State) (plant : Nat) : (s.demandRequest plant).pending = s.pending := by simp [State.demandRequest]

@[simp] theorem State.accountOrder_tickCount (s : State) (d : DispatchRecord) : (s.accountOrder d).tickCount = s.tickCount := by unfold State.accountOrder; split <;> simp
@[simp] theorem State.accountOrder_supply (s : State) (d : DispatchRecord) : (s.accountOrder d).supply = s.supply := by unfold State.accountOrder; split <;> simp
@[simp] theorem State.accountOrder_fmu (s : State) (d : DispatchRecord) : (s.accountOrder d).fmu = s.fmu := by unfold State.accountOrder; split <;> simp
@[simp] theorem State.accountOrder_evt (s : State) (d : DispatchRecord) : (s.accountOrder d).evt = s.evt := by unfold State.accountOrder; split <;> simp
@[simp] theorem State.accountOrder_dse (s : State) (d : DispatchRecord) : (s.accountOrder d).dse = s.dse := by unfold State.accountOrder; split <;> simp
@[simp] theorem State.accountOrder_rotors (s : State) (d : DispatchRecord) : (s.accountOrder d).rotors = s.rotors := by unfold State.accountOrder; split <;> simp
@[simp] theorem State.accountOrder_rsq (s : State) (d : DispatchRecord) : (s.accountOrder d).rsq = s.rsq := by unfold State.accountOrder; split <;> simp
@[simp] theorem State.accountOrder_rbi (s : State) (d : DispatchRecord) : (s.accountOrder d).rbi = s.rbi := by unfold State.accountOrder; split <;> simp
@[simp] theorem State.accountOrder_stu (s : State) (d : DispatchRecord) : (s.accountOrder d).stu = s.stu := by unfold State.accountOrder; split <;> simp
@[simp] theorem State.accountOrder_pending (s : State) (d : DispatchRecord) : (s.accountOrder d).pending = s.pending := by unfold State.accountOrder; split <;> simp

@[simp] theorem State.suspendForEvent_tickCount (s : State) : (s.suspendForEvent).tickCount = s.tickCount := by simp [State.suspendForEvent]
@[simp] theorem State.suspendForEvent_supply (s : State) : (s.suspendForEvent).supply = s.supply := by simp [State.suspendForEvent]
@[simp] theorem State.suspendForEvent_fmu (s : State) : (s.suspendForEvent).fmu = s.fmu := by simp [State.suspendForEvent]
@[simp] theorem State.suspendForEvent_evt (s : State) : (s.suspendForEvent).evt = s.evt := by simp [State.suspendForEvent]
@[simp] theorem State.suspendForEvent_dse (s : State) : (s.suspendForEvent).dse = s.dse := by simp [State.suspendForEvent]
@[simp] theorem State.suspendForEvent_rotors (s : State) : (s.suspendForEvent).rotors = s.rotors := by simp [State.suspendForEvent]
@[simp] theorem State.suspendForEvent_rsq (s : State) : (s.suspendForEvent).rsq = s.rsq := by simp [State.suspendForEvent]
@[simp] theorem State.suspendForEvent_rbi (s : State) : (s.suspendForEvent).rbi = s.rbi := by simp [State.suspendForEvent]
@[simp] theorem State.suspendForEvent_stu (s : State) : (s.suspendForEvent).stu = s.stu := by simp [State.suspendForEvent]
@[simp] theorem State.suspendForEvent_pending (s : State) : (s.suspendForEvent).pending = s.pending := by simp [State.suspendForEvent]

@[simp] theorem State.releaseEventOrders_tickCount (s : State) : (s.releaseEventOrders).tickCount = s.tickCount := by simp [State.releaseEventOrders]
@[simp] theorem State.releaseEventOrders_supply (s : State) : (s.releaseEventOrders).supply = s.supply := by simp [State.releaseEventOrders]
@[simp] theorem State.releaseEventOrders_fmu (s : State) : (s.releaseEventOrders).fmu = s.fmu := by simp [State.releaseEventOrders]
@[simp] theorem State.releaseEventOrders_evt (s : State) : (s.releaseEventOrders).evt = s.evt := by simp [State.releaseEventOrders]
@[simp] theorem State.releaseEventOrders_dse (s : State) : (s.releaseEventOrders).dse = s.dse := by simp [State.releaseEventOrders]
@[simp] theorem State.releaseEventOrders_rotors (s : State) : (s.releaseEventOrders).rotors = s.rotors := by simp [State.releaseEventOrders]
@[simp] theorem State.releaseEventOrders_rsq (s : State) : (s.releaseEventOrders).rsq = s.rsq := by simp [State.releaseEventOrders]
@[simp] theorem State.releaseEventOrders_rbi (s : State) : (s.releaseEventOrders).rbi = s.rbi := by simp [State.releaseEventOrders]
@[simp] theorem State.releaseEventOrders_stu (s : State) : (s.releaseEventOrders).stu = s.stu := by simp [State.releaseEventOrders]
@[simp] theorem State.releaseEventOrders_pending (s : State) : (s.releaseEventOrders).pending = s.pending := by simp [State.releaseEventOrders]

@[simp] theorem State.cancelAll_tickCount (s : State) (plant : Nat) : (s.cancelAll plant).tickCount = s.tickCount := by simp [State.cancelAll]
@[simp] theorem State.cancelAll_supply (s : State) (plant : Nat) : (s.cancelAll plant).supply = s.supply := by simp [State.cancelAll]
@[simp] theorem State.cancelAll_fmu (s : State) (plant : Nat) : (s.cancelAll plant).fmu = s.fmu := by simp [State.cancelAll]
@[simp] theorem State.cancelAll_evt (s : State) (plant : Nat) : (s.cancelAll plant).evt = s.evt := by simp [State.cancelAll]
@[simp] theorem State.cancelAll_dse (s : State) (plant : Nat) : (s.cancelAll plant).dse = s.dse := by simp [State.cancelAll]
@[simp] theorem State.cancelAll_rotors (s : State) (plant : Nat) : (s.cancelAll plant).rotors = s.rotors := by simp [State.cancelAll]
@[simp] theorem State.cancelAll_rsq (s : State) (plant : Nat) : (s.cancelAll plant).rsq = s.rsq := by simp [State.cancelAll]
@[simp] theorem State.cancelAll_rbi (s : State) (plant : Nat) : (s.cancelAll plant).rbi = s.rbi := by simp [State.cancelAll]
@[simp] theorem State.cancelAll_stu (s : State) (plant : Nat) : (s.cancelAll plant).stu = s.stu := by simp [State.cancelAll]
@[simp] theorem State.cancelAll_pending (s : State) (plant : Nat) : (s.cancelAll plant).pending = s.pending := by simp [State.cancelAll]

@[simp] theorem State.formReply_tickCount (s : State) (r : Request) (c : ResultCode) (b : List Byte) : (s.formReply r c b).tickCount = s.tickCount := rfl
@[simp] theorem State.formReply_supply (s : State) (r : Request) (c : ResultCode) (b : List Byte) : (s.formReply r c b).supply = s.supply := rfl
@[simp] theorem State.formReply_fmu (s : State) (r : Request) (c : ResultCode) (b : List Byte) : (s.formReply r c b).fmu = s.fmu := rfl
@[simp] theorem State.formReply_evt (s : State) (r : Request) (c : ResultCode) (b : List Byte) : (s.formReply r c b).evt = s.evt := rfl
@[simp] theorem State.formReply_dse (s : State) (r : Request) (c : ResultCode) (b : List Byte) : (s.formReply r c b).dse = s.dse := rfl
@[simp] theorem State.formReply_rotors (s : State) (r : Request) (c : ResultCode) (b : List Byte) : (s.formReply r c b).rotors = s.rotors := rfl
@[simp] theorem State.formReply_rsq (s : State) (r : Request) (c : ResultCode) (b : List Byte) : (s.formReply r c b).rsq = s.rsq := rfl
@[simp] theorem State.formReply_rbi (s : State) (r : Request) (c : ResultCode) (b : List Byte) : (s.formReply r c b).rbi = s.rbi := rfl
@[simp] theorem State.formReply_orl (s : State) (r : Request) (c : ResultCode) (b : List Byte) : (s.formReply r c b).orl = s.orl := rfl
@[simp] theorem State.formReply_stu (s : State) (r : Request) (c : ResultCode) (b : List Byte) : (s.formReply r c b).stu = s.stu := rfl
@[simp] theorem State.formReply_pending (s : State) (r : Request) (c : ResultCode) (b : List Byte) : (s.formReply r c b).pending = s.pending := rfl

@[simp] theorem State.countThroughput_tickCount (s : State) (d : DispatchRecord) : (s.countThroughput d).tickCount = s.tickCount := by simp [State.countThroughput]
@[simp] theorem State.countThroughput_supply (s : State) (d : DispatchRecord) : (s.countThroughput d).supply = s.supply := by simp [State.countThroughput]
@[simp] theorem State.countThroughput_fmu (s : State) (d : DispatchRecord) : (s.countThroughput d).fmu = s.fmu := by simp [State.countThroughput]
@[simp] theorem State.countThroughput_evt (s : State) (d : DispatchRecord) : (s.countThroughput d).evt = s.evt := by simp [State.countThroughput]
@[simp] theorem State.countThroughput_dse (s : State) (d : DispatchRecord) : (s.countThroughput d).dse = s.dse := by simp [State.countThroughput]
@[simp] theorem State.countThroughput_rsq (s : State) (d : DispatchRecord) : (s.countThroughput d).rsq = s.rsq := by simp [State.countThroughput]
@[simp] theorem State.countThroughput_rbi (s : State) (d : DispatchRecord) : (s.countThroughput d).rbi = s.rbi := by simp [State.countThroughput]
@[simp] theorem State.countThroughput_orl (s : State) (d : DispatchRecord) : (s.countThroughput d).orl = s.orl := by simp [State.countThroughput]
@[simp] theorem State.countThroughput_lif (s : State) (d : DispatchRecord) : (s.countThroughput d).lif = s.lif := by simp [State.countThroughput]
@[simp] theorem State.countThroughput_pending (s : State) (d : DispatchRecord) : (s.countThroughput d).pending = s.pending := by simp [State.countThroughput]

@[simp] theorem State.countEvent_tickCount (s : State) (d : DispatchRecord) : (s.countEvent d).tickCount = s.tickCount := rfl
@[simp] theorem State.countEvent_supply (s : State) (d : DispatchRecord) : (s.countEvent d).supply = s.supply := rfl
@[simp] theorem State.countEvent_fmu (s : State) (d : DispatchRecord) : (s.countEvent d).fmu = s.fmu := rfl
@[simp] theorem State.countEvent_dse (s : State) (d : DispatchRecord) : (s.countEvent d).dse = s.dse := rfl
@[simp] theorem State.countEvent_rotors (s : State) (d : DispatchRecord) : (s.countEvent d).rotors = s.rotors := rfl
@[simp] theorem State.countEvent_rsq (s : State) (d : DispatchRecord) : (s.countEvent d).rsq = s.rsq := rfl
@[simp] theorem State.countEvent_rbi (s : State) (d : DispatchRecord) : (s.countEvent d).rbi = s.rbi := rfl
@[simp] theorem State.countEvent_orl (s : State) (d : DispatchRecord) : (s.countEvent d).orl = s.orl := rfl
@[simp] theorem State.countEvent_lif (s : State) (d : DispatchRecord) : (s.countEvent d).lif = s.lif := rfl
@[simp] theorem State.countEvent_stu (s : State) (d : DispatchRecord) : (s.countEvent d).stu = s.stu := rfl
@[simp] theorem State.countEvent_pending (s : State) (d : DispatchRecord) : (s.countEvent d).pending = s.pending := rfl

@[simp] theorem State.beginRound_tickCount (s : State) (v : Vector Int 16) : (s.beginRound v).tickCount = s.tickCount := rfl
@[simp] theorem State.beginRound_supply (s : State) (v : Vector Int 16) : (s.beginRound v).supply = s.supply := rfl
@[simp] theorem State.beginRound_fmu (s : State) (v : Vector Int 16) : (s.beginRound v).fmu = s.fmu := rfl
@[simp] theorem State.beginRound_evt (s : State) (v : Vector Int 16) : (s.beginRound v).evt = s.evt := rfl
@[simp] theorem State.beginRound_dse (s : State) (v : Vector Int 16) : (s.beginRound v).dse = s.dse := rfl
@[simp] theorem State.beginRound_rotors (s : State) (v : Vector Int 16) : (s.beginRound v).rotors = s.rotors := rfl
@[simp] theorem State.beginRound_rsq (s : State) (v : Vector Int 16) : (s.beginRound v).rsq = s.rsq := rfl
@[simp] theorem State.beginRound_orl (s : State) (v : Vector Int 16) : (s.beginRound v).orl = s.orl := rfl
@[simp] theorem State.beginRound_lif (s : State) (v : Vector Int 16) : (s.beginRound v).lif = s.lif := rfl
@[simp] theorem State.beginRound_stu (s : State) (v : Vector Int 16) : (s.beginRound v).stu = s.stu := rfl
@[simp] theorem State.beginRound_pending (s : State) (v : Vector Int 16) : (s.beginRound v).pending = s.pending := rfl

@[simp] theorem State.takeSetpoints_tickCount (s : State) (d : DispatchRecord) : (s.takeSetpoints d).tickCount = s.tickCount := by unfold State.takeSetpoints; split <;> simp
@[simp] theorem State.takeSetpoints_supply (s : State) (d : DispatchRecord) : (s.takeSetpoints d).supply = s.supply := by unfold State.takeSetpoints; split <;> simp
@[simp] theorem State.takeSetpoints_fmu (s : State) (d : DispatchRecord) : (s.takeSetpoints d).fmu = s.fmu := by unfold State.takeSetpoints; split <;> simp
@[simp] theorem State.takeSetpoints_evt (s : State) (d : DispatchRecord) : (s.takeSetpoints d).evt = s.evt := by unfold State.takeSetpoints; split <;> simp
@[simp] theorem State.takeSetpoints_dse (s : State) (d : DispatchRecord) : (s.takeSetpoints d).dse = s.dse := by unfold State.takeSetpoints; split <;> simp
@[simp] theorem State.takeSetpoints_rotors (s : State) (d : DispatchRecord) : (s.takeSetpoints d).rotors = s.rotors := by unfold State.takeSetpoints; split <;> simp
@[simp] theorem State.takeSetpoints_rsq (s : State) (d : DispatchRecord) : (s.takeSetpoints d).rsq = s.rsq := by unfold State.takeSetpoints; split <;> simp
@[simp] theorem State.takeSetpoints_orl (s : State) (d : DispatchRecord) : (s.takeSetpoints d).orl = s.orl := by unfold State.takeSetpoints; split <;> simp
@[simp] theorem State.takeSetpoints_lif (s : State) (d : DispatchRecord) : (s.takeSetpoints d).lif = s.lif := by unfold State.takeSetpoints; split <;> simp
@[simp] theorem State.takeSetpoints_stu (s : State) (d : DispatchRecord) : (s.takeSetpoints d).stu = s.stu := by unfold State.takeSetpoints; split <;> simp
@[simp] theorem State.takeSetpoints_pending (s : State) (d : DispatchRecord) : (s.takeSetpoints d).pending = s.pending := by unfold State.takeSetpoints; split <;> simp

@[simp] theorem State.endRound_tickCount (s : State) : (s.endRound).tickCount = s.tickCount := by unfold State.endRound; split <;> simp
@[simp] theorem State.endRound_supply (s : State) : (s.endRound).supply = s.supply := by unfold State.endRound; split <;> simp
@[simp] theorem State.endRound_fmu (s : State) : (s.endRound).fmu = s.fmu := by unfold State.endRound; split <;> simp
@[simp] theorem State.endRound_evt (s : State) : (s.endRound).evt = s.evt := by unfold State.endRound; split <;> simp
@[simp] theorem State.endRound_dse (s : State) : (s.endRound).dse = s.dse := by unfold State.endRound; split <;> simp
@[simp] theorem State.endRound_rotors (s : State) : (s.endRound).rotors = s.rotors := by unfold State.endRound; split <;> simp
@[simp] theorem State.endRound_rsq (s : State) : (s.endRound).rsq = s.rsq := by unfold State.endRound; split <;> simp
@[simp] theorem State.endRound_orl (s : State) : (s.endRound).orl = s.orl := by unfold State.endRound; split <;> simp
@[simp] theorem State.endRound_lif (s : State) : (s.endRound).lif = s.lif := by unfold State.endRound; split <;> simp
@[simp] theorem State.endRound_stu (s : State) : (s.endRound).stu = s.stu := by unfold State.endRound; split <;> simp
@[simp] theorem State.endRound_pending (s : State) : (s.endRound).pending = s.pending := by unfold State.endRound; split <;> simp

@[simp] theorem State.continueRound_tickCount (s : State) : (s.continueRound).tickCount = s.tickCount := by unfold State.continueRound; split <;> (try split) <;> simp
@[simp] theorem State.continueRound_supply (s : State) : (s.continueRound).supply = s.supply := by unfold State.continueRound; split <;> (try split) <;> simp
@[simp] theorem State.continueRound_fmu (s : State) : (s.continueRound).fmu = s.fmu := by unfold State.continueRound; split <;> (try split) <;> simp
@[simp] theorem State.continueRound_evt (s : State) : (s.continueRound).evt = s.evt := by unfold State.continueRound; split <;> (try split) <;> simp
@[simp] theorem State.continueRound_dse (s : State) : (s.continueRound).dse = s.dse := by unfold State.continueRound; split <;> (try split) <;> simp
@[simp] theorem State.continueRound_rotors (s : State) : (s.continueRound).rotors = s.rotors := by unfold State.continueRound; split <;> (try split) <;> simp
@[simp] theorem State.continueRound_rsq (s : State) : (s.continueRound).rsq = s.rsq := by unfold State.continueRound; split <;> (try split) <;> simp
@[simp] theorem State.continueRound_orl (s : State) : (s.continueRound).orl = s.orl := by unfold State.continueRound; split <;> (try split) <;> simp
@[simp] theorem State.continueRound_lif (s : State) : (s.continueRound).lif = s.lif := by unfold State.continueRound; split <;> (try split) <;> simp
@[simp] theorem State.continueRound_stu (s : State) : (s.continueRound).stu = s.stu := by unfold State.continueRound; split <;> (try split) <;> simp
@[simp] theorem State.continueRound_pending (s : State) : (s.continueRound).pending = s.pending := by unfold State.continueRound; split <;> (try split) <;> simp

@[simp] theorem State.sendPoll_tickCount (s : State) (i : Slot) (c : PollCommand) (v : Int) : (s.sendPoll i c v).tickCount = s.tickCount := rfl
@[simp] theorem State.sendPoll_supply (s : State) (i : Slot) (c : PollCommand) (v : Int) : (s.sendPoll i c v).supply = s.supply := rfl
@[simp] theorem State.sendPoll_fmu (s : State) (i : Slot) (c : PollCommand) (v : Int) : (s.sendPoll i c v).fmu = s.fmu := rfl
@[simp] theorem State.sendPoll_evt (s : State) (i : Slot) (c : PollCommand) (v : Int) : (s.sendPoll i c v).evt = s.evt := rfl
@[simp] theorem State.sendPoll_dse (s : State) (i : Slot) (c : PollCommand) (v : Int) : (s.sendPoll i c v).dse = s.dse := rfl
@[simp] theorem State.sendPoll_rotors (s : State) (i : Slot) (c : PollCommand) (v : Int) : (s.sendPoll i c v).rotors = s.rotors := rfl
@[simp] theorem State.sendPoll_rsq (s : State) (i : Slot) (c : PollCommand) (v : Int) : (s.sendPoll i c v).rsq = s.rsq := rfl
@[simp] theorem State.sendPoll_orl (s : State) (i : Slot) (c : PollCommand) (v : Int) : (s.sendPoll i c v).orl = s.orl := rfl
@[simp] theorem State.sendPoll_lif (s : State) (i : Slot) (c : PollCommand) (v : Int) : (s.sendPoll i c v).lif = s.lif := rfl
@[simp] theorem State.sendPoll_stu (s : State) (i : Slot) (c : PollCommand) (v : Int) : (s.sendPoll i c v).stu = s.stu := rfl
@[simp] theorem State.sendPoll_pending (s : State) (i : Slot) (c : PollCommand) (v : Int) : (s.sendPoll i c v).pending = s.pending := rfl

@[simp] theorem State.openEvent_tickCount (s : State) (e : HostMode) (t : Tick) (df rocof : Int) (c : Triggers) : (s.openEvent e t df rocof c).tickCount = s.tickCount := by simp [State.openEvent]
@[simp] theorem State.openEvent_supply (s : State) (e : HostMode) (t : Tick) (df rocof : Int) (c : Triggers) : (s.openEvent e t df rocof c).supply = s.supply := by simp [State.openEvent]
@[simp] theorem State.openEvent_fmu (s : State) (e : HostMode) (t : Tick) (df rocof : Int) (c : Triggers) : (s.openEvent e t df rocof c).fmu = s.fmu := by simp [State.openEvent]
@[simp] theorem State.openEvent_dse (s : State) (e : HostMode) (t : Tick) (df rocof : Int) (c : Triggers) : (s.openEvent e t df rocof c).dse = s.dse := by simp [State.openEvent]
@[simp] theorem State.openEvent_rotors (s : State) (e : HostMode) (t : Tick) (df rocof : Int) (c : Triggers) : (s.openEvent e t df rocof c).rotors = s.rotors := by simp [State.openEvent]
@[simp] theorem State.openEvent_rsq (s : State) (e : HostMode) (t : Tick) (df rocof : Int) (c : Triggers) : (s.openEvent e t df rocof c).rsq = s.rsq := by simp [State.openEvent]
@[simp] theorem State.openEvent_rbi (s : State) (e : HostMode) (t : Tick) (df rocof : Int) (c : Triggers) : (s.openEvent e t df rocof c).rbi = s.rbi := by simp [State.openEvent]
@[simp] theorem State.openEvent_stu (s : State) (e : HostMode) (t : Tick) (df rocof : Int) (c : Triggers) : (s.openEvent e t df rocof c).stu = s.stu := by simp [State.openEvent]
@[simp] theorem State.openEvent_pending (s : State) (e : HostMode) (t : Tick) (df rocof : Int) (c : Triggers) : (s.openEvent e t df rocof c).pending = s.pending := by simp [State.openEvent]

@[simp] theorem State.endEvent_tickCount (s : State) (c : EventEnd) (plant : Nat) : (s.endEvent c plant).tickCount = s.tickCount := by simp [State.endEvent]
@[simp] theorem State.endEvent_supply (s : State) (c : EventEnd) (plant : Nat) : (s.endEvent c plant).supply = s.supply := by simp [State.endEvent]
@[simp] theorem State.endEvent_fmu (s : State) (c : EventEnd) (plant : Nat) : (s.endEvent c plant).fmu = s.fmu := by simp [State.endEvent]
@[simp] theorem State.endEvent_rotors (s : State) (c : EventEnd) (plant : Nat) : (s.endEvent c plant).rotors = s.rotors := by simp [State.endEvent]
@[simp] theorem State.endEvent_rsq (s : State) (c : EventEnd) (plant : Nat) : (s.endEvent c plant).rsq = s.rsq := by simp [State.endEvent]
@[simp] theorem State.endEvent_rbi (s : State) (c : EventEnd) (plant : Nat) : (s.endEvent c plant).rbi = s.rbi := by simp [State.endEvent]
@[simp] theorem State.endEvent_stu (s : State) (c : EventEnd) (plant : Nat) : (s.endEvent c plant).stu = s.stu := by simp [State.endEvent]
@[simp] theorem State.endEvent_pending (s : State) (c : EventEnd) (plant : Nat) : (s.endEvent c plant).pending = s.pending := by simp [State.endEvent]

end Sys2Proof.Machine
end

