-- ==== Sys2Proof/Laws/Operations.lean ====
section
/-! SUPPORT. What the shared operations do to what they write: clamps, byte fields, lists, notices and flags, rotor records,
the queues and timers of the RSQ, admission and hand-over, the order list, energy counting. The frames are in
Laws/Frames.lean. -/

namespace Sys2Proof.Machine

/-! ## Clamps and fields -/

theorem clampNat_lower {lo hi v : Nat} : lo ≤ clampNat lo hi v := Nat.le_max_left _ _
theorem clampNat_upper {lo hi v : Nat} (h : lo ≤ hi) : clampNat lo hi v ≤ hi :=
  Nat.max_le.mpr ⟨h, Nat.min_le_left _ _⟩
theorem clampInt_lower {lo hi v : Int} : lo ≤ clampInt lo hi v := Int.le_max_left _ _
theorem clampInt_upper {lo hi v : Int} (h : lo ≤ hi) : clampInt lo hi v ≤ hi :=
  Int.max_le.mpr ⟨h, Int.min_le_left _ _⟩
/-- A value within the range is its own clamp. -/
theorem clampInt_within {lo hi v : Int} (h : lo ≤ v) (h' : v ≤ hi) : clampInt lo hi v = v := by
  simp only [clampInt]; omega
/-- A value within the range is its own clamp. -/
theorem clampNat_within {lo hi v : Nat} (h : lo ≤ v) (h' : v ≤ hi) : clampNat lo hi v = v := by
  simp only [clampNat]; omega

@[simp] theorem beBytes_length (n v : Nat) : (beBytes n v).length = n := by
  induction n with
  | zero => rfl
  | succ n ih => simp [beBytes, ih]
@[simp] theorem beIntBytes_length (n : Nat) (v : Int) : (beIntBytes n v).length = n := beBytes_length _ _
@[simp] theorem crcBytes_length (bytes : List Byte) : (crcBytes bytes).length = 2 := beBytes_length _ _
theorem linkFrame_length (kind tag : Byte) (payload : List Byte) :
    (linkFrame kind tag payload).length = payload.length + 6 := by
  simp [linkFrame]

/-- The largest number that bytes carry. -/
theorem beNat_append (bytes : List Byte) (b : Byte) : beNat (bytes ++ [b]) = beNat bytes * 256 + b.toNat := by
  simp [beNat]
/-- What n bytes carry is below 256^n (R189). -/
theorem beNat_lt (bytes : List Byte) : beNat bytes < 256 ^ bytes.length := by
  induction bytes using List.reverseRecOn with
  | nil => decide
  | append_singleton l b ih =>
    rw [beNat_append, List.length_append, List.length_singleton, Nat.pow_succ]
    have := b.isLt
    omega
/-- A field of n bytes is below 256^n (R189). -/
theorem field_lt (p : List Byte) (offset len : Nat) : field p offset len < 256 ^ len :=
  Nat.lt_of_lt_of_le (beNat_lt _) (Nat.pow_le_pow_right (by decide) (by simp))

/-! ## Lists -/

/-- What an ascending insertion holds. -/
theorem mem_insertAscending (i j : Slot) (l : List Slot) : j ∈ insertAscending i l ↔ j = i ∨ j ∈ l := by
  induction l with
  | nil => simp [insertAscending]
  | cons k rest ih =>
    simp only [insertAscending]
    split
    · simp
    · split
      · next h => subst h; simp
      · simp only [List.mem_cons, ih]; tauto

/-- Only the last entry is changed. -/
theorem mapLast_append {α : Type} (f : α → α) (l : List α) (x : α) : mapLast f (l ++ [x]) = l ++ [f x] := by
  induction l with
  | nil => rfl
  | cons a l ih =>
    cases l with
    | nil => rfl
    | cons b l => simpa [mapLast] using ih

/-- The newest entries of the list with the new one behind it (R4, R13). -/
theorem appendNewest_eq {α : Type} (cap : Nat) (l : List α) (x : α) :
    appendNewest cap l x = (l ++ [x]).drop ((l ++ [x]).length - cap) := by simp [appendNewest]

/-- At most cap entries are kept, the newest the one appended. -/
theorem appendNewest_length {α : Type} (cap : Nat) (l : List α) (x : α) :
    (appendNewest cap l x).length = min (l.length + 1) cap := by
  simp [appendNewest]; omega

theorem mem_appendNewest {α : Type} {cap : Nat} {l : List α} {x y : α} (h : y ∈ appendNewest cap l x) :
    y ∈ l ∨ y = x := by
  simpa using List.mem_of_mem_drop h

theorem mem_insertIds (ids set : List Nat) (i : Nat) : i ∈ insertIds ids set ↔ i ∈ set ∨ i ∈ ids := by
  unfold insertIds
  induction ids generalizing set with
  | nil => simp
  | cons a ids ih =>
    simp only [List.foldl_cons, ih, List.mem_cons]
    split
    · next h =>
      have : a ∈ set := by simpa using h
      constructor
      · tauto
      · rintro (h | rfl | h) <;> tauto
    · simp only [List.mem_append, List.mem_singleton]; tauto

theorem insertIds_nodup (ids set : List Nat) (h : set.Nodup) : (insertIds ids set).Nodup := by
  induction ids generalizing set with
  | nil => exact h
  | cons a rest ih =>
    refine ih _ ?_
    by_cases ha : a ∈ set
    · simpa [ha] using h
    · simp [ha, List.nodup_append, h]
      exact fun b hb e => ha (e ▸ hb)

theorem mem_allSlots (i : Slot) : i ∈ allSlots := List.mem_finRange i

/-! ## Notices (R172) -/

@[simp] theorem NoticeSet.has_put (n : NoticeSet) (b : Bool) (k j : NoticeKind) :
    (n.put b k).has j = if j = k then b else n.has j := by
  cases k <;> cases j <;> rfl
@[simp] theorem NoticeSet.has_inter (a b : NoticeSet) (k : NoticeKind) : (a.inter b).has k = (a.has k && b.has k) := by
  cases k <;> rfl

/-- Adding a notice adds that kind, if it is enabled, and no other. -/
theorem State.addNotice_has (s : State) (k j : NoticeKind) :
    (s.addNotice k).lif.pendingNotices.has j =
      (s.lif.pendingNotices.has j || (decide (j = k) && s.lif.mask.has k)) := by
  unfold State.addNotice
  split
  · next h => by_cases hj : j = k <;> simp [hj, h]
  · next h => simp [h]

/-- Adding a notice writes nothing of the LIF but the pending set. -/
theorem State.addNotice_lif (s : State) (k : NoticeKind) :
    (s.addNotice k).lif = { s.lif with pendingNotices := (s.addNotice k).lif.pendingNotices } := by
  unfold State.addNotice; split <;> rfl

/-! ## Rotor records -/

/-- Two states with the same rotor records. -/
theorem State.rotor_congr {s t : State} (h : s.rotors = t.rotors) (i : Slot) : s.rotor i = t.rotor i := by
  simp [State.rotor, h]

theorem setSlot_get {α : Type} (v : Vector α 16) (i j : Slot) (x : α) :
    (setSlot v i x)[j] = if j = i then x else v[j] := by
  simp only [setSlot, Fin.getElem_fin, Vector.getElem_set]
  by_cases h : j = i
  · simp [h]
  · have : i.val ≠ j.val := fun e => h (Fin.ext e.symm)
    simp [h, this]

theorem State.rotor_setRotor (s : State) (i j : Slot) (r : RotorRecord) :
    (s.setRotor i r).rotor j = if j = i then r else s.rotor j := setSlot_get _ _ _ _
@[simp] theorem State.rotor_setRotor_self (s : State) (i : Slot) (r : RotorRecord) : (s.setRotor i r).rotor i = r := by
  simp [State.rotor_setRotor]
theorem State.rotor_setRotor_ne (s : State) {i j : Slot} (h : j ≠ i) (r : RotorRecord) :
    (s.setRotor i r).rotor j = s.rotor j := by
  simp [State.rotor_setRotor, h]

theorem State.rotor_mapRotors (s : State) (f : Slot → RotorRecord → RotorRecord) (i : Slot) :
    (s.mapRotors f).rotor i = f i (s.rotor i) := by
  simp [State.rotor, State.mapRotors, State.withRotors]

theorem State.mem_accelerating (s : State) (i : Slot) : i ∈ s.accelerating ↔ (s.rotor i).state = .accelerating := by
  simp [State.accelerating, mem_allSlots]

/-- A change of a slot's state writes that slot's state and cause. -/
theorem State.rotor_changeRotor (s : State) (i j : Slot) (st : RotorState) (cause : Option RotorCause) :
    (s.changeRotor i st cause).rotor j =
      if j = i then { s.rotor i with state := st, cause := cause.or (s.rotor i).cause } else s.rotor j := by
  have h : (s.changeRotor i st cause).rotor j =
      (s.setRotor i { s.rotor i with
        state := st, cause := match cause with | none => (s.rotor i).cause | some c => some c }).rotor j :=
    State.rotor_congr (State.noteRotor_rotors _ _) j
  rw [h, State.rotor_setRotor]
  cases cause <;> rfl

/-- A noted slot joins the change set while the kind is enabled, and no other does (R144). -/
theorem State.mem_noteRotor (s : State) (i j : Slot) :
    j ∈ (s.noteRotor i).rsq.changed ↔ j ∈ s.rsq.changed ∨ (s.lif.mask.rotor = true ∧ j = i) := by
  unfold State.noteRotor
  by_cases h : s.lif.mask.rotor = true
  · simp [NoticeSet.has, h, mem_insertAscending]; tauto
  · simp [NoticeSet.has, h]

/-! ## Queues, unit and timers -/

theorem Rsq.timer_setTimer (q : Rsq) (i j : Slot) (t : Option Tick) :
    (q.setTimer i t).timer j = if j = i then t else q.timer j := setSlot_get _ _ _ _

/-- A slot that leaves the road is in neither queue, not with the unit, its timer stopped; nothing changes for others. -/
theorem Rsq.leave_spec (q : Rsq) (i : Slot) :
    (∀ j, j ∈ (q.leave i).spinUpQueue ↔ j ∈ q.spinUpQueue ∧ j ≠ i) ∧
      (∀ j, j ∈ (q.leave i).syncQueue ↔ j ∈ q.syncQueue ∧ j ≠ i) ∧
      (∀ j, (q.leave i).syncUnit = some j ↔ q.syncUnit = some j ∧ j ≠ i) ∧
      (∀ j, (q.leave i).timer j = if j = i then none else q.timer j) ∧ (q.leave i).changed = q.changed := by
  refine ⟨fun j => by simp [Rsq.leave], fun j => by simp [Rsq.leave], fun j => ?_,
    fun j => Rsq.timer_setTimer q i j none, rfl⟩
  simp only [Rsq.leave]
  split
  · next h => simp only [h, Option.some.injEq]; constructor
              · intro h; cases h
              · rintro ⟨rfl, h⟩; exact absurd rfl h
  · next h => constructor
              · intro e; exact ⟨e, fun hj => h (hj ▸ e)⟩
              · exact fun e => e.1

/-- Admission: with no rotor waiting or no slot free nothing happens; otherwise the head is admitted and it goes on
(R130). -/
theorem State.admit_cases (n : Nat) (s : State) :
    (State.admitAll n s = s) ∨
      ∃ m i rest, n = m + 1 ∧ s.rsq.spinUpQueue = i :: rest ∧ s.accelerating.length < 4 ∧
        State.admitAll n s = State.admitAll m (s.admitHead i rest) := by
  cases n with
  | zero => exact .inl rfl
  | succ m =>
    cases h : s.rsq.spinUpQueue with
    | nil => exact .inl (by simp [State.admitAll, h])
    | cons i rest =>
      by_cases hl : s.accelerating.length < 4
      · exact .inr ⟨m, i, rest, rfl, rfl, hl, by simp [State.admitAll, h, spinUpSlots, hl]⟩
      · exact .inl (by simp [State.admitAll, h, spinUpSlots, hl])

/-- Hand-over: a free unit takes the head of the sync queue, and nothing else happens (R133). -/
theorem State.handOver_cases (s : State) :
    (s.handOver = s ∧ (s.rsq.syncUnit ≠ none ∨ s.rsq.syncQueue = [])) ∨
      ∃ i rest, s.rsq.syncUnit = none ∧ s.rsq.syncQueue = i :: rest ∧ s.handOver = s.handHead i rest := by
  unfold State.handOver
  cases hu : s.rsq.syncUnit with
  | some j => exact .inl (by simp)
  | none =>
    cases hq : s.rsq.syncQueue with
    | nil => exact .inl (by simp)
    | cons i rest => exact .inr ⟨i, rest, rfl, rfl, rfl⟩

/-- The head admitted is ACCELERATING with its timer running; no other record is written (R130). -/
theorem State.rotor_admitHead (s : State) (i j : Slot) (rest : List Slot) :
    (s.admitHead i rest).rotor j = if j = i then { s.rotor i with state := .accelerating } else s.rotor j := by
  unfold State.admitHead
  rw [State.rotor_changeRotor]
  rfl

/-- The head handed the unit is SYNCING with one more attempt; no other record is written (R133). -/
theorem State.rotor_handHead (s : State) (i j : Slot) (rest : List Slot) :
    (s.handHead i rest).rotor j =
      if j = i then { s.rotor i with state := .syncing, attempts := (s.rotor i).attempts + 1 } else s.rotor j := by
  unfold State.handHead
  rw [State.rotor_changeRotor]
  split
  · simp only [State.setAttempts, State.rotor_setRotor_self]; rfl
  · next h => simp only [State.setAttempts, State.rotor_setRotor_ne _ h]; rfl

/-! ## The order list -/

/-- Every record of the list is revised, whatever the ORDER CHANGE set does (R114). -/
@[simp] theorem State.reviseOrders_orders (s : State) (f : Order → Order) :
    (s.reviseOrders f).orl.orders = s.orl.orders.map f := by
  unfold State.reviseOrders
  dsimp only
  split <;> simp

/-- The ids that a revision brings to the ORDER CHANGE set (R114). -/
theorem State.mem_reviseOrders_changed (s : State) (f : Order → Order) (i : Nat) :
    i ∈ (s.reviseOrders f).orl.changed ↔
      i ∈ s.orl.changed ∨ (s.lif.mask.order = true ∧ ∃ o ∈ s.orl.orders, enteredId o (f o) = some i) := by
  unfold State.reviseOrders
  dsimp only
  by_cases hm : s.lif.mask.order = true
  · cases hids : s.orl.orders.filterMap fun o => enteredId o (f o) with
    | nil =>
      have : ∀ o ∈ s.orl.orders, enteredId o (f o) = none := by simpa [List.filterMap_eq_nil_iff] using hids
      simp only [NoticeSet.has, hm, List.isEmpty_nil, Bool.not_true, Bool.and_false, Bool.false_eq_true, if_false,
        State.withOrl_orl, true_and]
      constructor
      · exact .inl
      · rintro (h | ⟨o, ho, he⟩)
        · exact h
        · rw [this o ho] at he; cases he
    | cons a l =>
      simp only [NoticeSet.has, hm, List.isEmpty_cons, Bool.not_false, Bool.and_true, if_true, State.addNotice_orl,
        State.withOrl_orl, mem_insertIds, true_and]
      rw [← hids, List.mem_filterMap]
  · simp [NoticeSet.has, hm]

/-! ## The rotor bus (R147, R152, R156, R199) -/

/-- A dispatch result at the RBI begins a round, or becomes the pending result (R147). -/
theorem State.takeSetpoints_cases (s : State) (d : DispatchRecord) :
    (s.rbi.round = none ∧ s.takeSetpoints d = s.beginRound d.setpoints) ∨
      (s.rbi.round ≠ none ∧ s.takeSetpoints d = s.withRbi { s.rbi with pendingResult := some d.setpoints }) := by
  unfold State.takeSetpoints
  split <;> simp_all

/-- Bytes on the bus leave a frame unfinished, or complete one, which is then the frame received (R152, R199). -/
theorem State.busBytes_cases (s : State) (bytes : List Byte) :
    let holding := fun l : List Byte => s.withRbi { s.rbi with assembly := l }
    (bytes = [] ∧ s.busBytes bytes = holding []) ∨
      (bytes ≠ [] ∧ assembleReply (s.rbi.assembly ++ bytes) = none ∧
        s.busBytes bytes = holding (replyBytesFrom (s.rbi.assembly ++ bytes))) ∨
      ∃ frame, bytes ≠ [] ∧ assembleReply (s.rbi.assembly ++ bytes) = some frame ∧
        s.busBytes bytes = (holding []).busFrame frame := by
  cases bytes with
  | nil => exact .inl ⟨rfl, rfl⟩
  | cons b rest =>
    cases h : assembleReply (s.rbi.assembly ++ b :: rest) with
    | none => exact .inr (.inl ⟨nofun, rfl, by simp [State.busBytes, h]⟩)
    | some frame => exact .inr (.inr ⟨frame, nofun, rfl, by simp [State.busBytes, h]⟩)

/-- What is assembled from received bytes has twelve bytes, and is none exactly while fewer have come (R199). -/
theorem assembleReply_none (bytes : List Byte) : assembleReply bytes = none ↔ (replyBytesFrom bytes).length < 12 := by
  simp only [assembleReply, List.length_take]
  split <;> simp <;> omega

/-- The bytes kept of a frame begin with its 0xB2, if there are any (R199). -/
theorem replyBytesFrom_head (bytes : List Byte) :
    replyBytesFrom bytes = [] ∨ (replyBytesFrom bytes).head? = some 0xB2#8 := by
  induction bytes with
  | nil => exact .inl rfl
  | cons b rest ih =>
    by_cases h : b = 0xB2#8
    · exact .inr (by simp [replyBytesFrom, h])
    · simpa [replyBytesFrom, h] using ih

/-! ## Energy (R47, R74, R75) -/

/-- A count stays in its range whatever is counted into it. -/
theorem Energy.count_range (e : Energy) (units : Nat) :
    (e.count units).kJ ≤ 4294967295 ∧ (e.count units).residue ≤ 9999999 :=
  ⟨Nat.min_le_left _ _, by have := Nat.mod_lt (units + e.residue) (y := 10000000) (by decide); simp only [Energy.count, unitsPerKJ]; omega⟩

/-! ## Time -/

theorem State.advance_tickCount (s : State) (dt : Nat) : (s.advance dt).tickCount = s.tickCount + BitVec.ofNat 64 dt := rfl

theorem State.advanceTo_tickCount (s : State) (t : Tick) :
    (s.advanceTo t).tickCount = if (t - s.tickCount).toNat < 2 ^ 63 then t else s.tickCount := by
  by_cases h : (t - s.tickCount).toNat < 2 ^ 63
  · have hb : notBefore t s.tickCount = true := decide_eq_true h
    rw [State.advanceTo, if_pos hb, if_pos h]; rfl
  · have hb : ¬ notBefore t s.tickCount = true := fun e => h (of_decide_eq_true e)
    rw [State.advanceTo, if_neg hb, if_neg h]

end Sys2Proof.Machine
end

