-- ==== Sys2Proof/WellFormed.lean ====
section
/-! DEFINITION. When a command is well formed: the time it brings fits the 64-bit tick count. Every other operand is
bounded by its type. exec gives a meaning to ill-formed commands as well: time is then taken modulo 2^64. -/

namespace Sys2Proof

/-- A distance in ticks that the 64-bit count can measure (log entry 1). -/
abbrev fitsTickCount (dt : Nat) : Bool := decide (dt < 2 ^ 64)

/-- A command whose operands the part's connections can bring. A line cannot have held steady at its new level for
longer than the 64-bit count measures either (R201). -/
def Instr.wellFormed : Instr → Bool
  | .zeroCrossingEdge dt => fitsTickCount dt
  | .missingEdgeTimeout => true
  | .stopAssertion dt steady => fitsTickCount dt && fitsTickCount steady
  | .stopRelease dt steady => fitsTickCount dt && fitsTickCount steady
  | .powerOn _ => true
  | .supplyDip _ => true
  | .frameCompleted => true
  | .gapTimerExpiry => true
  | .replySend => true
  | .requestSlotRelease dt _ => fitsTickCount dt
  | .start => true
  | .eventChange => true
  | .rotorChange => true
  | .orderChange => true
  | .measurementChange => true
  | .haltChange => true
  | .identify => true
  | .status => true
  | .clearSummary => true
  | .setClock => true
  | .setMode => true
  | .setMeasurement => true
  | .setEvent => true
  | .setBankLimits => true
  | .setCurve => true
  | .readCurve => true
  | .readEvents => true
  | .setNotices => true
  | .restart => true
  | .snapshotPart0 => true
  | .snapshotPart1 => true
  | .enrol => true
  | .release => true
  | .spinUp => true
  | .park => true
  | .resetFault => true
  | .setRotorLimits => true
  | .setRotorRole => true
  | .rotorStatus => true
  | .placeOrder => true
  | .cancelOrder => true
  | .resumeOrder => true
  | .orderStatus => true
  | .listOrders => true
  | .poll dt => fitsTickCount dt
  | .moduleReply dt _ => fitsTickCount dt
  | .replyWindowClose => true
  | .liftTimerExpiry _ => true
  | .spinupTimerExpiry _ => true
  | .syncTimerExpiry _ => true
  | .linkByteReceived dt _ _ => fitsTickCount dt
  | .noticeFrameEnd dt => fitsTickCount dt
  | .supplyFall dt => fitsTickCount dt

end Sys2Proof
end

