-- ==== Sys2Proof/Tests/Slice0.lean ====
section
/-! SUPPORT. Tests. First the check of well-formedness, refused where it should be. Then one or two small steps for every
command, their expected values taken from the worked figures and tables of spec/. Then, for every statement that has
hypotheses, a state and operands that meet them, clause by clause. -/

set_option maxRecDepth 20000

namespace Sys2Proof.Tests

open Sys2Proof Sys2Proof.Machine

/-! ## Well-formedness -/

theorem test_wellFormed_edge : (Instr.zeroCrossingEdge (2 ^ 64)).wellFormed = false := by decide
theorem test_wellFormed_edge_largest : (Instr.zeroCrossingEdge (2 ^ 64 - 1)).wellFormed = true := by decide
theorem test_wellFormed_stopAssertion : (Instr.stopAssertion (2 ^ 64) 100).wellFormed = false := by decide
theorem test_wellFormed_stopAssertion_steady : (Instr.stopAssertion 1 (2 ^ 64)).wellFormed = false := by decide
theorem test_wellFormed_stopRelease : (Instr.stopRelease (2 ^ 64) 100).wellFormed = false := by decide
theorem test_wellFormed_stopRelease_steady : (Instr.stopRelease 1 (2 ^ 64)).wellFormed = false := by decide
theorem test_wellFormed_slotRelease : (Instr.requestSlotRelease (2 ^ 64) .released).wellFormed = false := by decide
theorem test_wellFormed_poll : (Instr.poll (2 ^ 64)).wellFormed = false := by decide
theorem test_wellFormed_moduleReply : (Instr.moduleReply (2 ^ 64) []).wellFormed = false := by decide
theorem test_wellFormed_linkByte : (Instr.linkByteReceived (2 ^ 64) 0xC3 false).wellFormed = false := by decide
theorem test_wellFormed_noticeFrameEnd : (Instr.noticeFrameEnd (2 ^ 64)).wellFormed = false := by decide
theorem test_wellFormed_supplyFall : (Instr.supplyFall (2 ^ 64)).wellFormed = false := by decide

/-! ## Helpers -/

/-- The state that a command leaves. -/
def after (c : Instr) (s : State) : State :=
  match exec c s with
  | .next t => t
  | .fault _ => s
  | .refused _ => s

def onFmu (f : Fmu → Fmu) (s : State) : State := s.withFmu (f s.fmu)
def onEvt (f : Evt → Evt) (s : State) : State := s.withEvt (f s.evt)
def onDse (f : Dse → Dse) (s : State) : State := s.withDse (f s.dse)
def onRsq (f : Rsq → Rsq) (s : State) : State := s.withRsq (f s.rsq)
def onRbi (f : Rbi → Rbi) (s : State) : State := s.withRbi (f s.rbi)
def onOrl (f : Orl → Orl) (s : State) : State := s.withOrl (f s.orl)
def onLif (f : Lif → Lif) (s : State) : State := s.withLif (f s.lif)
def onStu (f : Stu → Stu) (s : State) : State := s.withStu (f s.stu)

/-- A request with tag 7 waits in the slot. -/
def asking (k : RequestKind) (p : List Byte) (s : State) : State :=
  onLif (fun l => { l with slot := some ⟨requestKindByte k, 7#8, p, false⟩ }) s

theorem asks_asking (k : RequestKind) (p : List Byte) {s : State} (h : s.supply = .up) :
    (asking k p s).asks k 7#8 p := ⟨h, rfl⟩

/-- The result code of the reply that waits. -/
def code (s : State) : Option Byte := s.lif.waiting.bind fun f => f[4]?

/-- The status byte of the reply that waits. -/
def mark (s : State) : Option Byte := s.lif.waiting.bind fun f => f[5]?

/-- The body of the reply that waits. -/
def body (s : State) : Option (List Byte) := s.lif.waiting.map fun f => (f.drop 6).take (f.length - 8)

/-- The bytes of the frame being sent, but for its CRC. -/
def sent (s : State) : Option (List Byte) := s.lif.sending.map fun f => f.frame.dropLast.dropLast

/-- The state of a slot. -/
def st (s : State) (i : Slot) : RotorState := (s.rotor i).state

/-- The latest dispatch record. -/
def latest (s : State) : DispatchRecord :=
  match s.dse.latest with
  | some d => d
  | none => ⟨0, 0, 0, .lost, none, false, none, 0, 0, 0, false, 0, 0, none, 0, 0, 0, false, Vector.ofFn fun _ => Shares.zero⟩

/-- The worked curve of chapter 02. -/
def workedCurve : List Breakpoint := [⟨-800, 6000⟩, ⟨-200, 1500⟩, ⟨-20, 0⟩, ⟨20, 0⟩, ⟨200, -1500⟩, ⟨800, -6000⟩]

/-- A rotor with all four roles in a lifecycle state. -/
def rotorIn (st : RotorState) : RotorRecord :=
  { RotorRecord.empty with
    state := st
    cause := some .host
    group := 1
    roles := ⟨true, true, true, true⟩
    limits := ⟨250, 90⟩
    eCap := 60000
    smin := 6000
    sbase := 9000
    smax := 12000
    speed := 9000
    temperature := 40 }

/-- The four ONLINE rotors of the worked figures of chapters 04 and 05. -/
def workedRotors : Vector RotorRecord 16 :=
  Vector.ofFn fun i : Fin 16 =>
    match i.val with
    | 0 => { rotorIn .online with
        limits := ⟨400, 90⟩, eCap := 100000, smin := 8000, sbase := 12000, smax := 16000, speed := 15000,
        roles := ⟨true, true, true, false⟩ }
    | 1 => { rotorIn .online with
        limits := ⟨400, 85⟩, eCap := 100000, smin := 8000, sbase := 14000, smax := 16000, speed := 11200, group := 0 }
    | 2 => { rotorIn .online with roles := ⟨true, true, true, false⟩ }
    | 3 => { rotorIn .online with speed := 11400, group := 0 }
    | _ => RotorRecord.empty

/-- Order 17 of the worked figures of chapter 06. -/
def order17 : Order where
  id := 17
  direction := .discharge
  group := 0
  power := 300
  quota := 5
  remaining := 5000
  residue := 0
  startTime := none
  deadline := none
  repeats := some ⟨1, .above, 500⟩
  status := .waiting
  placed := 9990
  activated := none
  ended := none
  delivered := 0

/-- The bank of the worked figures just before the edge of tick 50,802,200, in a mode, with order 17 in its list. The
interval of the coming sample is the 200,430 ticks of chapter 05. -/
def bank (m : Mode) : State :=
  { State.reset with
    tickCount := 50601500
    fmu := { State.reset.fmu with
      lastEdge := some 50601500
      periods := [200400, 200500, 200600]
      expiry := 51001500
      prevSample := some 50601770
      state := .valid
      held := some ⟨49873, -127, -500⟩
      history := [(50000000, -95), (50200400, -105), (50400900, -116), (50601500, -127)]
      reported := ⟨49873, -127, -500⟩ }
    evt := { State.reset.evt with mode := m, memory := some ⟨.normal, .slow⟩ }
    dse := { State.reset.dse with curve := workedCurve, kIn := 2000, pdBank := 3000, paBank := 3000 }
    rotors := workedRotors
    orl := { State.reset.orl with orders := [order17] } }

/-- An open event record. -/
def openRecord8 : EventRecord := openRecord 8 ⟨true, false, false⟩ .armed 5000 (-120) (-450)

/-- The bank in EVENT, with one closed and one open record, and the recovery timer as given. -/
def bankEvent (recovery : Option Tick) : State :=
  onEvt (fun e =>
    { e with
      savedMode := some .armed
      history := [{ openRecord8 with number := 7, ended := some (4000, .recovered) }, openRecord8]
      eventNumber := 8
      recovery := recovery })
    (onOrl (fun l => { l with orders := [{ order17 with status := .suspended .event }] }) (bank .event))

/-- The start-up of the worked figures of chapter 07, with a rotor in every other lifecycle state. -/
def road : State :=
  { State.reset with
    rotors := Vector.ofFn fun i : Fin 16 =>
      match i.val with
      | 0 => { rotorIn .syncing with attempts := 1, group := 0 }
      | 1 => rotorIn .accelerating
      | 2 => rotorIn .accelerating
      | 3 => rotorIn .accelerating
      | 4 => rotorIn .accelerating
      | 5 => rotorIn .syncWait
      | 6 => rotorIn .lifting
      | 7 => rotorIn .spinupWait
      | 8 => rotorIn .parked
      | 9 => rotorIn .parked
      | 10 => rotorIn .probing
      | 11 => { rotorIn .tripped with
          cause := some .fault, latched := .bearing, flags := ⟨false, true, false, false, false⟩ }
      | 12 => rotorIn .decelerating
      | 13 => rotorIn .online
      | _ => RotorRecord.empty
    rsq := { State.reset.rsq with
      spinUpQueue := [7]
      syncQueue := [5]
      syncUnit := some 0
      timers := Vector.ofFn fun i : Fin 16 =>
        match i.val with
        | 0 => some 20000000
        | 1 => some 9000000000
        | 2 => some 9000000000
        | 3 => some 9000000000
        | 4 => some 9000000000
        | 6 => some 50000000
        | _ => none } }

/-- A poll in flight to a slot, with a tag, its window closing at a tick. -/
def polling (i : Slot) (command : PollCommand) (abandoned : Bool) (s : State) : State :=
  onRbi (fun b =>
    { b with
      inFlight := some
        { slot := i, tag := 0x2C, command := command, setpoint := 0, offered := none, windowClose := 4000,
          abandoned := abandoned }
      round := some ⟨Vector.ofFn fun _ => 0, [15], []⟩ }) s

/-- A reply frame of the rotor bus. -/
def replyBytes (i : Slot) (tag : Byte) (speed : Nat) (flags fault : Byte) : List Byte :=
  let b := [0xB2#8, byteOf i.val, tag] ++ beBytes 2 speed ++ [0#8, 0#8, 40#8, flags, fault]
  b ++ crcBytes b

/-! ## Commands -/

/-- "A frequency estimate" and "A rocof figure" of chapter 01. -/
theorem test_edge_estimate :
    (after (.zeroCrossingEdge 200700) (bank .armed)).fmu.reported = ⟨49863, -137, -523⟩ := by decide

/-- "Frequency pass in ARMED" and "Order pass in the same dispatch" of chapter 05. -/
theorem test_edge_allocation :
    let d := latest (after (.zeroCrossingEdge 200700) (bank .armed))
    (d.dt, d.pCurve, d.pIn, d.demand, d.fServed, d.oServed, d.oUnserved) = (200430, 975, 1046, 975, 975, 121, 179) ∧
      (d.slots.toList.take 4).map (fun x => (x.f, x.o, x.n)) =
        [(400, 0, 400), (199, 121, 320), (126, 0, 126), (250, 0, 250)] := by decide

/-- "A missing edge and recovery" of chapter 01, "Demand through a missing edge" of chapter 02 (the 200,430 ticks before
are not in it, so the interval here is from tick 50,601,770). -/
theorem test_missingEdge_holds :
    let t := after .missingEdgeTimeout (bankEvent none)
    (t.fmu.state, t.fmu.invalid, t.fmu.periods, t.fmu.expiry) = (.holding, 1, [], 51401500) ∧
      ((latest t).df, (latest t).held, (latest t).dt) = (some (-127), true, 399730) := by decide

/-- The fourth invalid sample in a row takes the FMU to LOST (R11) and ends the event (R50). -/
theorem test_missingEdge_loses :
    let t := after .missingEdgeTimeout (onFmu (fun u => { u with state := .holding, invalid := 3 }) (bankEvent none))
    t.fmu.state = .lost ∧ t.evt.mode = .armed ∧ (latest t).df = none := by decide

/-- "A stop assertion in the middle of the start-up" of chapter 07. -/
theorem test_stopAssertion :
    let t := after (.stopAssertion 0 100) road
    allSlots.map (st t) =
        [.tripped, .tripped, .tripped, .tripped, .tripped, .tripped, .tripped, .tripped, .parked, .parked, .probing,
          .tripped, .tripped, .tripped, .offline, .offline] ∧
      (t.rotor 11).cause = some .fault ∧ t.rsq.changed = [0, 1, 2, 3, 4, 5, 6, 7, 12, 13] ∧
      t.stu.flags.rotorTrip = true := by decide

/-- R201: a level held for 99 ticks is no arrival. -/
theorem test_stopAssertion_short : (after (.stopAssertion 0 99) road).evt.mode = .idle := by decide

/-- R53. -/
theorem test_stopRelease :
    let t := after (.stopRelease 0 100) (onEvt (fun e => { e with mode := .halted, stopLevel := .asserted }) road)
    (t.evt.mode, t.evt.stopLevel, t.lif.pendingNotices.halt) = (.idle, .released, true) := by decide

/-- R57, R184: a stop line found low at a reset. -/
theorem test_powerOn_low :
    let t := after (.powerOn .asserted) road
    (t.evt.mode, t.stu.resetCause, t.tickCount, t.lif.pendingNotices.halt) = (.halted, .powerOn, 0, true) := by decide

/-- R184. -/
theorem test_supplyDip :
    let t := after (.supplyDip .released) (bank .armed)
    (t.evt.mode, t.stu.resetCause, t.tickCount, t.orl.orders) = (.idle, .supplyDip, 0, []) := by decide

/-- R163: the check value the rule gives for the characters 123456789. -/
theorem test_crc : crc [0x31, 0x32, 0x33, 0x34, 0x35, 0x36, 0x37, 0x38, 0x39] = 0x29B1#16 := by decide

/-- "A reply behind a notice, an overrun, and the mark it leaves" of chapter 09: the STATUS that finds the slot occupied. -/
theorem test_frameCompleted_overrun :
    let t := after .frameCompleted
      (onLif (fun l => { l with receiver := .complete (linkFrame 0x02 0x16 []) }) (asking .setMode [2] State.reset))
    (t.lif.overrunCount, t.lif.overrunMark, t.stu.flags.overrun, t.lif.crcCount) = (1, true, true, 0) := by decide

/-- The same figures: the corrupted frame is counted as a CRC error. -/
theorem test_frameCompleted_corrupted :
    let t := after .frameCompleted
      (onLif (fun l => { l with receiver := .complete [0xC3, 0x02, 0x16, 0x00, 0x12, 0x34] }) (asking .setMode [2] State.reset))
    (t.lif.overrunCount, t.lif.crcCount, t.stu.flags.linkError) = (0, 1, true) := by decide

/-- R162. -/
theorem test_gapTimer :
    let t := after .gapTimerExpiry
      (onLif (fun l => { l with receiver := .assembling [0xC3], gapExpiry := some 50000 }) State.reset)
    (t.lif.receiver, t.lif.gapExpiry, t.lif.gapCount, t.tickCount) = (.hunting, none, 1, 50000) := by decide

/-- R170: a waiting reply is begun, the slot staying occupied. -/
theorem test_replySend :
    let t := after .replySend (after .setMode (asking .setMode [2] State.reset))
    sent t = some [0xC3, 0x85, 7, 2, 0x00, 0x22] ∧ t.lif.waiting = none ∧ t.lif.slot.isSome = true := by decide

/-- "A restart with a stop assertion in its path" of chapter 10: the last byte of the RESTART reply. -/
theorem test_slotRelease_restart :
    let t := after (.requestSlotRelease 1736 .asserted)
      (onStu (fun u => { u with restartPending := true, offset := 85700000 })
        (onLif (fun l => { l with sending := some ⟨[], true⟩ }) (State.reset.withTick 7000000000)))
    (t.tickCount, t.evt.mode, t.stu.resetCause, t.plantTime, t.lif.pendingNotices) =
      (7000001736, .halted, .restart, 700000, ⟨true, false, false, false, false, true⟩) := by decide

/-- R187: reset cause 1, plant time 0. -/
theorem test_start : sent (after .start State.reset) = some [0xC3, 0x60, 0, 7, 1, 0, 0, 0, 0, 0, 0] := by decide

/-- R170, R198: the mode, then the open record of 36 bytes. -/
theorem test_eventChange :
    let t := after .eventChange
      (onLif (fun l => { l with pendingNotices := ⟨false, true, true, false, false, false⟩ }) (bankEvent none))
    (sent t).map (fun f => (f.length, f.take 9)) = some (41, [0xC3, 0x61, 0, 37, 3, 0, 8, 1, 2]) ∧
      t.lif.pendingNotices = ⟨false, false, true, false, false, false⟩ := by decide

/-- R144, R198: TRIPPED with cause STOP. -/
theorem test_rotorChange :
    let t := after .rotorChange
      (onLif (fun l => { l with pendingNotices := ⟨false, false, true, false, false, false⟩ })
        (onRsq (fun q => { q with changed := [8, 11] }) road))
    sent t = some [0xC3, 0x62, 0, 7, 2, 8, 2, 1, 11, 10, 3] ∧ t.rsq.changed = [] := by decide

/-- R114, R198: order 17, WAITING with no cause. -/
theorem test_orderChange :
    let t := after .orderChange
      (onLif (fun l => { l with pendingNotices := ⟨false, false, false, true, false, false⟩ })
        (onOrl (fun l => { l with changed := [17] }) (bankEvent none)))
    sent t = some [0xC3, 0x63, 0, 5, 1, 0, 17, 2, 1] ∧ t.orl.changed = [] := by decide

/-- "A reply behind a notice" of chapter 09: MEASUREMENT CHANGE carrying VALID. -/
theorem test_measurementChange :
    sent (after .measurementChange
      (onLif (fun l => { l with pendingNotices := ⟨false, false, false, false, true, false⟩ }) (bank .idle))) =
      some [0xC3, 0x64, 0, 1, 1] := by decide

/-- R37, R190: HALT CHANGE with the stop level asserted. -/
theorem test_haltChange :
    sent (after .haltChange
      (onLif (fun l => { l with pendingNotices := ⟨false, false, false, false, false, true⟩ })
        (onEvt (fun e => { e with stopLevel := .asserted, mode := .halted }) State.reset))) =
      some [0xC3, 0x65, 0, 1, 1] := by decide

/-- A notice waits while a lower kind is pending (R170). -/
theorem test_haltChange_waits :
    after .haltChange (onLif (fun l => { l with pendingNotices := NoticeSet.all }) State.reset) =
      onLif (fun l => { l with pendingNotices := NoticeSet.all }) State.reset := by decide

/-- R192: every byte of IDENTIFY's body but the revision. -/
theorem test_identify :
    body (after .identify (asking .identify [] State.reset)) =
      some ([0x0A, 0x71, 0x0B, 0x16] ++ [Config.revision] ++ [16, 8, 12, 4, 4]) := by
  simp only [body]; rfl

/-- "A snapshot across a dispatch" of chapter 10, for the rotors of `road`: counts by state, and no order. -/
theorem test_status_counts :
    (body (after .status (asking .status [] road))).map (fun b => (b.drop 55, b.length)) =
      some ([2, 1, 2, 1, 1, 4, 1, 1, 1, 1, 1, 0, 0, 0, 0, 0, 0], 72) := by decide

/-- "A reply behind a notice" of chapter 09: the counters 0, 1 and 1 with LINK_ERROR and OVERRUN. -/
theorem test_clearSummary :
    let s := onStu (fun u => { u with flags := ⟨false, false, false, false, true, true⟩ })
      (onLif (fun l => { l with crcCount := 1, overrunCount := 1 }) State.reset)
    let t := after .clearSummary (asking .clearSummary [] s)
    body t = some [0x30, 0, 0, 0, 1, 0, 1] ∧ mark t = some 0x20 ∧ t.lif.crcCount = 0 := by decide

/-- "A restart" of chapter 10: a plant time of 86,400,000 ms at tick 7,000,000,000. -/
theorem test_setClock :
    let t := after .setClock (asking .setClock [0, 0, 0x05, 0x26, 0x5C, 0x00] (State.reset.withTick 7000000000))
    (t.plantTime, t.stu.offset, code t) = (86400000, 85700000, some 0x00) := by decide

/-- R35: a SET MODE in EVENT rewrites the saved mode alone. -/
theorem test_setMode_event :
    let t := after .setMode (asking .setMode [1] (bankEvent none))
    (t.evt.mode, t.evt.savedMode, code t) = (.event, some .guard, some 0x00) := by decide

/-- R17: nominal 60, N 9 clamped to 8, W 0 clamped to 1. -/
theorem test_setMeasurement :
    let t := after .setMeasurement (asking .setMeasurement [60, 9, 0] (bank .idle))
    (t.fmu.nominal, t.fmu.n, t.fmu.w, t.fmu.state, code t) = (.hz60, 8, 1, .lost, some 0x01) ∧
      t.fmu.expiry = 50601500 + 333334 := by decide

/-- R55: U 100, O 100, BOTH, Rt 500, B 50, H 40, K_in 2,000. -/
theorem test_setEvent :
    let t := after .setEvent (asking .setEvent [0, 100, 0, 100, 3, 0x01, 0xF4, 0, 50, 0, 40, 0x07, 0xD0] State.reset)
    (t.evt.uThreshold, t.evt.oThreshold, t.evt.edgeMode, t.evt.rocofThreshold, t.evt.band, t.evt.hold, t.dse.kIn) =
      (100, 100, .both, 500, 50, 40, 2000) ∧ code t = some 0x00 := by decide

/-- R31: floor 900 and ceiling 900 cannot stand together. -/
theorem test_setBankLimits :
    let t := after .setBankLimits (asking .setBankLimits [0x0B, 0xB8, 0x0B, 0xB8, 0x03, 0x84, 0x03, 0x84, 0, 60] State.reset)
    (t.dse.pdBank, code t) = (0, some 0x13) := by decide

/-- "A curve change during an event" of chapter 02: df −5,300 and −5,100 both clamp to −5,000. -/
theorem test_setCurve_inconsistent :
    code (after .setCurve (asking .setCurve
      [2, 0xFF, 0xFF, 0xEB, 0x4C, 0, 0, 0xFF, 0xFF, 0xEC, 0x14, 0, 0] (bankEvent none))) = some 0x13 := by decide

/-- The same figures: one P of 9,000 is stored as 8,000 in the pending curve. -/
theorem test_setCurve_pending :
    let t := after .setCurve (asking .setCurve
      [2, 0xFF, 0xFF, 0xFC, 0xE0, 0x23, 0x28, 0, 0, 0x03, 0x20, 0, 0] (bankEvent none))
    (t.dse.pendingCurve, t.dse.curve == workedCurve, code t) = (some [⟨-800, 8000⟩, ⟨800, 0⟩], true, some 0x01) := by
  decide

/-- R30, R192: the reset curve. -/
theorem test_readCurve :
    body (after .readCurve (asking .readCurve [] State.reset)) =
      some [2, 0xFF, 0xFF, 0xEC, 0x78, 0, 0, 0, 0, 0x13, 0x88, 0, 0, 0, 0] := by decide

/-- R56: newest first, 36 bytes each. -/
theorem test_readEvents :
    (body (after .readEvents (asking .readEvents [] (bankEvent none)))).map (fun b => (b.length, b.take 3, (b.drop 37).take 2)) =
      some (73, [2, 0, 8], [0, 7]) := by decide

/-- "Notices through a disabled kind" of chapter 09: all but ROTOR CHANGE and ORDER CHANGE. -/
theorem test_setNotices :
    let t := after .setNotices (asking .setNotices [0x33] (onRsq (fun q => { q with changed := [3] }) State.reset))
    (t.lif.mask, t.rsq.changed, t.lif.pendingNotices) =
      (⟨true, true, false, false, true, true⟩, [], NoticeSet.startOnly) := by decide

/-- R185: outside IDLE, and with a rotor not PARKED. -/
theorem test_restart_refused :
    code (after .restart (asking .restart [] (bank .guard))) = some 0x28 ∧
      code (after .restart (asking .restart [] (bank .idle))) = some 0x20 := by decide

/-- R185. -/
theorem test_restart :
    (after .restart (asking .restart [] State.reset)).stu.restartPending = true := by decide

/-- "A snapshot across a dispatch" of chapter 10: F 975, O_served 121, mode ARMED, FMU VALID, and slot 1's n_r 320. -/
theorem test_snapshot_part0 :
    let t := after .snapshotPart0 (asking .snapshot [0] (after (.zeroCrossingEdge 200700) (bank .armed)))
    (body t).map (fun b => (b.length, (b.drop 20).take 2, (b.drop 28).take 2)) = some (222, [0x03, 0xCF], [0, 121]) ∧
      (body t).map (fun b => (b.drop 76).take 2) = some [0x01, 0x40] := by decide

/-- R182: no capture is held. -/
theorem test_snapshot_part1 : code (after .snapshotPart1 (asking .snapshot [1] State.reset)) = some 0x29 := by decide

/-- "Enrolling a module that is still turning" of chapter 07: slot 12 with smin 8,000, sbase 12,000, smax 16,000. -/
theorem test_enrol :
    let t := after .enrol (asking .enrol
      [12, 1, 0x0F, 0x01, 0x90, 0, 0x01, 0x86, 0xA0, 0x1F, 0x40, 0x2E, 0xE0, 0x3E, 0x80, 85] State.reset)
    (st t 12, (t.rotor 12).smin, (t.rotor 12).sbase, (t.rotor 12).smax, (t.rotor 12).eCap) =
        (.probing, 8000, 12000, 16000, 100000) ∧
      t.rbi.pendingProbes = [12] ∧ code t = some 0x00 := by decide

/-- R142: a TRIPPED slot with cause FAULT is not released, a PARKED one is. -/
theorem test_release :
    code (after .release (asking .release [11] road)) = some 0x20 ∧
      st (after .release (asking .release [8] road)) 8 = .offline := by decide

/-- R128, R124. -/
theorem test_spinUp :
    let t := after .spinUp (asking .spinUp [8] road)
    st t 8 = .lifting ∧ t.rsq.timer 8 = some 50000000 := by decide

/-- R137, R130: parking an ACCELERATING rotor frees its spin-up slot, which the waiting rotor takes. -/
theorem test_park :
    let t := after .park (asking .park [2] road)
    (st t 2, st t 7, t.rsq.spinUpQueue, t.rsq.timer 7) = (.decelerating, .accelerating, [], some 9000000000) := by decide

/-- R141. -/
theorem test_resetFault :
    let t := after .resetFault (asking .resetFault [11] road)
    (st t 11, (t.rotor 11).cause, (t.rotor 11).latched) = (.parked, some .host, .none) := by decide

/-- "A limit change overtaken by a second one" of chapter 04: 300 kW, 80 °C staged. -/
theorem test_setRotorLimits :
    let t := after .setRotorLimits (asking .setRotorLimits [1, 0x01, 0x2C, 80] (bank .armed))
    ((t.rotor 1).staged, (t.rotor 1).limits, code t) = (some ⟨300, 80⟩, ⟨400, 85⟩, some 0x00) := by decide

/-- R61: a role outside the four. -/
theorem test_setRotorRole : code (after .setRotorRole (asking .setRotorRole [1, 0, 0x10] (bank .armed))) = some 0x12 := by
  decide

/-- R76: clear counters reports 19 and 5 kJ, then clears. -/
theorem test_rotorStatus :
    let s := (bank .armed).setRotor 1 { (bank .armed).rotor 1 with discharged := ⟨19, 2412800⟩, absorbed := ⟨5, 0⟩ }
    let t := after .rotorStatus (asking .rotorStatus [1, 2] s)
    (body t).map (fun b => b.drop 42) = some [0, 0, 0, 19, 0, 0, 0, 5] ∧ (t.rotor 1).discharged = ⟨0, 0⟩ := by decide

/-- Order 17 of chapter 06, placed as the figures say. -/
theorem test_placeOrder :
    let s := { bank .armed with tickCount := 99900000, orl := State.reset.orl }
    let t := after .placeOrder (asking .placeOrder [0x04, 0, 17, 1, 0, 0x01, 0x2C, 0, 0, 0, 5, 1, 2, 0x01, 0xF4] s)
    (t.orl.orders, code t) = ([order17], some 0x00) := by decide

/-- "Expiry, selection and resumption" of chapter 06: CANCEL ORDER 9 at 10,050 ms. -/
theorem test_cancelOrder :
    let s := onOrl (fun l => { l with orders := [{ order17 with id := 9, status := .active }] })
      ((bank .guard).withTick 100500000)
    let t := after .cancelOrder (asking .cancelOrder [0, 9] s)
    t.orl.orders.map (fun o => (o.status, o.ended)) = [(.cancelled .host, some 10050)] ∧ t.orl.changed = [9] := by decide

/-- The same figures: RESUME ORDER 21. -/
theorem test_resumeOrder :
    let s := onOrl (fun l => { l with orders := [{ order17 with id := 21, status := .suspended .exhausted }] }) (bank .guard)
    let t := after .resumeOrder (asking .resumeOrder [0, 21] s)
    t.orl.orders.map (fun o => o.status) = [.waiting] ∧ t.orl.changed = [] := by decide

/-- R112: a terminal record is reported, DONE with cause QUOTA and 10 kJ delivered, then retired. -/
theorem test_orderStatus :
    let s := onOrl (fun l => { l with orders := [{ order17 with status := .done .quota, remaining := 0, delivered := 10000 }] })
      (bank .armed)
    let t := after .orderStatus (asking .orderStatus [0, 17] s)
    (body t).map (fun b => (b.length, (b.drop 31).take 2, b.drop 51)) = some (57, [3, 3], [0, 0, 0, 0, 0, 10]) ∧
      t.orl.orders = [] := by decide

/-- R113. -/
theorem test_listOrders : body (after .listOrders (asking .listOrders [] (bank .armed))) = some [1, 0, 17, 0] := by decide

/-- "A round that a second result meets" of chapter 08: slot 0's SETPOINT 400, tag 0x2C after 0x2B. -/
theorem test_poll :
    let s := onRbi (fun b =>
      { b with
        tags := setSlot b.tags 0 0x2B
        round := some ⟨setSlot (Vector.ofFn fun _ => 0) 0 400, [0, 1], []⟩ }) (bank .armed)
    let t := after (.poll 10) s
    t.rbi.inFlight.map (fun p => (p.slot, p.tag, p.command, p.setpoint, p.windowClose)) =
      some (0, 0x2C, .setpoint, 400, 50605510) := by decide

/-- The same figures: a TRIPPED slot is polled with COAST; but while a frame is being received no poll is sent (R146). -/
theorem test_poll_quiet :
    let s := fun assembly => onRbi (fun b =>
      { b with round := some ⟨Vector.ofFn fun _ => 0, [11], []⟩, assembly := assembly }) road
    ((after (.poll 0) (s [])).rbi.inFlight.map fun p => (p.command, p.tag)) = some (.coast, 1) ∧
      after (.poll 0) (s [0xB2, 3]) = s [0xB2, 3] := by decide

/-- "A module that is still turning" of chapter 07: 9,500 rpm with BEARING trips, latched; a late tag is discarded; half a
frame is kept, from its 0xB2 on (R199). -/
theorem test_moduleReply :
    let t := after (.moduleReply 10 (replyBytes 10 0x2C 9500 0 2)) (polling 10 .ident false road)
    ((t.rotor 10).state, (t.rotor 10).latched, t.rbi.inFlight.isNone) = (.tripped, .bearing, true) ∧
      (after (.moduleReply 10 (replyBytes 10 0x2B 9500 0 2)) (polling 10 .ident false road)).rotors = road.rotors ∧
      (after (.moduleReply 10 (0 :: (replyBytes 10 0x2C 9500 0 2).take 5)) (polling 10 .ident false road)).rbi.assembly =
        [0xB2, 10, 0x2C, 0x25, 0x1C] := by
  decide

/-- "Six rotors from rest to the grid" of chapter 07: slot 0 locks, its unit goes to the head of the sync queue. -/
theorem test_moduleReply_locked :
    let t := after (.moduleReply 10 (replyBytes 0 0x2C 9000 4 0)) (polling 0 .sync false road)
    (st t 0, (t.rotor 0).attempts, st t 5, (t.rotor 5).attempts, t.rsq.syncUnit) = (.online, 0, .syncing, 1, some 5) := by
  decide

/-- "A module that falls silent" of chapter 08: the third late poll. -/
theorem test_replyWindowClose :
    let t := after .replyWindowClose
      (polling 13 .setpoint false (road.setRotor 13 { rotorIn .online with lateCount := 2 }))
    (st t 13, (t.rotor 13).cause, (t.rotor 13).lateCount, t.tickCount) = (.tripped, some .lost, 3, 4000) := by decide

/-- R129. -/
theorem test_liftTimer :
    let t := after (.liftTimerExpiry 6) road
    (st t 6, (t.rotor 6).cause, t.rsq.timer 6, t.tickCount) = (.tripped, some .liftTimeout, none, 50000000) := by decide

/-- R131: the freed spin-up slot is handed on. -/
theorem test_spinupTimer :
    let t := after (.spinupTimerExpiry 3) road
    (st t 3, (t.rotor 3).cause, st t 7) = (.decelerating, some .spinupTimeout, .accelerating) := by decide

/-- "Six rotors from rest to the grid" of chapter 07: slot 0's sync timer expires with slot 5 ahead of it. -/
theorem test_syncTimer :
    let t := after (.syncTimerExpiry 0) road
    (st t 0, (t.rotor 0).attempts, st t 5, (t.rotor 5).attempts, t.rsq.syncQueue, t.rsq.syncUnit) =
      (.syncWait, 1, .syncing, 1, [0], some 5) := by decide

/-- R161: START begins a frame, and a LEN of 241 abandons one. -/
theorem test_linkByte :
    (after (.linkByteReceived 217 0xC3 false) State.reset).lif.receiver = .assembling [0xC3] ∧
      (after (.linkByteReceived 217 241 false)
        (onLif (fun l => { l with receiver := .assembling [0xC3, 1, 1], gapExpiry := some 50000 }) State.reset)).lif.crcCount =
        1 := by decide

/-- R170. -/
theorem test_noticeFrameEnd :
    (after (.noticeFrameEnd 5) (after .start State.reset)).lif.sending = none := by decide

/-- R184: held in reset, the part takes no arrival. -/
theorem test_supplyFall :
    let t := after (.supplyFall 5) (bank .armed)
    t.supply = .down ∧ after (.zeroCrossingEdge 10) t = t := by decide

/-- "A disturbance, a retrigger and recovery" of chapter 03: UNDER in ARMED opens record 8. -/
theorem test_trigger :
    let s := onOrl (fun l => { l with orders := [{ order17 with status := .active, activated := some 5000 }] })
      (onEvt (fun e => { e with uThreshold := 100, eventNumber := 7, hold := 40 }) (bank .armed))
    let t := after (.zeroCrossingEdge 200700) s
    (t.evt.mode, t.evt.savedMode, t.evt.history.map (fun r => (r.number, r.startTime, r.nadir))) =
        (.event, some .armed, [(8, 5080, -137)]) ∧
      ((latest t).demand, (latest t).fServed, (latest t).fUnserved) = (2021, 1220, 801) ∧
      t.orl.orders.map (fun o => o.status) = [.suspended .event] := by decide

/-- No word spells a command (log entry 6). -/
theorem test_decode_none (nbits w : Nat) : decodeTableWord nbits w = none := rfl

/-! ## Invariants of the states used below -/

theorem modeInv_bank_guard : ModeInv (bank .guard) :=
  ⟨by decide, by decide, by decide, by decide, by decide, by decide, by decide⟩
theorem modeInv_bank_armed : ModeInv (bank .armed) :=
  ⟨by decide, by decide, by decide, by decide, by decide, by decide, by decide⟩
theorem modeInv_bankEvent : ModeInv (bankEvent none) :=
  ⟨by decide, by decide, by decide, by decide, by decide, by decide, by decide⟩
theorem modeInv_bankEvent_running : ModeInv (bankEvent (some 50402200)) :=
  ⟨by decide, by decide, by decide, by decide, by decide, by decide, by decide⟩
theorem modeInv_road : ModeInv road :=
  ⟨by decide, by decide, by decide, by decide, by decide, by decide, by decide⟩

theorem roadInv_road : RoadInv road :=
  ⟨by decide, by decide, by decide, by decide, by decide, by decide, by decide, by decide, by decide, by decide⟩

/-- Neither the bus nor the queue of commands is part of RoadInv. -/
theorem roadInv_onRbi {s : State} (h : RoadInv s) (f : Rbi → Rbi) : RoadInv (onRbi f s) :=
  ⟨h.spinUpOnce, h.spinUpHolds, h.syncOnce, h.syncHolds, h.unit, h.four, h.timed, h.spinUpWaits, h.syncWaits, h.halted⟩
theorem roadInv_withPending {s : State} (h : RoadInv s) (l : List Instr) : RoadInv (s.withPending l) :=
  ⟨h.spinUpOnce, h.spinUpHolds, h.syncOnce, h.syncHolds, h.unit, h.four, h.timed, h.spinUpWaits, h.syncWaits, h.halted⟩

/-- TableInv from its clauses, slot by slot, in the form that `decide` takes. -/
theorem tableInv_of {s : State}
    (h : ∀ i : Slot,
      ((s.rotor i).state ≠ .online → (s.rotor i).shares = Shares.zero ∧ (s.rotor i).ld = 0 ∧ (s.rotor i).la = 0) ∧
      (s.rotor i).attempts ≤ 3 ∧ (beforeSync (s.rotor i).state = true → (s.rotor i).attempts ≤ 2) ∧
      ((s.rotor i).state = .online → (s.rotor i).attempts = 0) ∧ (s.rotor i).lateCount ≤ 3 ∧
      ((s.rotor i).discharged.kJ ≤ 4294967295 ∧ (s.rotor i).absorbed.kJ ≤ 4294967295) ∧
      ((s.rotor i).discharged.residue ≤ 9999999 ∧ (s.rotor i).absorbed.residue ≤ 9999999)) : TableInv s := by
  intro i
  obtain ⟨h1, h2, h3, h4, h5, h6, h7⟩ := h i
  exact ⟨h1, h2, h3, h4, h5, h6, h7⟩

theorem tableInv_road : TableInv road := tableInv_of (by decide)

/-- A list of the one order 17, in a status that bears its figures. -/
theorem orderInv_bank (status : OrderStatus) (m : Mode) (he : m ≠ .event) (hh : m ≠ .halted) :
    OrderInv (onOrl (fun l => { l with orders := [{ order17 with status := status }] }) (bank m)) where
  atMost := by show 1 ≤ 8; decide
  distinct := by show [17].Nodup; decide
  oneActive := by
    show (List.filter _ [({ order17 with status := status } : Order)]).length ≤ 1
    exact List.length_filter_le _ _
  event := fun h => absurd h he
  halted := fun h => absurd h hh
  records := by
    intro o ho
    obtain rfl : o = { order17 with status := status } := List.mem_singleton.mp ho
    exact ⟨by show 5000 ≤ 5 * 1000; decide, by show 0 ≤ 9999; decide, 1, by decide, by show 0 + 5000 = 1000 * 5 * 1; decide⟩

theorem noticeInv_bank (status : OrderStatus) (m : Mode) :
    NoticeInv (onOrl (fun l => { l with orders := [{ order17 with status := status }] }) (bank m)) where
  enabled := by intro k _; cases k <;> rfl
  rotor := rfl
  order := rfl

/-! ## The queue, the supply and the resets -/

theorem test_witness_StepRunsFrontCommand : State.reset.pending = [] := rfl

theorem test_witness_SupplyFallHoldsThePart :
    State.reset.supply = .up ∧ (State.reset.withSupply .down).supply = .down ∧
      (∀ line, Instr.start ≠ .powerOn line) ∧ ∀ line, Instr.start ≠ .supplyDip line :=
  ⟨rfl, rfl, fun _ h => (nomatch h), fun _ h => (nomatch h)⟩

theorem test_witness_SlotReleaseAndRestart :
    let s := onLif (fun l => { l with sending := some ⟨[], true⟩ }) State.reset
    (s.supply = .up ∧ s.lif.sending = some ⟨[], true⟩ ∧ s.stu.restartPending = false) ∧
      (onStu (fun u => { u with restartPending := true }) s).stu.restartPending = true := ⟨⟨rfl, rfl, rfl⟩, rfl⟩

/-! ## Frequency measurement and the demand stage -/

/-- A first edge; and an edge whose period is the shortest valid one, and one tick shorter. -/
theorem test_witness_ZeroCrossingEdgeMeasures :
    (State.reset.supply = .up ∧ State.reset.fmu.lastEdge = none) ∧
      (bank .armed).supply = .up ∧ (bank .armed).fmu.lastEdge = some 50601500 ∧
      periodValid .hz50 ((50601500 + BitVec.ofNat 64 181819) - 50601500 : Tick).toNat = true ∧
      periodValid .hz50 ((50601500 + BitVec.ofNat 64 181818) - 50601500 : Tick).toNat = false := by decide

theorem test_witness_MissingEdgeTimeoutMeasures :
    State.reset.supply = .up ∧ (State.reset.fmu.expiry - State.reset.tickCount).toNat < 2 ^ 63 := by decide

/-- The edge that the worked figures of chapters 01 to 06 share brings a sample, in each mode that the bank may be in. -/
theorem bringsSample_bank (m : Mode) : bringsSample (.zeroCrossingEdge 200700) (bank m) :=
  ⟨rfl, .inr ⟨200700, rfl, rfl⟩⟩
theorem bringsSample_bankEvent (r : Option Tick) (dt : Nat) : bringsSample (.zeroCrossingEdge dt) (bankEvent r) :=
  ⟨rfl, .inr ⟨dt, rfl, rfl⟩⟩

theorem test_witness_SampleFrameAndThroughput :
    bringsSample (.zeroCrossingEdge 200700) (bank .armed) ∧
      exec (.zeroCrossingEdge 200700) (bank .armed) = .next (after (.zeroCrossingEdge 200700) (bank .armed)) ∧
      (after (.zeroCrossingEdge 200700) (bank .armed)).dse.latest =
        some (latest (after (.zeroCrossingEdge 200700) (bank .armed))) ∧
      (bank .armed).rbi.round = none ∧ (polling 0 .setpoint false (bank .armed)).rbi.round ≠ none :=
  ⟨bringsSample_bank _, rfl, by decide, rfl, by decide⟩

theorem test_witness_EstimateAndRocof :
    0 < [200000].sum ∧ ([181819, 222222] ≠ [] ∧ ∀ p ∈ [181819, 222222], periodValid .hz50 p = true) ∧
      (0 < 1 ∧ [((5 : Tick), (0 : Int))].length ≤ 1) := by decide

/-- The curve that the worked figures use, with a df at its first and its last breakpoint and one on a segment's start. -/
theorem test_witness_ResponseCurve :
    curveFits workedCurve ∧
      (workedCurve = ⟨-800, 6000⟩ :: workedCurve.tail ∧ (-800 : Int) ≤ -800) ∧
      (workedCurve = workedCurve.dropLast ++ [⟨800, -6000⟩] ∧ (800 : Int) ≤ 800) ∧
      (workedCurve = [⟨-800, 6000⟩] ++ ⟨-200, 1500⟩ :: ⟨-20, 0⟩ :: workedCurve.drop 3 ∧
        (-200 : Int) ≤ -200 ∧ (-200 : Int) < -20) := by
  unfold curveFits breakpointFits; decide

/-- A VALID sample with df −137, and one in LOST. -/
theorem test_witness_DispatchDemand :
    (bringsSample (.zeroCrossingEdge 200700) (bank .armed) ∧
      exec (.zeroCrossingEdge 200700) (bank .armed) = .next (after (.zeroCrossingEdge 200700) (bank .armed)) ∧
      (after (.zeroCrossingEdge 200700) (bank .armed)).dse.latest =
        some (latest (after (.zeroCrossingEdge 200700) (bank .armed))) ∧
      (latest (after (.zeroCrossingEdge 200700) (bank .armed))).df = some (-137) ∧
      (latest (after (.zeroCrossingEdge 200700) (bank .armed))).rocof = some (-523)) ∧
    (bringsSample .missingEdgeTimeout State.reset ∧
      exec .missingEdgeTimeout State.reset = .next (after .missingEdgeTimeout State.reset) ∧
      (after .missingEdgeTimeout State.reset).dse.latest = some (latest (after .missingEdgeTimeout State.reset)) ∧
      (latest (after .missingEdgeTimeout State.reset)).state = .lost) :=
  ⟨⟨bringsSample_bank _, rfl, by decide, by decide, by decide⟩, ⟨rfl, .inl rfl⟩, rfl, by decide, by decide⟩

/-! ## The event monitor -/

/-- A VALID sample in ARMED that triggers nothing; a HOLDING one; one in LOST. -/
theorem test_witness_SampleClassified :
    (bringsSample (.zeroCrossingEdge 200700) (bank .armed) ∧ ModeInv (bank .armed) ∧ (bank .armed).evt.mode ≠ .event ∧
      exec (.zeroCrossingEdge 200700) (bank .armed) = .next (after (.zeroCrossingEdge 200700) (bank .armed)) ∧
      (after (.zeroCrossingEdge 200700) (bank .armed)).dse.latest =
        some (latest (after (.zeroCrossingEdge 200700) (bank .armed))) ∧
      (latest (after (.zeroCrossingEdge 200700) (bank .armed))).state = .valid ∧
      (triggersAt (bank .armed).evt (-137) (-523)) = ⟨false, false, false⟩) ∧
    (latest (after .missingEdgeTimeout (bank .armed))).state = .holding ∧
    (latest (after .missingEdgeTimeout State.reset)).state = .lost :=
  ⟨⟨bringsSample_bank _, modeInv_bank_armed, by decide, rfl, by decide, by decide, by decide⟩, by decide, by decide⟩

/-- With U at the magnitude of the deviation, −137, the sample triggers, in ARMED and in GUARD. -/
theorem test_witness_TriggerOpensEvent :
    let s := fun m => onEvt (fun e => { e with uThreshold := 137 }) (bank m)
    ∀ m ∈ [Mode.guard, Mode.armed],
      (after (.zeroCrossingEdge 200700) (s m)).dse.latest = some (latest (after (.zeroCrossingEdge 200700) (s m))) ∧
      (latest (after (.zeroCrossingEdge 200700) (s m))).state = .valid ∧
      (latest (after (.zeroCrossingEdge 200700) (s m))).df = some (-137) ∧
      (latest (after (.zeroCrossingEdge 200700) (s m))).rocof = some (-523) ∧
      (triggersAt (s m).evt (-137) (-523)).underHit = true ∧ (s m).evt.mode = m := by decide

/-- The rest of the hypotheses of TriggerOpensEvent, for the same states. -/
theorem test_witness_TriggerOpensEvent_mode :
    let s := fun m => onEvt (fun e => { e with uThreshold := 137 }) (bank m)
    ∀ m ∈ [Mode.guard, Mode.armed], bringsSample (.zeroCrossingEdge 200700) (s m) ∧
      exec (.zeroCrossingEdge 200700) (s m) = .next (after (.zeroCrossingEdge 200700) (s m)) ∧ ModeInv (s m) := by
  intro s m hm
  refine ⟨⟨rfl, .inr ⟨200700, rfl, rfl⟩⟩, rfl, ?_⟩
  simp only [List.mem_cons, List.not_mem_nil, or_false] at hm
  rcases hm with rfl | rfl
  · exact ⟨by decide, by decide, by decide, by decide, by decide, by decide, by decide⟩
  · exact ⟨by decide, by decide, by decide, by decide, by decide, by decide, by decide⟩

/-- In EVENT: a HOLDING sample, one in LOST, a retrigger, a deviation beyond the band, and, with the band set
to its magnitude, within it, with the hold met on its last tick. -/
theorem test_witness_EventRunsAndEnds :
    (bringsSample .missingEdgeTimeout (bankEvent none) ∧ ModeInv (bankEvent none) ∧
      (bankEvent none).evt.mode = .event ∧ (bankEvent none).evt.savedMode = some .armed ∧
      (bankEvent none).evt.history =
        [{ openRecord8 with number := 7, ended := some (4000, .recovered) }] ++ [openRecord8]) ∧
    (latest (after .missingEdgeTimeout (bankEvent none))).state = .holding ∧
    (latest (after .missingEdgeTimeout
      (onFmu (fun u => { u with state := .holding, invalid := 3 }) (bankEvent none)))).state = .lost ∧
    (triggersAt (onEvt (fun e => { e with uThreshold := 137 }) (bankEvent none)).evt (-137) (-523)).underHit = true ∧
    ((triggersAt (bankEvent none).evt (-137) (-523)) = ⟨false, false, false⟩ ∧ (bankEvent none).evt.band < 137) ∧
    (let s := onEvt (fun e => { e with band := 137, hold := 40 }) (bankEvent (some 50402200));
      (latest (after (.zeroCrossingEdge 200700) s)).df = some (-137) ∧ (-137 : Int).natAbs ≤ s.evt.band ∧
      s.evt.hold * 10000 ≤ ((50802200 : Tick) - 50402200).toNat) :=
  ⟨⟨⟨rfl, .inl rfl⟩, modeInv_bankEvent, rfl, rfl, rfl⟩, by decide⟩

/-! ## The rotor table and the power allocation -/

/-- Rotors OFFLINE, ONLINE and at the ends of the speed band, and hot, as in the worked figures of chapter 04. -/
theorem test_witness_DerivedValues :
    bringsSample (.zeroCrossingEdge 200700) (bank .armed) ∧
      exec (.zeroCrossingEdge 200700) (bank .armed) = .next (after (.zeroCrossingEdge 200700) (bank .armed)) ∧
      ((bank .armed).rotor 4).state = .offline ∧ ((bank .armed).rotor 0).state = .online ∧
      (road.rotor 8).state ≠ .online :=
  ⟨bringsSample_bank _, rfl, by decide, by decide, by decide⟩

theorem test_witness_ShareProcedure :
    ([⟨0, 83800, 400⟩, ⟨1, 32000, 320⟩] : List Candidate) = [⟨0, 83800, 400⟩] ++ ⟨1, 32000, 320⟩ :: [] := rfl

/-- The dispatch of the worked figures of chapter 05: slot 4 is not ONLINE, slot 0 is, and the demand is at least 0; at
the expiry in IDLE it is exactly 0. -/
theorem test_witness_DispatchWithinLimits :
    let t := after (.zeroCrossingEdge 200700) (bank .armed)
    (bringsSample (.zeroCrossingEdge 200700) (bank .armed) ∧ exec (.zeroCrossingEdge 200700) (bank .armed) = .next t ∧
      t.dse.latest = some (latest t)) ∧
    (t.rotor 4).state ≠ .online ∧ (t.rotor 0).state = .online ∧ 0 ≤ (latest t).demand ∧
    (latest (after .missingEdgeTimeout (bank .idle))).demand = 0 :=
  ⟨⟨bringsSample_bank _, rfl, by decide⟩, by decide, by decide, by decide, by decide⟩

/-- A slot with no room: slot 4, which is OFFLINE. -/
theorem test_witness_FrequencyPassServes :
    let t := after (.zeroCrossingEdge 200700) (bank .armed)
    (bringsSample (.zeroCrossingEdge 200700) (bank .armed) ∧ exec (.zeroCrossingEdge 200700) (bank .armed) = .next t ∧
      t.dse.latest = some (latest t)) ∧
    (t.rotor 4).state ≠ .online ∧ (latest t).demand = 975 ∧
      (⟨0, 400⟩ : Share) ∈ shareOut 975 [⟨0, 83800, 400⟩, ⟨1, 32000, 320⟩, ⟨2, 25000, 250⟩, ⟨3, 52200, 250⟩] :=
  ⟨⟨bringsSample_bank _, rfl, by decide⟩, by decide, by decide, by decide⟩

theorem test_witness_OrdersAtDispatch :
    let s := onOrl (fun l => { l with orders := [{ order17 with status := .waiting }] }) (bank .armed)
    let t := after (.zeroCrossingEdge 200700) s
    bringsSample (.zeroCrossingEdge 200700) s ∧ OrderInv s ∧ exec (.zeroCrossingEdge 200700) s = .next t ∧
      t.dse.latest = some (latest t) :=
  ⟨⟨rfl, .inr ⟨200700, rfl, rfl⟩⟩, orderInv_bank _ _ (by decide) (by decide), rfl, by decide⟩

/-- Order 17 supplied in ARMED; and no order in IDLE. -/
theorem test_witness_OrderPassServes :
    let s := fun m => onOrl (fun l => { l with orders := [{ order17 with status := .waiting }] }) (bank m)
    let t := fun m => after (.zeroCrossingEdge 200700) (s m)
    (bringsSample (.zeroCrossingEdge 200700) (s .armed) ∧ OrderInv (s .armed) ∧
      exec (.zeroCrossingEdge 200700) (s .armed) = .next (t .armed) ∧ (t .armed).dse.latest = some (latest (t .armed)) ∧
      order17 ∈ ordersAsked (s .armed) (t .armed).evt.mode (latest (t .armed)).plantTime ∧
      (latest (t .armed)).orderId = some order17.id ∧
      (allSlots.filter fun i => servesOrder 200 900 order17 ((t .armed).rotor i)) = [1, 3] ∧
      (⟨1, 121⟩ : Share) ∈ shareOut 300
        [⟨1, weightForOrder 200 900 order17 ((t .armed).rotor 1), 121⟩, ⟨3, weightForOrder 200 900 order17 ((t .armed).rotor 3), 0⟩]) ∧
    (OrderInv (s .idle) ∧ (latest (t .idle)).orderId = none) :=
  ⟨⟨⟨rfl, .inr ⟨200700, rfl, rfl⟩⟩, orderInv_bank _ _ (by decide) (by decide), rfl, by decide, by decide, by decide,
      by decide, by decide⟩,
    orderInv_bank _ _ (by decide) (by decide), by decide⟩

/-- One joule less than the remaining quota, and exactly the remaining quota; a repeat part with a run left, with none
left, and no repeat part; and the group SoC of the worked figures of chapter 06. -/
theorem test_witness_OrderAccounting :
    (49999999 + order17.residue) / 10000 < order17.remaining ∧
      order17.remaining ≤ (50000000 + order17.residue) / 10000 ∧
      (order17.repeats = some ⟨1, .above, 500⟩ ∧ (1 : Nat) ≠ 0) ∧
      (∀ r, ({ order17 with repeats := none } : Order).repeats = some r → r.count = 0) ∧
      groupSoc ((after (.zeroCrossingEdge 200700) (bank .armed)).groupOnline 0) = 526 :=
  ⟨by decide, by decide, by decide, fun _ h => (nomatch h), by decide⟩

/-! ## The bank stop input -/

/-- A level held 99 ticks, and 100; a released and an asserted line; in EVENT and out of it. -/
theorem test_witness_StopInputHaltsAndReleases :
    (road.supply = .up ∧ 99 < 100) ∧
      (100 ≤ 100 ∧ road.evt.stopLevel = .released ∧ ModeInv road ∧ road.evt.mode ≠ .event ∧ RoadInv road ∧
        movingState (road.rotor 0).state = true ∧ movingState (road.rotor 8).state = false ∧ road.lif.mask.rotor = true) ∧
      ((bankEvent none).evt.stopLevel = .released ∧ ModeInv (bankEvent none) ∧ (bankEvent none).evt.mode = .event ∧
        (bankEvent none).evt.history =
          [{ openRecord8 with number := 7, ended := some (4000, .recovered) }] ++ [openRecord8]) ∧
      (onEvt (fun e => { e with stopLevel := .asserted, mode := .halted }) road).evt.stopLevel = .asserted ∧
      (∀ status, OrderInv (onOrl (fun l => { l with orders := [{ order17 with status := status }] }) (bank .armed))) :=
  ⟨⟨rfl, by decide⟩, ⟨by decide, rfl, modeInv_road, by decide, roadInv_road, by decide, by decide, rfl⟩,
    ⟨rfl, modeInv_bankEvent, rfl, rfl⟩, rfl, fun _ => orderInv_bank _ _ (by decide) (by decide)⟩

/-! ## The supervisory link -/

/-- Hunting; assembly before LEN, with a LEN of 240 and of 241, and at the last byte; a complete frame; a gap timer that
runs and one that does not. -/
theorem test_witness_ReceiverTakesBytes :
    (State.reset.supply = .up ∧ State.reset.lif.receiver = .hunting) ∧
      (([0xC3, 1] : List Byte) ++ [2]).length < 4 ∧
      (4 ≤ (([0xC3, 1, 1] : List Byte) ++ [240]).length ∧
        ((([0xC3, 1, 1] : List Byte) ++ [240])[3]?).map BitVec.toNat = some 240) ∧
      ((([0xC3, 1, 1] : List Byte) ++ [241])[3]?).map BitVec.toNat = some 241 ∧
      (([0xC3, 1, 1, 0, 0x10] : List Byte) ++ [0x20]).length = 6 + 0 ∧
      (onLif (fun l => { l with receiver := .complete [0xC3, 1, 1, 0, 0, 0] }) State.reset).lif.receiver =
        .complete [0xC3, 1, 1, 0, 0, 0] ∧
      State.reset.lif.gapExpiry = none ∧
      (onLif (fun l => { l with gapExpiry := some 50000 }) State.reset).lif.gapExpiry = some 50000 := by decide

/-- A frame whose check agrees, of a known kind with its length, of a known kind with another, of an unknown kind; and one
whose check does not agree; the slot empty and occupied. -/
theorem test_witness_FrameCompletedChecks :
    let s := onLif (fun l => { l with receiver := .complete (linkFrame 0x05 7 [2]) }) State.reset
    (s.supply = .up ∧ s.lif.receiver = .complete (linkFrame 0x05 7 [2]) ∧ s.lif.slot = none ∧
      (linkFrame 0x05 7 [2]).drop 5 = crcBytes (((linkFrame 0x05 7 [2]).drop 1).take 4) ∧
      requestKindByte .setMode = 0x05 ∧ fixedLength .setMode = some [(2 : Byte)].length) ∧
      (fixedLength .setMode = some 1 ∧ ([] : List Byte).length ≠ 1) ∧
      (∀ k, requestKindByte k ≠ 0x70) ∧
      ([0xC3, 2, 7, 0, 0, 0] : List Byte).drop 4 ≠ crcBytes [2, 7, 0] ∧
      (asking .setMode [2] s).lif.slot ≠ none := by
  refine ⟨by decide, by decide, ?_, by decide, by decide⟩
  intro k; cases k <;> decide

/-- A payload of the largest length. -/
theorem test_witness_LinkFrameIsRead :
    State.reset.supply = .up ∧ State.reset.lif.receiver = .hunting ∧ (List.replicate 240 (0 : Byte)).length ≤ 240 ∧
      requestKindByte .setMode = 0x05 ∧ (∀ n, fixedLength .setMode = some n → [(2 : Byte)].length = n) ∧
      State.reset.lif.slot = none :=
  ⟨rfl, rfl, by decide, rfl, by intro n h; exact Option.some.inj h, rfl⟩

/-- The transmitter free with a reply waiting, sending a reply, and sending a notice; each kind of notice the lowest one
pending. -/
theorem test_witness_TransmitterSendsRepliesAndNotices :
    let free := fun p => onLif (fun l => { l with pendingNotices := p }) (bankEvent none)
    (State.reset.supply = .up ∧ (after .identify (asking .identify [] State.reset)).lif.waiting.isSome = true ∧
      (after .identify (asking .identify [] State.reset)).lif.sending = none) ∧
    (after .start State.reset).lif.sending.map (fun f => f.isReply) = some false ∧
    (onLif (fun l => { l with sending := some ⟨[], true⟩ }) State.reset).lif.sending = some ⟨[], true⟩ ∧
    ((free NoticeSet.all).lif.sending = none ∧ (free NoticeSet.all).lif.waiting = none) ∧
    (bankEvent none).evt.history =
      [{ openRecord8 with number := 7, ended := some (4000, .recovered) }] ++ [openRecord8] ∧
    (free NoticeSet.all).lif.pendingNotices.lowest = some .start ∧
    (free ⟨false, true, true, true, true, true⟩).lif.pendingNotices.lowest = some .event ∧
    (free ⟨false, false, true, true, true, true⟩).lif.pendingNotices.lowest = some .rotor ∧
    (free ⟨false, false, false, true, true, true⟩).lif.pendingNotices.lowest = some .order ∧
    (free ⟨false, false, false, false, true, true⟩).lif.pendingNotices.lowest = some .measurement ∧
    (free ⟨false, false, false, false, false, true⟩).lif.pendingNotices.lowest = some .halt :=
  ⟨⟨rfl, rfl, rfl⟩, rfl, rfl, ⟨rfl, rfl⟩, rfl, rfl, rfl, rfl, rfl, rfl, rfl⟩

/-! ## Requests -/

theorem test_witness_ReadRequestsReport :
    (asking .identify [] road).asks .identify 7 [] ∧ (asking .status [] road).asks .status 7 [] ∧
      (asking .readCurve [] road).asks .readCurve 7 [] ∧ (asking .readEvents [] road).asks .readEvents 7 [] ∧
      (asking .listOrders [] road).asks .listOrders 7 [] :=
  ⟨asks_asking _ _ rfl, asks_asking _ _ rfl, asks_asking _ _ rfl, asks_asking _ _ rfl, asks_asking _ _ rfl⟩

/-- A mask of 63 and one of 64; RESTART outside IDLE, in IDLE with an ONLINE rotor, in IDLE with none. -/
theorem test_witness_StatusUnitAndLinkRequests :
    (asking .clearSummary [] road).asks .clearSummary 7 [] ∧
      (asking .setClock [0, 0, 0, 0, 0, 1] road).asks .setClock 7 [0, 0, 0, 0, 0, 1] ∧
      ((asking .setNotices [63] road).asks .setNotices 7 [63] ∧ (63 : Byte).toNat < 64) ∧
      ((asking .setNotices [64] road).asks .setNotices 7 [64] ∧ 64 ≤ (64 : Byte).toNat) ∧
      ((asking .restart [] (bank .guard)).asks .restart 7 [] ∧ (bank .guard).evt.mode ≠ .idle) ∧
      ((bank .idle).evt.mode = .idle ∧ ((bank .idle).rotor 0).state ≠ .offline ∧ ((bank .idle).rotor 0).state ≠ .parked) ∧
      (State.reset.evt.mode = .idle ∧
        ∀ i, (State.reset.rotor i).state = .offline ∨ (State.reset.rotor i).state = .parked) :=
  ⟨asks_asking _ _ rfl, asks_asking _ _ rfl, ⟨asks_asking _ _ rfl, by decide⟩, ⟨asks_asking _ _ rfl, by decide⟩,
    ⟨asks_asking _ _ rfl, by decide⟩, by decide, by decide⟩

/-- The codes 2 and 3, in IDLE, EVENT and HALTED. -/
theorem test_witness_SetMode :
    ((asking .setMode [3] (bank .idle)).asks .setMode 7 [3] ∧ 2 < field [3] 0 1) ∧
      ((asking .setMode [2] (bank .idle)).asks .setMode 7 [2] ∧ field [2] 0 1 = 2 ∧ (bank .idle).evt.mode = .idle) ∧
      (bankEvent none).evt.mode = .event ∧ (bank .halted).evt.mode = .halted :=
  ⟨⟨asks_asking _ _ rfl, by decide⟩, ⟨asks_asking _ _ rfl, by decide, rfl⟩, rfl, rfl⟩

theorem test_witness_SetMeasurement :
    ((asking .setMeasurement [50, 8, 16] (bank .armed)).asks .setMeasurement 7 [50, 8, 16] ∧
      (bank .armed).evt.mode ≠ .idle) ∧
      ((asking .setMeasurement [51, 8, 16] (bank .idle)).asks .setMeasurement 7 [51, 8, 16] ∧
        field [51, 8, 16] 0 1 ≠ 50 ∧ field [51, 8, 16] 0 1 ≠ 60) ∧
      ((asking .setMeasurement [60, 8, 16] (bank .idle)).asks .setMeasurement 7 [60, 8, 16] ∧
        (bank .idle).evt.mode = .idle ∧ field [60, 8, 16] 0 1 = 60 ∧ field [60, 8, 16] 1 1 = 8 ∧
        field [60, 8, 16] 2 1 = 16) :=
  ⟨⟨asks_asking _ _ rfl, by decide⟩, ⟨asks_asking _ _ rfl, by decide⟩, asks_asking _ _ rfl, by decide⟩

/-- Edge modes 0, 3 and 4; a floor one below the ceiling, and equal to it. -/
theorem test_witness_SetEventAndBankLimits :
    let e : List Byte := [0, 20, 0, 20, 3, 0, 0, 0, 10, 0, 0, 0, 0]
    ((asking .setEvent e road).asks .setEvent 7 e ∧ field e 4 1 = 3) ∧
      field [0, 20, 0, 20, 0, 0, 0, 0, 10, 0, 0, 0, 0] 4 1 = 0 ∧ 3 < field [0, 20, 0, 20, 4, 0, 0, 0, 10, 0, 0, 0, 0] 4 1 ∧
      (let p : List Byte := [0, 0, 0, 0, 0, 200, 0, 201, 0, 60];
        (asking .setBankLimits p road).asks .setBankLimits 7 p ∧ min 1000 (field p 4 2) < min 1000 (field p 6 2)) ∧
      (let p : List Byte := [0, 0, 0, 0, 0, 200, 0, 200, 0, 60];
        (asking .setBankLimits p road).asks .setBankLimits 7 p ∧ min 1000 (field p 6 2) ≤ min 1000 (field p 4 2)) :=
  ⟨⟨asks_asking _ _ rfl, by decide⟩, by decide, by decide, ⟨asks_asking _ _ rfl, by decide⟩, asks_asking _ _ rfl, by decide⟩

/-- A curve of two breakpoints that ascends, one that does not, and a count of 1. -/
theorem test_witness_SetCurve :
    (let p : List Byte := [2, 0, 0, 0, 0, 0, 0, 0, 0, 0, 1, 0, 0];
      (asking .setCurve p road).asks .setCurve 7 p ∧ p.length = 1 + 6 * field p 0 1 ∧ 2 ≤ field p 0 1 ∧
        field p 0 1 ≤ 12 ∧ ([signedField p 1 4, signedField p 7 4]).Pairwise (· < ·)) ∧
      (let p : List Byte := [2, 0, 0, 0, 1, 0, 0, 0, 0, 0, 1, 0, 0];
        (asking .setCurve p road).asks .setCurve 7 p ∧ p.length = 1 + 6 * field p 0 1 ∧
          ¬ ([signedField p 1 4, signedField p 7 4]).Pairwise (· < ·)) ∧
      (let p : List Byte := [1, 0, 0, 0, 0, 0, 0];
        (asking .setCurve p road).asks .setCurve 7 p ∧ field p 0 1 < 2) :=
  ⟨⟨asks_asking _ _ rfl, by decide, by decide, by decide, by decide⟩, ⟨asks_asking _ _ rfl, by decide, by decide⟩,
    asks_asking _ _ rfl, by decide⟩

/-- Parts 0, 1 and 2; a capture held and none. -/
theorem test_witness_SnapshotParts :
    ((asking .snapshot [0] road).asks .snapshot 7 [0] ∧ field [0] 0 1 = 0) ∧
      ((asking .snapshot [2] road).asks .snapshot 7 [2] ∧ 1 < field [2] 0 1) ∧
      ((asking .snapshot [1] road).asks .snapshot 7 [1] ∧ field [1] 0 1 = 1 ∧ road.stu.capture = none) ∧
      (onStu (fun u => { u with capture := some road.captureNow }) road).stu.capture = some road.captureNow :=
  ⟨⟨asks_asking _ _ rfl, by decide⟩, ⟨asks_asking _ _ rfl, by decide⟩, ⟨asks_asking _ _ rfl, by decide, rfl⟩, rfl⟩

/-- ENROL of slot 14 with smin 8,000, sbase and smax at the edges of R59; of slot 16; in HALTED; of an occupied slot; with
role byte 16. -/
theorem test_witness_EnrolFillsRecord :
    let p : List Byte := [14, 3, 0x0F, 0, 10, 0, 0, 0x03, 0xE8, 0x1F, 0x40, 0x1F, 0x41, 0x23, 0x28, 40]
    ((asking .enrol p road).asks .enrol 7 p ∧ namesSlot p 14 ∧ road.evt.mode ≠ .halted ∧
      (road.rotor 14).state = .offline ∧ field p 1 1 = (3 : Fin 4).val ∧ field p 2 1 = (0x0F : Byte).toNat ∧
      (0x0F : Byte).toNat < 16 ∧ field p 9 2 < field p 11 2 ∧ field p 11 2 ≤ field p 13 2 ∧
      field p 9 2 + 1000 ≤ field p 13 2) ∧
    namesNoSlot [16] ∧ (bank .halted).evt.mode = .halted ∧ (road.rotor 0).state ≠ .offline ∧ 15 < field [14, 3, 16] 2 1 :=
  ⟨⟨asks_asking _ _ rfl, by unfold namesSlot; decide, by decide, by decide, by decide, by decide, by decide, by decide,
    by decide, by decide⟩, by unfold namesNoSlot; decide, rfl, by decide, by decide⟩

/-- Slot 8, PARKED; slot 11, TRIPPED with cause FAULT; a poll in flight to slot 8. -/
theorem test_witness_ReleaseEmptiesSlot :
    ((asking .release [8] road).asks .release 7 [8] ∧ namesSlot [8] 8 ∧ (road.rotor 8).state = .parked) ∧
      ((asking .release [11] road).asks .release 7 [11] ∧ namesSlot [11] 11 ∧ (road.rotor 11).state = .tripped ∧
        (road.rotor 11).cause ≠ some .lost) ∧
      (polling 8 .hold false road).rbi.inFlight.isSome = true ∧ namesNoSlot [16] :=
  ⟨⟨asks_asking _ _ rfl, by unfold namesSlot; decide, by decide⟩,
    ⟨asks_asking _ _ rfl, by unfold namesSlot; decide, by decide, by decide⟩, rfl, by unfold namesNoSlot; decide⟩

theorem test_witness_SpinUpAndResetFault :
    ((asking .spinUp [8] road).asks .spinUp 7 [8] ∧ namesSlot [8] 8 ∧ road.evt.mode ≠ .halted ∧
      (road.rotor 8).state = .parked) ∧
      ((asking .spinUp [8] (bank .halted)).asks .spinUp 7 [8] ∧ (bank .halted).evt.mode = .halted) ∧
      ((asking .spinUp [0] road).asks .spinUp 7 [0] ∧ (road.rotor 0).state ≠ .parked) ∧
      ((asking .resetFault [11] road).asks .resetFault 7 [11] ∧ namesSlot [11] 11 ∧ (road.rotor 11).state = .tripped ∧
        (road.rotor 11).flags.atRest = true ∧ (road.rotor 11).faultCode = .none ∧ (road.rotor 11).lateCount = 0 ∧
        RoadInv road) ∧
      ((asking .resetFault [8] road).asks .resetFault 7 [8] ∧ (road.rotor 8).state ≠ .tripped) ∧ namesNoSlot [16] :=
  ⟨⟨asks_asking _ _ rfl, by unfold namesSlot; decide, by decide, by decide⟩, ⟨asks_asking _ _ rfl, rfl⟩,
    ⟨asks_asking _ _ rfl, by decide⟩,
    ⟨asks_asking _ _ rfl, by unfold namesSlot; decide, by decide, by decide, by decide, by decide, roadInv_road⟩,
    ⟨asks_asking _ _ rfl, by decide⟩, by unfold namesNoSlot; decide⟩

/-- PARK in every state that it is accepted in, and in one that it is not; and of an ONLINE rotor in EVENT. -/
theorem test_witness_ParkTakesOffTheRoad :
    ((asking .park [0] road).asks .park 7 [0] ∧ namesSlot [0] 0 ∧ RoadInv road) ∧
      ((road.rotor 6).state = .lifting ∧ (road.rotor 7).state = .spinupWait ∧ (road.rotor 1).state = .accelerating ∧
        (road.rotor 5).state = .syncWait ∧ (road.rotor 0).state = .syncing ∧
        ((road.rotor 13).state = .online ∧ road.evt.mode ≠ .event)) ∧
      (road.rotor 8).state = .parked ∧
      (((bankEvent none).rotor 0).state = .online ∧ (bankEvent none).evt.mode = .event) ∧ namesNoSlot [16] :=
  ⟨⟨asks_asking _ _ rfl, by unfold namesSlot; decide, roadInv_road⟩, by decide, by decide, by decide,
    by unfold namesNoSlot; decide⟩

theorem test_witness_SetRotorLimitsAndRole :
    ((asking .setRotorLimits [1, 0, 10, 40] road).asks .setRotorLimits 7 [1, 0, 10, 40] ∧ namesSlot [1, 0, 10, 40] 1 ∧
      (road.rotor 1).state ≠ .offline) ∧
      ((asking .setRotorRole [1, 3, 15] road).asks .setRotorRole 7 [1, 3, 15] ∧ namesSlot [1, 3, 15] 1 ∧
        field [1, 3, 15] 1 1 = (3 : Fin 4).val ∧ field [1, 3, 15] 2 1 = (15 : Byte).toNat ∧ (15 : Byte).toNat < 16) ∧
      (3 < field [1, 4, 15] 1 1 ∧ 15 < field [1, 3, 16] 2 1) ∧ (namesSlot [14] 14 ∧ (road.rotor 14).state = .offline) ∧
      namesNoSlot [16] :=
  ⟨⟨asks_asking _ _ rfl, by unfold namesSlot; decide, by decide⟩,
    ⟨asks_asking _ _ rfl, by unfold namesSlot; decide, by decide, by decide, by decide⟩, by decide,
    ⟨by unfold namesSlot; decide, by decide⟩, by unfold namesNoSlot; decide⟩

theorem test_witness_RotorStatusReportsThenClears :
    ((asking .rotorStatus [1, 3] road).asks .rotorStatus 7 [1, 3] ∧ namesSlot [1, 3] 1 ∧
      field [1, 3] 1 1 = (3 : Byte).toNat ∧ (3 : Byte).toNat < 4 ∧ (road.rotor 1).state ≠ .offline) ∧
      3 < field [1, 4] 1 1 ∧ (road.rotor 14).state = .offline ∧ namesNoSlot [16, 0] :=
  ⟨⟨asks_asking _ _ rfl, by unfold namesSlot; decide, by decide, by decide, by decide⟩, by decide, by decide,
    by unfold namesNoSlot; decide⟩

/-- An order with every optional part; an empty payload; a presence mask of 8; a length that the mask does not give; an
id of 0; a full list; an id in use; a deadline at the start, and at the present plant time. -/
theorem test_witness_PlaceOrderAdmits :
    let p : List Byte :=
      [7, 0, 1, 1, 0, 0, 1, 0, 0, 0, 1, 0, 0, 0, 0, 0x27, 0x10, 0, 0, 0, 0, 0x27, 0x11, 1, 1, 0, 0]
    ((asking .placeOrder p (bank .armed)).asks .placeOrder 7 p ∧ field p 0 1 < 8 ∧ p.length = 27 ∧ field p 1 2 = 1 ∧
      field p 3 1 = 1 ∧ field p 4 1 = (0 : Fin 4).val ∧ field p 24 1 = 1 ∧ field p 11 6 = 10000 ∧ field p 17 6 = 10001 ∧
      (bank .armed).plantTime = 5060 ∧ (bank .armed).evt.mode ≠ .halted ∧ (bank .armed).orl.orders.length < 8 ∧
      ∀ o ∈ (bank .armed).orl.orders, o.id ≠ 1) ∧
    (asking .placeOrder [] (bank .armed)).asks .placeOrder 7 [] ∧ 8 ≤ field [8] 0 1 ∧
    (field [7] 0 1 < 8 ∧ [(7 : Byte)].length ≠ 27) ∧ field [0, 0, 0] 1 2 = 0 ∧
    8 ≤ (onOrl (fun l => { l with orders := List.replicate 8 order17 }) (bank .armed)).orl.orders.length ∧
    (∃ o ∈ (bank .armed).orl.orders, o.id = 17) ∧ (bank .halted).evt.mode = .halted ∧
    ((10001 : Nat) ≤ 10001 ∧ (5060 : Nat) ≤ (bank .armed).plantTime) :=
  ⟨⟨asks_asking _ _ rfl, by decide⟩, asks_asking _ _ rfl, by decide⟩

/-- Order 17 in each state that the two requests tell apart; an id of 0; an id that no record holds. -/
theorem test_witness_CancelAndResumeOrder :
    let s := fun st => onOrl (fun l => { l with orders := [{ order17 with status := st }] }) (bank .armed)
    (∀ st, (asking .cancelOrder [0, 17] (s st)).asks .cancelOrder 7 [0, 17] ∧
        (asking .resumeOrder [0, 17] (s st)).asks .resumeOrder 7 [0, 17] ∧
        (s st).orl.orders = [] ++ { order17 with status := st } :: [] ∧ OrderInv (s st)) ∧
      (field [0, 17] 0 2 ≠ 0 ∧ order17.id = field [0, 17] 0 2) ∧ field [0, 0] 0 2 = 0 ∧
      (∀ o ∈ (bank .armed).orl.orders, o.id ≠ field [0, 18] 0 2) ∧ (OrderStatus.done .quota).terminal = true ∧
      OrderStatus.active.terminal = false :=
  ⟨fun _ => ⟨asks_asking _ _ rfl, asks_asking _ _ rfl, rfl, orderInv_bank _ _ (by decide) (by decide)⟩, by decide, by decide,
    by decide, rfl, rfl⟩

theorem test_witness_OrderStatusReportsThenRetires :
    let s := fun st => onOrl (fun l => { l with orders := [{ order17 with status := st }] }) (bank .armed)
    (∀ st, (asking .orderStatus [0, 17] (s st)).asks .orderStatus 7 [0, 17] ∧
        (s st).orl.orders = [] ++ { order17 with status := st } :: [] ∧ OrderInv (s st) ∧ NoticeInv (s st)) ∧
      (field [0, 17] 0 2 ≠ 0 ∧ order17.id = field [0, 17] 0 2) ∧ field [0, 0] 0 2 = 0 ∧
      (∀ o ∈ (bank .armed).orl.orders, o.id ≠ field [0, 18] 0 2) ∧ OrderStatus.expired.terminal = true ∧
      OrderStatus.waiting.terminal = false :=
  ⟨fun st => ⟨asks_asking _ _ rfl, rfl, orderInv_bank _ _ (by decide) (by decide), noticeInv_bank st .armed⟩, by decide,
    by decide, by decide, rfl, rfl⟩

/-! ## The rotor bus and the rotor timers -/

/-- No round; a poll in flight; a slot part whose head is PARKED, and whose head is OFFLINE; a probe part; no turn left; the
bus quiet, and a frame half received. -/
theorem test_witness_PollSendsNextTurn :
    (road.supply = .up ∧ road.rbi.round = none) ∧ (polling 13 .setpoint false road).rbi.inFlight ≠ none ∧
      (let s := onRbi (fun b => { b with round := some ⟨Vector.ofFn fun _ => 0, [8, 14], [10]⟩ }) road;
        s.rbi.inFlight = none ∧ (s.rbi.round.map fun r => r.slotPart) = some (8 :: [14]) ∧
          pollTable (s.rotor 8).state = some .hold ∧ pollTable (s.rotor 14).state = none) ∧
      (let s := onRbi (fun b => { b with round := some ⟨Vector.ofFn fun _ => 0, [], [10]⟩ }) road;
        (s.rbi.round.map fun r => (r.slotPart, r.probePart)) = some ([], 10 :: [])) ∧
      (let s := onRbi (fun b => { b with round := some ⟨Vector.ofFn fun _ => 0, [], []⟩ }) road;
        (s.rbi.round.map fun r => (r.slotPart, r.probePart)) = some ([], [])) ∧
      road.rbi.assembly = [] ∧ (onRbi (fun b => { b with assembly := [0xB2, 3] }) road).rbi.assembly ≠ [] := by decide

/-- Fields at the ends of their ranges; a slot byte of 16; fewer than twelve bytes, and ten after a 0xB2. -/
theorem test_witness_ReplyFrameIsRead :
    ((∀ b ∈ [(0 : Byte)], b ≠ 0xB2#8) ∧ (65535 : Nat) < 65536 ∧ (-32768 : Int) ≤ -32768 ∧ (32767 : Int) ≤ 32767 ∧
      (-128 : Int) ≤ -128 ∧ (127 : Int) ≤ 127) ∧
      (15 < (16 : Byte).toNat ∧ ([0, 0, 0, 0, 0, 0, 0] : List Byte).length = 7 ∧ ([0, 0] : List Byte).length = 2) ∧
      ([0, 0] : List Byte) ≠ crcBytes ([0xB2#8, 3, 1] ++ [0, 0, 0, 0, 0, 0, 0]) ∧
      (List.replicate 11 (0xB2 : Byte)).length < 12 ∧ (List.replicate 10 (0xB2 : Byte)).length < 11 := by decide

/-- A reply at the tick the window opens and at the tick it closes; its bytes in one command, and the last of them after a
half received frame; to a poll abandoned and not; and no poll in flight. -/
theorem test_witness_MatchingReplyIsDelivered :
    (let s := polling 10 .ident false road;
      let m : ModuleReport := ⟨10, 0x2C, 9500, 0, 40, ⟨false, false, false, false, false⟩, .bearing⟩;
      (s.supply = .up ∧ replyBytes 10 0x2C 9500 0 2 ≠ [] ∧
        (assembleReply (s.rbi.assembly ++ replyBytes 10 0x2C 9500 0 2)).bind readReply = some m ∧
        (assembleReply ([0xB2, 10] ++ (replyBytes 10 0x2C 9500 0 2).drop 2)).bind readReply = some m ∧
        s.rbi.inFlight.map (fun p => (p.slot, p.tag, p.abandoned)) = some (m.slot, m.tag, false) ∧
        ((4000 : Tick) - (0 + BitVec.ofNat 64 0)).toNat ≤ 4000 ∧ ((4000 : Tick) - (0 + BitVec.ofNat 64 4000)).toNat ≤ 4000 ∧
        s.rbi.inFlight.map (fun p => p.windowClose) = some 4000)) ∧
      (polling 10 .ident true road).rbi.inFlight.map (fun p => p.abandoned) = some true ∧ road.rbi.inFlight = none := by
  decide

/-- MatchingReplyIsDelivered and LatePollIsCounted also ask for RoadInv: a poll in flight does not change it. -/
theorem test_witness_RoadInv_polling (i : Slot) (command : PollCommand) (a : Bool) : RoadInv (polling i command a road) :=
  roadInv_onRbi roadInv_road _

theorem test_witness_LatePollIsCounted :
    (road.supply = .up ∧ road.rbi.inFlight = none) ∧
      (polling 13 .setpoint false road).rbi.inFlight.map (fun p => p.abandoned) = some false ∧
      (polling 13 .setpoint true road).rbi.inFlight.map (fun p => p.abandoned) = some true ∧
      afterLate (road.rotor 13) = { road.rotor 13 with lateCount := 1 } ∧ RoadInv (polling 13 .setpoint false road) :=
  ⟨by decide, by decide, by decide, by decide, roadInv_onRbi roadInv_road _⟩

theorem test_witness_RotorTimersExpire :
    road.supply = .up ∧ RoadInv road ∧ TableInv road ∧
      ((road.rotor 6).state = .lifting ∧ road.rsq.timer 6 = some 50000000) ∧
      ((road.rotor 1).state = .accelerating ∧ road.rsq.timer 1 = some 9000000000) ∧
      ((road.rotor 0).state = .syncing ∧ road.rsq.timer 0 = some 20000000) ∧ road.rsq.timer 8 = none :=
  ⟨rfl, roadInv_road, tableInv_road, by decide, by decide, by decide, by decide⟩

/-- The sync timer of a third attempt. -/
def thirdAttempt : State := road.setRotor 0 { road.rotor 0 with attempts := 3 }

/-- The sync timer of a rotor with no other behind it. -/
def aloneAtTheUnit : State :=
  onRsq (fun q => { q with syncQueue := [] }) (road.setRotor 5 { road.rotor 5 with state := .parked })

/-- RotorTimersExpire at the end of a third attempt, and of an attempt with the sync queue empty. -/
theorem test_witness_RotorTimersExpire_sync :
    ((thirdAttempt.rotor 0).state = .syncing ∧ (thirdAttempt.rotor 0).attempts = 3 ∧
        thirdAttempt.rsq.timer 0 = some 20000000 ∧ RoadInv thirdAttempt ∧ TableInv thirdAttempt) ∧
      (aloneAtTheUnit.rotor 0).state = .syncing ∧ aloneAtTheUnit.rsq.syncQueue = [] ∧
        aloneAtTheUnit.rsq.timer 0 = some 20000000 ∧ RoadInv aloneAtTheUnit ∧ TableInv aloneAtTheUnit :=
  ⟨⟨by decide, by decide, by decide,
      ⟨by decide, by decide, by decide, by decide, by decide, by decide, by decide, by decide, by decide, by decide⟩,
      tableInv_of (by decide)⟩,
    by decide, rfl, by decide,
      ⟨by decide, by decide, by decide, by decide, by decide, by decide, by decide, by decide, by decide, by decide⟩,
      tableInv_of (by decide)⟩

/-! ## What every step keeps: a state that meets each invariant, and a step from it -/

theorem test_witness_StepKeepsModeInv :
    let s := (bankEvent (some 50402200)).withPending [.zeroCrossingEdge 200700]
    ModeInv s ∧ step s = .next (after (.zeroCrossingEdge 200700) (bankEvent (some 50402200))) :=
  ⟨⟨by decide, by decide, by decide, by decide, by decide, by decide, by decide⟩, rfl⟩

theorem test_witness_StepKeepsRoadInv :
    let s := road.withPending [.liftTimerExpiry 6]
    RoadInv s ∧ step s = .next (after (.liftTimerExpiry 6) road) :=
  ⟨roadInv_withPending roadInv_road _, rfl⟩

theorem test_witness_StepKeepsTableInv :
    let s := road.withPending [.syncTimerExpiry 0]
    RoadInv s ∧ TableInv s ∧ step s = .next (after (.syncTimerExpiry 0) road) :=
  ⟨roadInv_withPending roadInv_road _, tableInv_road, rfl⟩

theorem test_witness_StepKeepsOrderInv :
    let b := onOrl (fun l => { l with orders := [{ order17 with status := .waiting }] }) (bank .armed)
    let s := b.withPending [.zeroCrossingEdge 200700]
    OrderInv s ∧ step s = .next (after (.zeroCrossingEdge 200700) b) := by
  refine ⟨?_, rfl⟩
  obtain ⟨h1, h2, h3, h4, h5, h6⟩ := orderInv_bank .waiting .armed (by decide) (by decide)
  exact ⟨h1, h2, h3, h4, h5, h6⟩

theorem test_witness_StepKeepsNoticeInv :
    let s := road.withPending [.stopAssertion 0 100]
    NoticeInv s ∧ step s = .next (after (.stopAssertion 0 100) road) :=
  ⟨⟨by intro k _; cases k <;> rfl, rfl, rfl⟩, rfl⟩

theorem test_witness_StepKeepsLinkInv :
    let b := onLif (fun l => { l with receiver := .assembling [0xC3, 2, 7, 0, 0], gapExpiry := some 50000 }) State.reset
    let s := b.withPending [.linkByteReceived 217 0 false]
    LinkInv s ∧ step s = .next (after (.linkByteReceived 217 0 false) b) :=
  ⟨⟨by decide, by decide, by decide, .inr (by decide), by decide⟩, rfl⟩

theorem test_witness_StepKeepsLatestInv :
    let d : DispatchRecord :=
      { latest State.reset with
        demand := 975, fServed := 400, fUnserved := 575
        slots := setSlot (Vector.ofFn fun _ => Shares.zero) 0 ⟨400, 0, 400⟩ }
    let s := (onDse (fun e => { e with latest := some d }) (bank .armed)).withPending [.missingEdgeTimeout]
    LatestInv s ∧ s.dse.latest = some d ∧
      step s = .next (after .missingEdgeTimeout (onDse (fun e => { e with latest := some d }) (bank .armed))) := by
  refine ⟨?_, rfl, rfl⟩
  intro d h
  obtain rfl := (Option.some.inj h).symm
  exact ⟨by decide, by decide, by decide⟩

theorem test_witness_StepKeepsRoundInv :
    let b := onRbi (fun b =>
      { b with
        round := some ⟨Vector.ofFn fun _ => 0, [11, 12], []⟩
        pendingProbes := [10]
        inFlight := some
          { slot := 8, tag := 1, command := .hold, setpoint := 0, offered := none, windowClose := 4000,
            abandoned := false } }) road
    let s := b.withPending [.replyWindowClose]
    RoadInv s ∧ RoundInv s ∧ step s = .next (after .replyWindowClose b) := by
  refine ⟨roadInv_withPending (roadInv_onRbi roadInv_road _) _, ⟨by decide, by decide, ?_, ?_, ?_, .inl rfl⟩, rfl⟩
  · intro r h; obtain rfl := (Option.some.inj h).symm; decide
  · intro r h; obtain rfl := (Option.some.inj h).symm; intro i hi; exact absurd hi (by decide +revert)
  · intro p h _; obtain rfl := (Option.some.inj h).symm
    exact ⟨by decide, fun hp => absurd hp (by decide)⟩

theorem test_witness_StepKeepsMeasInv :
    let s := (bank .armed).withPending [.zeroCrossingEdge 200700]
    MeasInv s ∧ step s = .next (after (.zeroCrossingEdge 200700) (bank .armed)) :=
  ⟨⟨by decide, by decide, by decide, by decide, by decide, by decide, by decide, by decide, by decide, by decide⟩,
    rfl⟩

theorem test_witness_StepKeepsSettingsInv :
    let s := road.withPending [.poll 0]
    RoadInv s ∧ SettingsInv s ∧ step s = .next (after (.poll 0) road) := by
  refine ⟨roadInv_withPending roadInv_road _, ⟨?_, fun c h => (nomatch h), by decide, by decide, by decide, by decide, by decide, by decide, ?_, ?_,
    fun p l h => (nomatch h)⟩, rfl⟩
  · unfold curveFits breakpointFits; decide
  · unfold rotorLimitsFit limitsFit; decide
  · intro i l h
    have hn : ∀ i : Slot, (road.rotor i).staged = none := by decide
    rw [show ((road.withPending [.poll 0]).rotor i).staged = none from hn i] at h
    cases h

end Sys2Proof.Tests
end

section
/-! What the rotor side and the link side of the part leave unchanged. An operation of the RSQ, the RBI, the LIF or the
shared bookkeeping never touches the measurement, the event monitor, the dispatch engine, the order records, the supply
or the queue of commands: it keeps the `BankFrame`. One lemma an operation, in the order of the model's definitions. -/

namespace Sys2Proof.Machine

/-- From s to t the supply, the FMU, the EVT, the DSE, the order records and the commands that wait are unchanged. -/
structure BankFrame (s t : State) : Prop where
  supply : t.supply = s.supply
  fmu : t.fmu = s.fmu
  evt : t.evt = s.evt
  dse : t.dse = s.dse
  orders : t.orl.orders = s.orl.orders
  pending : t.pending = s.pending

namespace BankFrame

theorem refl (s : State) : BankFrame s s := ⟨rfl, rfl, rfl, rfl, rfl, rfl⟩

theorem trans {s t u : State} (h : BankFrame s t) (k : BankFrame t u) : BankFrame s u :=
  ⟨k.supply.trans h.supply, k.fmu.trans h.fmu, k.evt.trans h.evt, k.dse.trans h.dse, k.orders.trans h.orders,
    k.pending.trans h.pending⟩

/-- A branch keeps the frame when both its arms do. -/
theorem ite {c : Prop} [Decidable c] {s t u : State} (ht : BankFrame s t) (hu : BankFrame s u) :
    BankFrame s (if c then t else u) := by
  split
  · exact ht
  · exact hu

end BankFrame

/-! ## Updates of the fields outside the frame -/

theorem State.withTick_bankFrame (s : State) (x : Tick) : BankFrame s (s.withTick x) := ⟨rfl, rfl, rfl, rfl, rfl, rfl⟩
theorem State.withRsq_bankFrame (s : State) (x : Rsq) : BankFrame s (s.withRsq x) := ⟨rfl, rfl, rfl, rfl, rfl, rfl⟩
theorem State.withRbi_bankFrame (s : State) (x : Rbi) : BankFrame s (s.withRbi x) := ⟨rfl, rfl, rfl, rfl, rfl, rfl⟩
theorem State.withLif_bankFrame (s : State) (x : Lif) : BankFrame s (s.withLif x) := ⟨rfl, rfl, rfl, rfl, rfl, rfl⟩
theorem State.withStu_bankFrame (s : State) (x : Stu) : BankFrame s (s.withStu x) := ⟨rfl, rfl, rfl, rfl, rfl, rfl⟩
theorem State.setRotor_bankFrame (s : State) (i : Slot) (r : RotorRecord) : BankFrame s (s.setRotor i r) :=
  ⟨rfl, rfl, rfl, rfl, rfl, rfl⟩
theorem State.advance_bankFrame (s : State) (dt : Nat) : BankFrame s (s.advance dt) := s.withTick_bankFrame _

theorem State.advanceTo_bankFrame (s : State) (t : Tick) : BankFrame s (s.advanceTo t) := by
  constructor <;> simp
theorem State.addNotice_bankFrame (s : State) (k : NoticeKind) : BankFrame s (s.addNotice k) := by
  constructor <;> simp
theorem State.noteRotor_bankFrame (s : State) (i : Slot) : BankFrame s (s.noteRotor i) := by
  constructor <;> simp
theorem State.changeRotor_bankFrame (s : State) (i : Slot) (st : RotorState) (cause : Option RotorCause) :
    BankFrame s (s.changeRotor i st cause) := by
  constructor <;> simp

/-! ## The Rotor Sequencer (chapter 07) -/

theorem State.admitAll_bankFrame (fuel : Nat) (s : State) : BankFrame s (State.admitAll fuel s) := by
  induction fuel generalizing s with
  | zero => exact .refl s
  | succ fuel ih =>
    unfold State.admitAll
    split
    · exact .refl s
    · exact .ite (.trans (by constructor <;> simp) (ih _)) (.refl s)

theorem State.handOver_bankFrame (s : State) : BankFrame s s.handOver := by
  obtain ⟨h, -⟩ | ⟨i, rest, -, -, h⟩ := s.handOver_cases
  · rw [h]; exact .refl s
  · rw [h]; constructor <;> simp

theorem State.handOn_bankFrame (s : State) : BankFrame s s.handOn :=
  (State.admitAll_bankFrame _ s).trans (State.handOver_bankFrame _)

theorem State.joinSpinUp_bankFrame (s : State) (i : Slot) : BankFrame s (s.joinSpinUp i) :=
  .trans (by constructor <;> simp) (State.handOn_bankFrame _)
theorem State.joinSync_bankFrame (s : State) (i : Slot) : BankFrame s (s.joinSync i) :=
  .trans (by constructor <;> simp) (State.handOn_bankFrame _)
theorem State.brake_bankFrame (s : State) (i : Slot) (cause : RotorCause) : BankFrame s (s.brake i cause) :=
  .trans (by constructor <;> simp) (State.handOn_bankFrame _)
theorem State.settle_bankFrame (s : State) (i : Slot) (cause : Option RotorCause) : BankFrame s (s.settle i cause) :=
  .trans (by constructor <;> simp) (State.handOn_bankFrame _)

theorem State.tripOnly_bankFrame (s : State) (i : Slot) (cause : RotorCause) : BankFrame s (s.tripOnly i cause) := by
  constructor <;> simp
theorem State.trip_bankFrame (s : State) (i : Slot) (cause : RotorCause) : BankFrame s (s.trip i cause) :=
  (s.tripOnly_bankFrame i cause).trans (State.handOn_bankFrame _)
theorem State.tripFault_bankFrame (s : State) (i : Slot) (code : FaultCode) : BankFrame s (s.tripFault i code) :=
  (s.setRotor_bankFrame i _).trans (State.trip_bankFrame _ i _)

theorem State.stopTrip_bankFrame (s : State) (i : Slot) : BankFrame s (s.stopTrip i) :=
  .ite (s.tripOnly_bankFrame i _) (.refl s)

theorem State.tripAll_bankFrame (s : State) : BankFrame s s.tripAll := by
  unfold State.tripAll
  generalize allSlots = slots
  induction slots generalizing s with
  | nil => exact .refl s
  | cons i rest ih => exact (s.stopTrip_bankFrame i).trans (ih _)

theorem State.probeReply_bankFrame (s : State) (i : Slot) : BankFrame s (s.probeReply i) :=
  .ite (s.tripFault_bankFrame i _) <| .ite (s.changeRotor_bankFrame i _ _) <| .ite (s.trip_bankFrame i _) <|
    .ite (s.joinSync_bankFrame i) (s.joinSpinUp_bankFrame i)

theorem State.progress_bankFrame (s : State) (i : Slot) : BankFrame s (s.progress i) := by
  have locked : BankFrame s (((s.leaveRoad i).setAttempts i 0).changeRotor i .online none).handOn :=
    .trans (by constructor <;> simp) (State.handOn_bankFrame _)
  simp only [State.progress]
  split
  case h_4 => exact .ite (s.joinSpinUp_bankFrame i) (.refl s)
  case h_6 => exact .ite (s.joinSync_bankFrame i) (.refl s)
  case h_7 => exact .ite (s.joinSpinUp_bankFrame i) (.refl s)
  case h_8 => exact .ite locked (.refl s)
  case h_10 => exact .ite (s.settle_bankFrame i none) (.refl s)
  all_goals exact .refl s

theorem State.replyTests_bankFrame (s : State) (i : Slot) : BankFrame s (s.replyTests i) :=
  .ite (s.tripFault_bankFrame i _) <| .ite (s.trip_bankFrame i _) (s.progress_bankFrame i)

theorem State.sequenceReply_bankFrame (s : State) (i : Slot) : BankFrame s (s.sequenceReply i) := by
  unfold State.sequenceReply
  split
  case h_1 => exact .refl s
  case h_2 => exact s.probeReply_bankFrame i
  case h_11 => exact .refl s
  all_goals exact s.replyTests_bankFrame i

theorem State.rewriteLost_bankFrame (s : State) (i : Slot) : BankFrame s (s.rewriteLost i) :=
  .ite (.refl s) ((s.setRotor_bankFrame i _).trans (State.noteRotor_bankFrame _ i))

theorem State.lateTrip_bankFrame (s : State) (i : Slot) : BankFrame s (s.lateTrip i) :=
  (s.setRotor_bankFrame i _).trans (.ite (State.trip_bankFrame _ i _) (.refl _))

theorem State.sequenceLate_bankFrame (s : State) (i : Slot) : BankFrame s (s.sequenceLate i) := by
  unfold State.sequenceLate
  split
  case h_1 => exact .refl s
  case h_2 => exact .trans (by constructor <;> simp) (State.noteRotor_bankFrame _ i)
  case h_3 => exact (s.setRotor_bankFrame i _).trans (.ite (State.rewriteLost_bankFrame _ i) (.refl _))
  all_goals exact s.lateTrip_bankFrame i

/-! ## The Rotor Bus Interface (chapter 08) -/

theorem State.endRound_bankFrame (s : State) : BankFrame s s.endRound := by constructor <;> simp
theorem State.continueRound_bankFrame (s : State) : BankFrame s s.continueRound := by constructor <;> simp
theorem State.sendPoll_bankFrame (s : State) (i : Slot) (c : PollCommand) (v : Int) : BankFrame s (s.sendPoll i c v) :=
  s.withRbi_bankFrame _

theorem State.takeTurn_bankFrame (s : State) (r : Round) : BankFrame s (s.takeTurn r) := by
  unfold State.takeTurn
  split
  · exact .ite (.ite ((s.withRbi_bankFrame _).trans (State.sendPoll_bankFrame _ _ _ _)) (.refl s))
      ((s.withRbi_bankFrame _).trans (State.continueRound_bankFrame _))
  · exact .ite ((s.withRbi_bankFrame _).trans (State.sendPoll_bankFrame _ _ _ _)) (.refl s)
  · exact s.endRound_bankFrame

theorem State.pollNext_bankFrame (s : State) : BankFrame s s.pollNext := by
  unfold State.pollNext
  split
  · exact s.takeTurn_bankFrame _
  · exact .refl s

theorem State.takeReport_bankFrame (s : State) (p : Poll) (m : ModuleReport) : BankFrame s (s.takeReport p m) :=
  ((s.withRbi_bankFrame _).trans
    (.ite (.refl _) ((State.setRotor_bankFrame _ _ _).trans (State.sequenceReply_bankFrame _ _)))).trans
      (State.continueRound_bankFrame _)

theorem State.busFrame_bankFrame (s : State) (frame : List Byte) : BankFrame s (s.busFrame frame) := by
  unfold State.busFrame
  split
  · exact .ite (s.takeReport_bankFrame _ _) (.refl s)
  · exact .refl s

theorem State.busBytes_bankFrame (s : State) (bytes : List Byte) : BankFrame s (s.busBytes bytes) := by
  obtain ⟨-, h⟩ | ⟨-, -, h⟩ | ⟨frame, -, -, h⟩ := s.busBytes_cases bytes <;> rw [h]
  · exact s.withRbi_bankFrame _
  · exact s.withRbi_bankFrame _
  · exact (s.withRbi_bankFrame _).trans (State.busFrame_bankFrame _ frame)

theorem State.closeWindow_bankFrame (s : State) (p : Poll) : BankFrame s (s.closeWindow p) :=
  ((s.withRbi_bankFrame _).trans (.ite (.refl _) (State.sequenceLate_bankFrame _ _))).trans
    (State.continueRound_bankFrame _)

theorem State.windowCloses_bankFrame (s : State) : BankFrame s s.windowCloses := by
  unfold State.windowCloses
  split
  · exact .refl s
  · exact (s.advanceTo_bankFrame _).trans (State.closeWindow_bankFrame _ _)

/-- A rotor timer's expiry keeps the frame when what it does keeps it. -/
theorem State.timerExpires_bankFrame (s : State) (i : Slot) (st : RotorState) {act : State → State}
    (h : ∀ s, BankFrame s (act s)) : BankFrame s (s.timerExpires i st act) := by
  unfold State.timerExpires
  split
  · exact .refl s
  · exact .ite ((s.advanceTo_bankFrame _).trans (h _)) (.refl s)

theorem State.syncFails_bankFrame (s : State) (i : Slot) : BankFrame s (s.syncFails i) :=
  .ite (s.joinSync_bankFrame i) (s.brake_bankFrame i _)

/-! ## The Link Interface (chapter 09) -/

theorem State.formReply_bankFrame (s : State) (r : Request) (code : ResultCode) (body : List Byte) :
    BankFrame s (s.formReply r code body) := s.withLif_bankFrame _

theorem State.abandonFrame_bankFrame (s : State) : BankFrame s s.abandonFrame :=
  (s.withLif_bankFrame _).trans (State.withStu_bankFrame _ _)

theorem State.checkRequest_bankFrame (s : State) (r : Request) : BankFrame s (s.checkRequest r) := by
  unfold State.checkRequest
  split
  · exact s.formReply_bankFrame r _ _
  · split
    · exact .refl s
    · exact .ite (.refl s) (s.formReply_bankFrame r _ _)

theorem State.checkFrame_bankFrame (s : State) (frame : List Byte) : BankFrame s (s.checkFrame frame) := by
  have offer (s : State) (r : Request) : BankFrame s (s.offerRequest r) := by
    unfold State.offerRequest
    split
    · exact (s.withLif_bankFrame _).trans (State.withStu_bankFrame _ _)
    · exact (s.withLif_bankFrame _).trans (State.checkRequest_bankFrame _ r)
  exact (s.withLif_bankFrame _).trans (.ite (offer _ _) (State.abandonFrame_bankFrame _))

theorem State.completeFrame_bankFrame (s : State) : BankFrame s s.completeFrame := by
  unfold State.completeFrame
  split
  · exact .refl s
  · exact .refl s
  · exact s.checkFrame_bankFrame _

theorem State.gapExpires_bankFrame (s : State) : BankFrame s s.gapExpires := by
  unfold State.gapExpires
  split
  · exact .refl s
  · exact (s.advanceTo_bankFrame _).trans ((State.withLif_bankFrame _ _).trans (State.withStu_bankFrame _ _))

theorem State.huntByte_bankFrame (s : State) (b : Byte) (broken : Bool) : BankFrame s (s.huntByte b broken) :=
  .ite (s.withLif_bankFrame _) (.refl s)

theorem State.joinByte_bankFrame (s : State) (bytes : List Byte) (b : Byte) : BankFrame s (s.joinByte bytes b) :=
  .ite (s.withLif_bankFrame _) <| .ite s.abandonFrame_bankFrame <|
    .ite (s.withLif_bankFrame _) (s.withLif_bankFrame _)

theorem State.takeByte_bankFrame (s : State) (b : Byte) (broken : Bool) : BankFrame s (s.takeByte b broken) := by
  unfold State.takeByte
  split
  · exact s.huntByte_bankFrame b broken
  · exact .ite s.abandonFrame_bankFrame (s.joinByte_bankFrame _ b)
  · exact (s.checkFrame_bankFrame _).trans (State.huntByte_bankFrame _ b broken)

theorem State.beginReply_bankFrame (s : State) : BankFrame s s.beginReply := by
  unfold State.beginReply
  split
  · exact s.withLif_bankFrame _
  · exact .refl s

theorem State.beginNotice_bankFrame (s : State) (k : NoticeKind) : BankFrame s (s.beginNotice k) := by
  have emptied : BankFrame s (s.emptyChangeSet k) := by cases k <;> exact ⟨rfl, rfl, rfl, rfl, rfl, rfl⟩
  exact .ite (emptied.trans (State.withLif_bankFrame _ _)) (.refl s)

theorem State.endNotice_bankFrame (s : State) : BankFrame s s.endNotice := by
  unfold State.endNotice
  split
  · exact .ite (.refl s) (s.withLif_bankFrame _)
  · exact .refl s

/-- The end of a reply keeps the frame, unless a RESTART takes effect there (R186). -/
theorem State.endReply_cases (s : State) (line : StopLevel) :
    BankFrame s (s.endReply line) ∨ s.endReply line = s.takeReset .restart s.tickCount line := by
  unfold State.endReply
  split
  · split
    · split
      · exact .inr rfl
      · exact .inl (s.withLif_bankFrame _)
    · exact .inl (.refl s)
  · exact .inl (.refl s)

end Sys2Proof.Machine
end

section
/-! A sample's passage through the part (R6, R16, R38, R78, R92): what the EVT's handling of it and the dispatch leave
unchanged, and what the dispatch record carries of the sample. -/

namespace Sys2Proof.Machine

/-- From s to t nothing changes of the tick count, the supply, the FMU, the RSQ or the commands that wait, and of the LIF
the two notices alone that the EVT and the ORL add. -/
structure SampleFrame (s t : State) : Prop where
  tickCount : t.tickCount = s.tickCount
  supply : t.supply = s.supply
  fmu : t.fmu = s.fmu
  rsq : t.rsq = s.rsq
  pending : t.pending = s.pending
  lif : ∃ e o, t.lif = { s.lif with pendingNotices := { s.lif.pendingNotices with event := e, order := o } }

namespace SampleFrame

/-- An operation that does not touch the LIF. -/
theorem of_lif {s t : State} (tickCount : t.tickCount = s.tickCount) (supply : t.supply = s.supply)
    (fmu : t.fmu = s.fmu) (rsq : t.rsq = s.rsq) (pending : t.pending = s.pending) (lif : t.lif = s.lif) :
    SampleFrame s t := ⟨tickCount, supply, fmu, rsq, pending, _, _, lif⟩

theorem refl (s : State) : SampleFrame s s := of_lif rfl rfl rfl rfl rfl rfl

theorem trans {s t u : State} (h : SampleFrame s t) (k : SampleFrame t u) : SampleFrame s u := by
  obtain ⟨e, o, hl⟩ := h.lif
  obtain ⟨e', o', kl⟩ := k.lif
  exact ⟨k.tickCount.trans h.tickCount, k.supply.trans h.supply, k.fmu.trans h.fmu, k.rsq.trans h.rsq,
    k.pending.trans h.pending, e', o', by rw [kl, hl]⟩

/-- The MEASUREMENT CHANGE notice is not the EVT's or the ORL's to add. -/
theorem measurement {s t : State} (h : SampleFrame s t) :
    t.lif.pendingNotices.measurement = s.lif.pendingNotices.measurement := by
  obtain ⟨e, o, hl⟩ := h.lif
  rw [hl]

end SampleFrame

theorem State.withEvt_sampleFrame (s : State) (x : Evt) : SampleFrame s (s.withEvt x) := .of_lif rfl rfl rfl rfl rfl rfl
theorem State.withDse_sampleFrame (s : State) (x : Dse) : SampleFrame s (s.withDse x) := .of_lif rfl rfl rfl rfl rfl rfl
theorem State.withOrl_sampleFrame (s : State) (x : Orl) : SampleFrame s (s.withOrl x) := .of_lif rfl rfl rfl rfl rfl rfl
theorem State.withRbi_sampleFrame (s : State) (x : Rbi) : SampleFrame s (s.withRbi x) := .of_lif rfl rfl rfl rfl rfl rfl
theorem State.withRotors_sampleFrame (s : State) (x : Vector RotorRecord 16) : SampleFrame s (s.withRotors x) :=
  .of_lif rfl rfl rfl rfl rfl rfl
theorem State.mapRotors_sampleFrame (s : State) (f : Slot → RotorRecord → RotorRecord) :
    SampleFrame s (s.mapRotors f) := s.withRotors_sampleFrame _
theorem State.raiseIf_sampleFrame (s : State) (b : Bool) (f : SummaryFlag) : SampleFrame s (s.raiseIf b f) := by
  apply SampleFrame.of_lif <;> simp

theorem State.addEventNotice_sampleFrame (s : State) : SampleFrame s (s.addNotice .event) := by
  refine ⟨by simp, by simp, by simp, by simp, by simp, ?_⟩
  unfold State.addNotice
  split
  · exact ⟨true, _, rfl⟩
  · exact ⟨_, _, rfl⟩

theorem State.addOrderNotice_sampleFrame (s : State) : SampleFrame s (s.addNotice .order) := by
  refine ⟨by simp, by simp, by simp, by simp, by simp, ?_⟩
  unfold State.addNotice
  split
  · exact ⟨_, true, rfl⟩
  · exact ⟨_, _, rfl⟩

/-! ## The order list (R100 to R108) -/

theorem State.reviseOrders_sampleFrame (s : State) (f : Order → Order) : SampleFrame s (s.reviseOrders f) := by
  simp only [State.reviseOrders]
  split
  · exact (s.withOrl_sampleFrame _).trans (State.addOrderNotice_sampleFrame _)
  · exact s.withOrl_sampleFrame _

theorem State.demandRequest_sampleFrame (s : State) (plant : Nat) : SampleFrame s (s.demandRequest plant) := by
  have selected (s : State) : SampleFrame s (s.selectOrder plant) := by
    unfold State.selectOrder
    split
    · split
      · exact s.reviseOrders_sampleFrame _
      · exact .refl s
    · exact .refl s
  exact (s.reviseOrders_sampleFrame _).trans (selected _)

theorem State.accountOrder_sampleFrame (s : State) (d : DispatchRecord) : SampleFrame s (s.accountOrder d) := by
  unfold State.accountOrder
  split
  · exact .refl s
  · exact s.reviseOrders_sampleFrame _

/-! ## The Event Monitor (R38) -/

/-- What the opening of an event writes of the EVT (R43, R44). -/
@[simp] theorem State.openEvent_evt (s : State) (entry : HostMode) (t : Tick) (df rocof : Int) (cause : Triggers) :
    (s.openEvent entry t df rocof cause).evt =
      { s.evt with
        mode := .event
        savedMode := some entry
        history := appendNewest 4 s.evt.history
          (openRecord (nextEventNumber s.evt.eventNumber) cause entry (s.plantTimeAt t) df rocof)
        eventNumber := nextEventNumber s.evt.eventNumber
        recovery := none } := by
  simp [State.openEvent]

/-- What the end of an event writes of the EVT (R51). -/
@[simp] theorem State.endEvent_evt (s : State) (cause : EventEnd) (plant : Nat) :
    (s.endEvent cause plant).evt =
      { s.evt with
        mode := modeAfter s.evt cause
        savedMode := none
        history := updateOpen (fun r => { r with ended := some (plant, cause) }) s.evt.history
        recovery := none } := by
  simp [State.endEvent]

theorem State.openEvent_sampleFrame (s : State) (entry : HostMode) (t : Tick) (df rocof : Int) (cause : Triggers) :
    SampleFrame s (s.openEvent entry t df rocof cause) :=
  ((s.withEvt_sampleFrame _).trans (State.reviseOrders_sampleFrame _ _)).trans (State.addEventNotice_sampleFrame _)

theorem State.endEvent_sampleFrame (s : State) (cause : EventEnd) (plant : Nat) :
    SampleFrame s (s.endEvent cause plant) :=
  (((s.withEvt_sampleFrame _).trans (State.withDse_sampleFrame _ _)).trans (State.reviseOrders_sampleFrame _ _)).trans
    (State.addEventNotice_sampleFrame _)

theorem State.duringEvent_sampleFrame (s : State) (t : Tick) (df : Int) (triggered : Bool) :
    SampleFrame s (s.duringEvent t df triggered) := by
  simp only [State.duringEvent]
  split
  · exact s.withEvt_sampleFrame _
  · split
    · exact (s.withEvt_sampleFrame _).trans (State.endEvent_sampleFrame _ _ _)
    · exact s.withEvt_sampleFrame _

theorem State.evtValid_sampleFrame (s : State) (t : Tick) (df rocof : Int) : SampleFrame s (s.evtValid t df rocof) := by
  have remembered := s.withEvt_sampleFrame { s.evt with memory := some (classify s.evt df rocof) }
  simp only [State.evtValid]
  split
  · exact remembered
  · split
    · exact remembered.trans (State.openEvent_sampleFrame _ _ _ _ _ _)
    · exact remembered
  · split
    · exact remembered.trans (State.openEvent_sampleFrame _ _ _ _ _ _)
    · exact remembered
  · exact remembered.trans (State.duringEvent_sampleFrame _ _ _ _)
  · exact remembered

/-- A record in LOST leaves the region memory unknown, in every mode (R38). -/
theorem State.evtLost_memory (s : State) (t : Tick) : (s.evtLost t).evt.memory = none := by
  simp only [State.evtLost]
  split <;> simp

theorem State.evtLost_sampleFrame (s : State) (t : Tick) : SampleFrame s (s.evtLost t) := by
  have forgotten := s.withEvt_sampleFrame { s.evt with memory := none }
  simp only [State.evtLost]
  split
  case h_4 => exact forgotten.trans (State.endEvent_sampleFrame _ _ _)
  all_goals exact forgotten

theorem State.monitor_sampleFrame (s : State) (sm : Sample) : SampleFrame s (s.monitor sm) := by
  unfold State.monitor
  split
  · exact s.evtLost_sampleFrame _
  · exact .refl s
  · exact s.evtValid_sampleFrame _ _ _

theorem State.monitor_memory_of_lost (s : State) {sm : Sample} (h : sm.state = .lost) :
    (s.monitor sm).evt.memory = none := by
  simp only [State.monitor, h]
  exact s.evtLost_memory _

/-! ## The dispatch (R78, R92) -/

theorem State.computeDispatch_sampleFrame (s : State) (sm : Sample) : SampleFrame s (s.computeDispatch sm).1 :=
  (s.raiseIf_sampleFrame _ _).trans <| (State.mapRotors_sampleFrame _ _).trans <|
    (State.raiseIf_sampleFrame _ _ _).trans <| (State.demandRequest_sampleFrame _ _).trans <|
      (State.mapRotors_sampleFrame _ _).trans (State.withDse_sampleFrame _ _)

/-- A dispatch, to the point where its record stands, is no concern of the EVT's (R78, R92). -/
@[simp] theorem State.computeDispatch_evt (s : State) (sm : Sample) : (s.computeDispatch sm).1.evt = s.evt := by
  simp [State.computeDispatch]

theorem State.consume_sampleFrame (s : State) (d : DispatchRecord) : SampleFrame s (s.consume d) := by
  have setpoints : SampleFrame s (s.takeSetpoints d) := by
    obtain ⟨-, h⟩ | ⟨-, h⟩ := s.takeSetpoints_cases d <;> rw [h] <;> exact s.withRbi_sampleFrame _
  have throughput (s : State) : SampleFrame s (s.countThroughput d) :=
    (s.mapRotors_sampleFrame _).trans (State.raiseIf_sampleFrame _ _ _)
  exact ((setpoints.trans (State.accountOrder_sampleFrame _ d)).trans (throughput _)).trans
    (State.withEvt_sampleFrame _ _)

theorem State.dispatch_sampleFrame (s : State) (sm : Sample) : SampleFrame s (s.dispatch sm) :=
  (s.computeDispatch_sampleFrame sm).trans (State.consume_sampleFrame _ _)

/-- The EVT takes a dispatch result into its open record; the region memory stays (R47). -/
theorem State.dispatch_memory (s : State) (sm : Sample) : (s.dispatch sm).evt.memory = s.evt.memory := by
  simp [State.dispatch, State.consume, State.countEvent]

/-- The dispatch record of a sample that comes to the state s (R90). -/
def State.dispatched (s : State) (t : Tick) (valid : Bool) : DispatchRecord :=
  let r := s.measure t valid
  ((r.1.monitor r.2).computeDispatch r.2).2

/-! ## The whole passage -/

/-- Once the FMU has measured a sample, the rest of its passage keeps the frame. -/
theorem State.passage_sampleFrame (s : State) (t : Tick) (valid : Bool) :
    SampleFrame (s.measure t valid).1 (s.passage t valid) :=
  (State.monitor_sampleFrame _ _).trans (State.dispatch_sampleFrame _ _)

/-- What a sample leaves of the FMU is what the FMU's own measuring leaves (R92). -/
theorem State.passage_fmu (s : State) (t : Tick) (valid : Bool) :
    (s.passage t valid).fmu = (s.fmu.sample t valid).1 := by
  calc (s.passage t valid).fmu = (s.measure t valid).1.fmu := (s.passage_sampleFrame t valid).fmu
    _ = (s.fmu.sample t valid).1 := by simp [State.measure]

theorem State.passage_tickCount (s : State) (t : Tick) (valid : Bool) :
    (s.passage t valid).tickCount = s.tickCount := by
  calc (s.passage t valid).tickCount = (s.measure t valid).1.tickCount := (s.passage_sampleFrame t valid).tickCount
    _ = s.tickCount := by simp [State.measure]

/-- MEASUREMENT CHANGE is added when the measurement state has changed and the kind is enabled (R15, R172). -/
theorem State.passage_measurement (s : State) (t : Tick) (valid : Bool) :
    (s.passage t valid).lif.pendingNotices.measurement =
      (s.lif.pendingNotices.measurement ||
        (s.lif.mask.measurement && (s.passage t valid).fmu.state != s.fmu.state)) := by
  rw [State.passage_fmu]
  calc (s.passage t valid).lif.pendingNotices.measurement
      = (s.measure t valid).1.lif.pendingNotices.has .measurement := (s.passage_sampleFrame t valid).measurement
    _ = _ := by
      simp only [State.measure, State.addNoticeIf]
      split
      · next h => rw [State.addNotice_has, h]; simp [NoticeSet.has]
      · next h => simp [NoticeSet.has, h]

theorem State.passage_latest (s : State) (t : Tick) (valid : Bool) :
    (s.passage t valid).dse.latest = some (s.dispatched t valid) := by
  simp [State.passage, State.dispatch, State.consume, State.dispatched, State.computeDispatch]

/-- A sample that is handed on as LOST leaves the EVT's region memory unknown (R38). -/
theorem State.passage_memory_of_lost (s : State) (t : Tick) (valid : Bool)
    (h : (s.fmu.sample t valid).2.state = .lost) : (s.passage t valid).evt.memory = none :=
  (State.dispatch_memory _ _).trans (State.monitor_memory_of_lost _ h)

/-- What the dispatch record carries of the sample record (R16, R90). -/
theorem State.dispatched_sample (s : State) (t : Tick) (valid : Bool) :
    let sm := (s.fmu.sample t valid).2
    let d := s.dispatched t valid
    (d.tick = sm.tick ∧ d.dt = sm.dt ∧ d.state = sm.state) ∧ d.df = sm.df ∧ d.held = sm.held ∧ d.rocof = sm.rocof :=
  ⟨⟨rfl, rfl, rfl⟩, rfl, rfl, rfl⟩

end Sys2Proof.Machine
end

section
/-! The Frequency Measurement Unit's own operations (chapter 01): the band of periods, the estimate and rocof, a sample by
the table of R12, and what each operation keeps of the measurement's invariant. -/

namespace Sys2Proof.Machine

/-! ## Periods and the estimate (R3, R4, R7) -/

/-- The table of R3. -/
theorem periodValid_iff (nom : Nominal) (period : Nat) :
    periodValid nom period = true ↔ shortestPeriod nom ≤ period ∧ period ≤ longestPeriod nom := by
  simp [periodValid]

/-- A valid period is one whose frequency, 10^10 / period mHz, lies within 5 Hz of the nominal (R3). -/
theorem periodValid_iff_band (nom : Nominal) (period : Nat) :
    periodValid nom period = true ↔
      (nominalMHz nom - 5000) * period ≤ 10 ^ 10 ∧ 10 ^ 10 ≤ (nominalMHz nom + 5000) * period := by
  rw [periodValid_iff]
  cases nom <;> simp only [shortestPeriod, longestPeriod, nominalMHz] <;> omega

theorem missingEdgeTicks_eq (nom : Nominal) :
    missingEdgeTicks nom = if nom = .hz50 then 400000 else 333334 := by cases nom <;> rfl

theorem mul_sum_le_length_mul {a c : Nat} {l : List Nat} (h : ∀ x ∈ l, a * x ≤ c) : a * l.sum ≤ l.length * c := by
  rw [← smul_eq_mul, List.smul_sum]
  simpa using List.sum_le_card_nsmul (l.map (a • ·)) c (by simpa using h)

theorem length_mul_le_mul_sum {a c : Nat} {l : List Nat} (h : ∀ x ∈ l, c ≤ a * x) : l.length * c ≤ a * l.sum := by
  rw [← smul_eq_mul a, List.smul_sum]
  simpa using List.card_nsmul_le_sum (l.map (a • ·)) c (by simpa using h)

/-- The estimate e is k × 10^10 / S rounded half up: e - 1/2 ≤ k × 10^10 / S < e + 1/2 (R7). -/
theorem estimate_rounds (periods : List Nat) (h : 0 < periods.sum) :
    2 * estimate periods * periods.sum ≤ 2 * (periods.length * 10 ^ 10) + periods.sum ∧
      2 * (periods.length * 10 ^ 10) + periods.sum < (2 * estimate periods + 2) * periods.sum := by
  simp only [estimate]
  generalize periods.length * 10 ^ 10 = a
  generalize periods.sum = total at h ⊢
  have quotient := Nat.div_add_mod' a total
  have rest_lt := Nat.mod_lt a h
  generalize a / total = q at quotient ⊢
  generalize a % total = r at quotient rest_lt ⊢
  have two_q : 2 * q * total = 2 * (q * total) := Nat.mul_assoc 2 q total
  split <;> constructor <;> simp only [Nat.add_mul, Nat.mul_add, two_q] <;> omega

/-- The estimate of valid periods lies within 5 Hz of the nominal (R3, R7). -/
theorem estimate_within_band (nom : Nominal) {periods : List Nat} (hne : periods ≠ [])
    (hvalid : ∀ p ∈ periods, periodValid nom p = true) :
    nominalMHz nom - 5000 ≤ estimate periods ∧ estimate periods ≤ nominalMHz nom + 5000 := by
  have band p hp := (periodValid_iff_band nom p).mp (hvalid p hp)
  have lower := mul_sum_le_length_mul fun p hp => (band p hp).1
  have upper := length_mul_le_mul_sum fun p hp => (band p hp).2
  have length_pos := List.length_pos_iff.mpr hne
  have total_pos : 0 < periods.sum := by
    by_contra h
    rw [Nat.eq_zero_of_not_pos h] at upper
    omega
  obtain ⟨round_down, round_up⟩ := estimate_rounds periods total_pos
  constructor
  · by_contra below
    have := Nat.mul_le_mul_right periods.sum (show estimate periods + 1 ≤ nominalMHz nom - 5000 by omega)
    linarith
  · by_contra above
    have := Nat.mul_le_mul_right periods.sum (show nominalMHz nom + 5000 + 1 ≤ estimate periods by omega)
    linarith

/-- Rocof is formed between the newest entry and the one w places before it (R14). -/
theorem rocofOf_newest (old mid : List (Tick × Int)) (x newest : Tick × Int) :
    rocofOf (mid.length + 1) (old ++ x :: mid ++ [newest]) =
      clampInt (-20000) 20000 (((newest.2 - x.2) * 10 ^ 7).tdiv (ticksFrom x.1 newest.1 : Int)) := by
  have first : (old ++ x :: mid ++ [newest]).reverse[0]? = some newest := by simp
  have older : (old ++ x :: mid ++ [newest]).reverse[mid.length + 1]? = some x := by simp
  simp only [rocofOf, first, older]

/-- With w entries or fewer rocof is 0 (R14). -/
theorem rocofOf_short {w : Nat} {history : List (Tick × Int)} (h : history.length ≤ w) : rocofOf w history = 0 := by
  have older : history.reverse[w]? = none := by simpa using h
  simp [rocofOf, older]

/-- The model's appending and the statements' newest entries agree (R4, R13). -/
theorem appendNewest_eq_newestEntries {α : Type} (cap : Nat) (l : List α) (x : α) :
    appendNewest cap l x = newestEntries cap (l ++ [x]) := appendNewest_eq cap l x

/-! ## A sample (R6 to R16) -/

/-- The FMU once a sample at t has been stamped as its latest (R8). -/
def Fmu.stamp (u : Fmu) (t : Tick) : Fmu := { u with prevSample := some t }

section
variable {u : Fmu} (t : Tick)

/-- In LOST the eighth valid sample in a row regains VALID (R9). -/
theorem Fmu.sample_lost_valid (h : u.state = .lost) :
    u.sample t true =
      if 8 ≤ u.regain + 1 then { u.stamp t with regain := 0 }.handFresh t (u.interval t)
      else { u.stamp t with regain := u.regain + 1 }.handLost t (u.interval t) true := by
  cases u; cases h; rfl

theorem Fmu.sample_lost_invalid (h : u.state = .lost) :
    u.sample t false = { u.stamp t with regain := 0 }.handLost t (u.interval t) false := by
  cases u; cases h; rfl

theorem Fmu.sample_valid_valid (h : u.state = .valid) :
    u.sample t true = (u.stamp t).handFresh t (u.interval t) := by
  cases u; cases h; rfl

theorem Fmu.sample_valid_invalid (h : u.state = .valid) :
    u.sample t false = { u.stamp t with invalid := 1 }.handHeld t (u.interval t) := by
  cases u; cases h; rfl

theorem Fmu.sample_holding_valid (h : u.state = .holding) :
    u.sample t true = { u.stamp t with invalid := 0 }.handFresh t (u.interval t) := by
  cases u; cases h; rfl

/-- In HOLDING the fourth invalid sample in a row loses the measurement (R11). -/
theorem Fmu.sample_holding_invalid (h : u.state = .holding) :
    u.sample t false =
      if 4 ≤ u.invalid + 1 then (u.stamp t).enterLost.handLost t (u.interval t) false
      else { u.stamp t with invalid := u.invalid + 1 }.handHeld t (u.interval t) := by
  cases u; cases h; rfl

/-- The table of R12 in one: a sample stamps the FMU, writes its counts or sets LOST afresh, and is handed on fresh, as
LOST from the state LOST, or held. -/
theorem Fmu.sample_cases (u : Fmu) (valid : Bool) :
    ∃ regain invalid,
      u.sample t valid = { u.stamp t with regain := regain, invalid := invalid }.handFresh t (u.interval t) ∨
        u.sample t valid = { u.stamp t with regain := regain, invalid := invalid }.handHeld t (u.interval t) ∨
        (u.state = .lost ∧ u.sample t valid =
          { u.stamp t with regain := regain, invalid := invalid }.handLost t (u.interval t) valid) ∨
        u.sample t valid = (u.stamp t).enterLost.handLost t (u.interval t) valid := by
  cases hs : u.state <;> cases valid
  case lost.false => exact ⟨_, _, .inr (.inr (.inl ⟨rfl, sample_lost_invalid t hs⟩))⟩
  case lost.true =>
    rw [sample_lost_valid t hs]
    split
    · exact ⟨_, _, .inl rfl⟩
    · exact ⟨_, _, .inr (.inr (.inl ⟨rfl, rfl⟩))⟩
  case valid.false => exact ⟨_, _, .inr (.inl (sample_valid_invalid t hs))⟩
  case valid.true => exact ⟨_, _, .inl (sample_valid_valid t hs)⟩
  case holding.false =>
    rw [sample_holding_invalid t hs]
    split
    · exact ⟨0, 0, .inr (.inr (.inr rfl))⟩
    · exact ⟨_, _, .inr (.inl rfl)⟩
  case holding.true => exact ⟨_, _, .inl (sample_holding_valid t hs)⟩

end

/-- A sample leaves the settings, the last edge, the period list and the timer, and its time becomes the previous sample
time (R8). -/
theorem Fmu.sample_keeps (u : Fmu) (t : Tick) (valid : Bool) :
    let v := (u.sample t valid).1
    v.prevSample = some t ∧ v.nominal = u.nominal ∧ v.n = u.n ∧ v.w = u.w ∧ v.lastEdge = u.lastEdge ∧
      v.periods = u.periods ∧ v.expiry = u.expiry := by
  obtain ⟨_, _, h | h | ⟨-, h⟩ | h⟩ := Fmu.sample_cases t u valid <;> rw [h] <;>
    exact ⟨rfl, rfl, rfl, rfl, rfl, rfl, rfl⟩

/-- The sample record carries the sample's time, its interval and the measurement state that it leaves (R8, R16). -/
theorem Fmu.sample_record (u : Fmu) (t : Tick) (valid : Bool) :
    let r := u.sample t valid
    r.2.tick = t ∧ r.2.dt = u.interval t ∧ r.2.state = r.1.state := by
  obtain ⟨_, _, h | h | ⟨hs, h⟩ | h⟩ := Fmu.sample_cases t u valid <;> rw [h]
  · exact ⟨rfl, rfl, rfl⟩
  · exact ⟨rfl, rfl, rfl⟩
  · exact ⟨rfl, rfl, hs.symm⟩
  · exact ⟨rfl, rfl, rfl⟩

/-- The dispatch record d carries what the sample record sm does of df and rocof (R16). -/
def carries (d : DispatchRecord) (sm : Sample) : Prop := d.df = sm.df ∧ d.held = sm.held ∧ d.rocof = sm.rocof

/-- A sample handed on as LOST from u, which is in LOST (R9, R11, R16). -/
theorem Fmu.handLost_spec (u : Fmu) (t : Tick) (dt : Nat) (valid : Bool) {d : DispatchRecord}
    (hu : u.state = .lost) (hd : carries d (u.handLost t dt valid).2) : HandedLost (u.handLost t dt valid).1 d :=
  ⟨hu, rfl, hd⟩

/-- A sample handed on as HOLDING from u with the held values h (R10, R11). -/
theorem Fmu.handHeld_spec {u w : Fmu} {h : Measured} (t : Tick) (dt : Nat) {d : DispatchRecord}
    (regain : w.regain = u.regain) (held : w.held = u.held) (history : w.history = u.history) (hh : u.held = some h)
    (hd : carries d (w.handHeld t dt).2) : HandedHeld u (w.handHeld t dt).1 h d := by
  obtain ⟨hdf, hheld, hrocof⟩ := hd
  have values : w.held.getD nothingMeasured = h := by rw [held, hh]; rfl
  have record : d.df = some h.df ∧ d.held = true ∧ d.rocof = some h.rocof := by
    rw [hdf, hheld, hrocof, ← values]
    exact ⟨rfl, rfl, rfl⟩
  exact ⟨⟨rfl, regain⟩, ⟨held.trans hh, history, values⟩, record⟩

/-- A sample handed on fresh from u with its counts written (R9 to R11, R13, R14). -/
theorem Fmu.handFresh_spec (u : Fmu) (t : Tick) (dt regain invalid : Nat) {d : DispatchRecord}
    (hregain : regain = if u.state = .lost then 0 else u.regain)
    (hinvalid : invalid = if u.state = .holding then 0 else u.invalid)
    (hd : carries d ({ u.stamp t with regain := regain, invalid := invalid }.handFresh t dt).2) :
    HandedFresh u ({ u.stamp t with regain := regain, invalid := invalid }.handFresh t dt).1 t d :=
  ⟨⟨rfl, hregain, hinvalid⟩, appendNewest_eq_newestEntries 17 _ _, rfl, rfl, hd⟩

/-- A sample is measured by the table of R12. -/
theorem Fmu.sample_measuredAs (u : Fmu) (t : Tick) (valid : Bool) {d : DispatchRecord}
    (hd : carries d (u.sample t valid).2) : measuredAs u (u.sample t valid).1 t valid d := by
  cases hs : u.state <;> cases valid <;> simp only [measuredAs, hs]
  case lost.false =>
    rw [sample_lost_invalid t hs] at hd ⊢
    exact ⟨Fmu.handLost_spec _ t _ _ hs hd, rfl, rfl, rfl, rfl⟩
  case lost.true =>
    rw [sample_lost_valid t hs] at hd ⊢
    by_cases regained : 8 ≤ u.regain + 1
    · rw [if_pos regained] at hd ⊢
      rw [if_pos regained]
      exact Fmu.handFresh_spec u t _ 0 u.invalid (by simp [hs]) (by simp [hs]) hd
    · rw [if_neg regained] at hd ⊢
      rw [if_neg regained]
      exact ⟨Fmu.handLost_spec _ t _ _ hs hd, rfl, rfl, rfl, rfl⟩
  case valid.false =>
    rw [sample_valid_invalid t hs] at hd ⊢
    exact fun h hh => ⟨Fmu.handHeld_spec t _ rfl rfl rfl hh hd, rfl⟩
  case valid.true =>
    rw [sample_valid_valid t hs] at hd ⊢
    exact Fmu.handFresh_spec u t _ u.regain u.invalid (by simp [hs]) (by simp [hs]) hd
  case holding.false =>
    rw [sample_holding_invalid t hs] at hd ⊢
    by_cases fourth : 4 ≤ u.invalid + 1
    · rw [if_pos fourth] at hd ⊢
      rw [if_pos fourth]
      exact ⟨Fmu.handLost_spec _ t _ _ rfl hd, rfl, rfl, rfl, rfl⟩
    · rw [if_neg fourth] at hd ⊢
      rw [if_neg fourth]
      exact fun h hh => ⟨Fmu.handHeld_spec t _ rfl rfl rfl hh hd, rfl⟩
  case holding.true =>
    rw [sample_holding_valid t hs] at hd ⊢
    exact Fmu.handFresh_spec u t _ u.regain 0 (by simp [hs]) (by simp [hs]) hd

/-! ## What a sample's passage leaves (R6 to R16) -/

/-- A sample that passes through s1, in which the FMU has been brought up to date since s, is taken as the statements say;
it does not matter what else than the FMU s1 has of its own, if its LIF is that of s. -/
theorem State.passage_sampleTaken {s s1 : State} (prev : s1.fmu.prevSample = s.fmu.prevSample)
    (state : s1.fmu.state = s.fmu.state) (lif : s1.lif = s.lif) (now : Tick) (valid : Bool) :
    SampleTaken s s1.fmu now valid (s1.passage now valid) (s1.dispatched now valid) := by
  obtain ⟨⟨dtick, ddt, dstate⟩, carried⟩ := s1.dispatched_sample now valid
  obtain ⟨rtick, rdt, rstate⟩ := s1.fmu.sample_record now valid
  have fmu := s1.passage_fmu now valid
  obtain ⟨previous, kept⟩ := s1.fmu.sample_keeps now valid
  refine ⟨s1.passage_latest now valid, ⟨dtick.trans rtick, ?_⟩, ?_, fmu ▸ previous, fmu ▸ kept, ?_, ?_⟩
  · rw [dstate, rstate, fmu]
  · rw [ddt, rdt, Fmu.interval, prev]
    cases s.fmu.prevSample <;> rfl
  · rw [fmu]; exact Fmu.sample_measuredAs _ now valid carried
  · rw [s1.passage_measurement now valid, lif, state]

end Sys2Proof.Machine
end

section
/-! The statements about the measurement of samples (chapter 01): O9, O10, O6 and O7. -/

namespace Sys2Proof.Machine

/-- Settles O9: the table of R3 by its bounds, and by the frequencies they stand for. -/
theorem periodBand : Obligations.PeriodBand := by
  intro nom period
  refine ⟨?_, ?_⟩
  · rw [periodValid_iff]; cases nom <;> rfl
  · rw [periodValid_iff_band]; cases nom <;> rfl

/-- Settles O10: the rounding from `estimate_rounds`, the band from `estimate_within_band`, which leaves the clamp
nothing to cut, and the two cases of `rocofOf`. -/
theorem estimateAndRocof : Obligations.EstimateAndRocof := by
  refine ⟨estimate_rounds, ?_, fun old mid x newest => rocofOf_newest old mid x newest, fun w history _ h =>
    rocofOf_short h⟩
  intro nom periods hne hvalid nominal
  have nominal_eq : nominal = nominalMHz nom := by cases nom <;> rfl
  obtain ⟨lower, upper⟩ := estimate_within_band nom hne hvalid
  have large : 5000 ≤ nominalMHz nom := by cases nom <;> decide
  rw [nominal_eq]
  have below : -5000 ≤ (estimate periods : Int) - nominalMHz nom := by omega
  have above : (estimate periods : Int) - nominalMHz nom ≤ 5000 := by omega
  exact ⟨clampInt_within below above, below, above⟩

/-- A first edge is recorded and restarts the missing-edge timer (R2). -/
theorem State.edge_first {s : State} (h : s.fmu.lastEdge = none) :
    s.edge = s.withFmu ({ s.fmu with lastEdge := some s.tickCount }.restartTimer s.tickCount) := by
  simp only [State.edge, h]

/-- Every other edge has its period classified and passes one sample on (R3, R4, R6). -/
theorem State.edge_next {s : State} {last : Tick} (h : s.fmu.lastEdge = some last) :
    s.edge =
      (s.withFmu
        (({ s.fmu with lastEdge := some s.tickCount }.restartTimer s.tickCount).classify
          (ticksFrom last s.tickCount))).passage s.tickCount (periodValid s.fmu.nominal (ticksFrom last s.tickCount)) := by
  simp only [State.edge, h]

/-- Settles O6: a first edge by `edge_first`; every other by `edge_next`, as the passage of a sample through the state s1,
in which the FMU has recorded the edge and classified its period. -/
theorem zeroCrossingEdgeMeasures : Obligations.ZeroCrossingEdgeMeasures := by
  intro dt s up now expiry
  have timer : tickAfter now (missingEdgeTicks s.fmu.nominal) = expiry := by rw [missingEdgeTicks_eq]; rfl
  rw [exec_zeroCrossingEdge, State.taking_up up]
  refine ⟨fun first => ?_, fun last next => ?_⟩
  · rw [State.edge_first (s := s.advance dt) first, ← timer]
    rfl
  · let s1 := (s.advance dt).withFmu
      (({ s.fmu with lastEdge := some now }.restartTimer now).classify (ticksFrom last now))
    intro period valid
    have fmu : s1.fmu = { s.fmu with
        lastEdge := some now
        expiry := expiry
        periods := if valid = true then newestEntries s.fmu.n (s.fmu.periods ++ [period]) else [] } := by
      rw [← timer, ← appendNewest_eq_newestEntries]
      rfl
    refine ⟨s1.passage now valid, s1.dispatched now valid, ?_, State.passage_tickCount _ _ _, ?_⟩
    · rw [State.edge_next (s := s.advance dt) next]
      rfl
    · rw [← fmu]
      exact State.passage_sampleTaken (s := s) (s1 := s1) rfl rfl rfl now valid

/-- Settles O7: the passage of an invalid sample through the state s1, in which the period list is empty and the timer
restarted from the expiry tick. -/
theorem missingEdgeTimeoutMeasures : Obligations.MissingEdgeTimeoutMeasures := by
  intro s up
  let s1 := (s.advanceTo s.fmu.expiry).withFmu ({ s.fmu with periods := [] }.restartTimer s.fmu.expiry)
  have fmu : s1.fmu = { s.fmu with
      expiry := s.fmu.expiry + BitVec.ofNat 64 (if s.fmu.nominal = .hz50 then 400000 else 333334)
      periods := [] } := by
    rw [← missingEdgeTicks_eq]
    rfl
  have taken : State.missingEdge s = s1.passage s.fmu.expiry false := by
    simp only [State.missingEdge, State.advanceTo_fmu, s1]
  refine ⟨s1.passage s.fmu.expiry false, s1.dispatched s.fmu.expiry false, ?_, fun onTime => ?_, ?_⟩
  · rw [exec_missingEdgeTimeout, State.taking_up up, taken]
  · rw [State.passage_tickCount, State.withFmu_tickCount, State.advanceTo_tickCount, if_pos onTime]
  · rw [← fmu]
    exact State.passage_sampleTaken (s := s) (s1 := s1) rfl rfl (State.advanceTo_lif _ _) s.fmu.expiry false

end Sys2Proof.Machine
end

section
/-! What the spec says always holds of the measurement (`MeasInv`) is kept by every step: first by the FMU's own
operations, then by a sample's whole passage, then by every command, of which all but samples, resets and SET MEASUREMENT
leave the FMU and the EVT's region memory as they are. This settles O59. -/

namespace Sys2Proof.Machine

/-! ## The FMU's part of the invariant -/

/-- The clauses of MeasInv that are about the FMU alone (R4, R9 to R13, R16, R17). -/
structure FmuInv (u : Fmu) : Prop where
  count : 1 ≤ u.n ∧ u.n ≤ 8
  window : 1 ≤ u.w ∧ u.w ≤ 16
  listed : u.periods.length ≤ u.n
  valid : ∀ p ∈ u.periods, periodValid u.nominal p = true
  regain : u.regain ≤ 7 ∧ (u.state ≠ .lost → u.regain = 0)
  invalid : u.invalid ≤ 3 ∧ (u.state ≠ .holding → u.invalid = 0)
  held : u.held.isSome = (u.state != .lost)
  history : u.history.length ≤ 17 ∧ (u.state = .lost → u.history = [])
  reported : u.state = .lost → u.reported = ⟨0, 0, 0⟩

/-- The invariant is the FMU's part and the EVT's clause (R38). -/
theorem measInv_iff (s : State) :
    MeasInv s ↔ FmuInv s.fmu ∧ (s.fmu.state = .lost → s.evt.memory = none) := by
  constructor
  · rintro ⟨count, window, listed, valid, regain, invalid, held, history, reported, memory⟩
    exact ⟨⟨count, window, listed, valid, regain, invalid, held, history, reported⟩, memory⟩
  · rintro ⟨⟨count, window, listed, valid, regain, invalid, held, history, reported⟩, memory⟩
    exact ⟨count, window, listed, valid, regain, invalid, held, history, reported, memory⟩

theorem fmuInv_reset (t : Tick) : FmuInv (Fmu.reset t) where
  count := by simp [Fmu.reset]
  window := by simp [Fmu.reset]
  listed := Nat.zero_le _
  valid := nofun
  regain := ⟨Nat.zero_le _, fun _ => rfl⟩
  invalid := ⟨Nat.zero_le _, fun _ => rfl⟩
  held := rfl
  history := ⟨Nat.zero_le _, fun _ => rfl⟩
  reported := fun _ => rfl

namespace FmuInv

variable {u : Fmu}

/-- The time of the latest edge and the timer are no part of it. -/
theorem edgeTimer (h : FmuInv u) (last : Option Tick) (t : Tick) :
    FmuInv ({ u with lastEdge := last }.restartTimer t) :=
  ⟨h.count, h.window, h.listed, h.valid, h.regain, h.invalid, h.held, h.history, h.reported⟩

/-- Classifying a period keeps at most N periods, every one valid (R4). -/
theorem classify (h : FmuInv u) (period : Nat) : FmuInv (u.classify period) where
  count := h.count
  window := h.window
  listed := by
    simp only [Fmu.classify]
    split
    · rw [appendNewest_length]; exact Nat.min_le_right _ _
    · exact Nat.zero_le _
  valid := by
    intro p hp
    simp only [Fmu.classify] at hp ⊢
    split at hp
    · next inBand =>
      obtain old | rfl := mem_appendNewest hp
      · exact h.valid p old
      · exact inBand
    · exact absurd hp List.not_mem_nil
  regain := h.regain
  invalid := h.invalid
  held := h.held
  history := h.history
  reported := h.reported

/-- An emptied period list (R5). -/
theorem noPeriods (h : FmuInv u) : FmuInv { u with periods := [] } :=
  ⟨h.count, h.window, Nat.zero_le _, nofun, h.regain, h.invalid, h.held, h.history, h.reported⟩

/-- The LOST state set afresh (R12, R17). -/
theorem enterLost (h : FmuInv u) : FmuInv u.enterLost :=
  ⟨h.count, h.window, h.listed, h.valid, ⟨Nat.zero_le _, fun _ => rfl⟩, ⟨Nat.zero_le _, fun _ => rfl⟩, rfl,
    ⟨Nat.zero_le _, fun _ => rfl⟩, fun _ => rfl⟩

/-- A sample handed on fresh leaves VALID with both counts 0 (R9 to R11). -/
theorem handFresh (h : FmuInv u) (t : Tick) (dt : Nat) (regain : u.regain = 0) (invalid : u.invalid = 0) :
    FmuInv (u.handFresh t dt).1 where
  count := h.count
  window := h.window
  listed := h.listed
  valid := h.valid
  regain := ⟨h.regain.1, fun _ => regain⟩
  invalid := ⟨h.invalid.1, fun _ => invalid⟩
  held := rfl
  history := ⟨(appendNewest_length 17 _ _).trans_le (Nat.min_le_right _ _), nofun⟩
  reported := nofun

/-- A sample handed on held leaves HOLDING, and the held values present (R10, R11). -/
theorem handHeld (h : FmuInv u) (t : Tick) {dt invalid : Nat} (notLost : u.state ≠ .lost) (few : invalid ≤ 3) :
    FmuInv ({ u with invalid := invalid }.handHeld t dt).1 where
  count := h.count
  window := h.window
  listed := h.listed
  valid := h.valid
  regain := ⟨h.regain.1, fun _ => h.regain.2 notLost⟩
  invalid := ⟨few, fun notHolding => absurd rfl notHolding⟩
  held := h.held.trans (bne_iff_ne.mpr notLost)
  history := ⟨h.history.1, nofun⟩
  reported := nofun

/-- A sample handed on as LOST in LOST may count a valid sample up to the seventh (R9). -/
theorem handLost (h : FmuInv u) (t : Tick) {dt regain : Nat} (valid : Bool) (lost : u.state = .lost)
    (few : regain ≤ 7) : FmuInv ({ u with regain := regain }.handLost t dt valid).1 where
  count := h.count
  window := h.window
  listed := h.listed
  valid := h.valid
  regain := ⟨few, fun notLost => absurd lost notLost⟩
  invalid := h.invalid
  held := h.held
  history := h.history
  reported := fun _ => rfl

/-- The previous sample time is no part of it. -/
theorem stamp (h : FmuInv u) (t : Tick) : FmuInv (u.stamp t) :=
  ⟨h.count, h.window, h.listed, h.valid, h.regain, h.invalid, h.held, h.history, h.reported⟩

/-- Either count may be written 0. -/
theorem noRegain (h : FmuInv u) : FmuInv { u with regain := 0 } :=
  ⟨h.count, h.window, h.listed, h.valid, ⟨Nat.zero_le _, fun _ => rfl⟩, h.invalid, h.held, h.history, h.reported⟩

theorem noInvalid (h : FmuInv u) : FmuInv { u with invalid := 0 } :=
  ⟨h.count, h.window, h.listed, h.valid, h.regain, ⟨Nat.zero_le _, fun _ => rfl⟩, h.held, h.history, h.reported⟩

/-- Every sample keeps it, by the table of R12. -/
theorem sample (h : FmuInv u) (t : Tick) (valid : Bool) : FmuInv (u.sample t valid).1 := by
  have stamped := h.stamp t
  cases hs : u.state <;> cases valid
  case lost.false => rw [Fmu.sample_lost_invalid t hs]; exact stamped.handLost t _ hs (Nat.zero_le _)
  case lost.true =>
    rw [Fmu.sample_lost_valid t hs]
    split
    · exact stamped.noRegain.handFresh t _ rfl (h.invalid.2 (by simp [hs]))
    · exact stamped.handLost t _ hs (by omega)
  case valid.false => rw [Fmu.sample_valid_invalid t hs]; exact stamped.handHeld t (by simp [Fmu.stamp, hs]) (by decide)
  case valid.true =>
    rw [Fmu.sample_valid_valid t hs]
    exact stamped.handFresh t _ (h.regain.2 (by simp [hs])) (h.invalid.2 (by simp [hs]))
  case holding.false =>
    rw [Fmu.sample_holding_invalid t hs]
    split
    · exact stamped.enterLost.handLost t _ rfl (Nat.zero_le _)
    · exact stamped.handHeld t (by simp [Fmu.stamp, hs]) (by omega)
  case holding.true =>
    rw [Fmu.sample_holding_valid t hs]
    exact stamped.noInvalid.handFresh t _ (h.regain.2 (by simp [hs])) rfl

/-- An accepted SET MEASUREMENT sets it up afresh with its own N and W (R17). -/
theorem configure (h : FmuInv u) (nom : Nominal) {n w : Nat} (t : Tick) (hn : 1 ≤ n ∧ n ≤ 8) (hw : 1 ≤ w ∧ w ≤ 16) :
    FmuInv (u.configure nom n w t) :=
  ⟨hn, hw, Nat.zero_le _, nofun, h.enterLost.regain, h.enterLost.invalid, h.enterLost.held, h.enterLost.history,
    h.enterLost.reported⟩

end FmuInv

/-! ## Samples and resets -/

/-- A sample's passage keeps the FMU's part, and in LOST leaves the region memory unknown (R12, R38). -/
theorem State.passage_measInv {s : State} (h : FmuInv s.fmu) (t : Tick) (valid : Bool) :
    MeasInv (s.passage t valid) := by
  have fmu := s.passage_fmu t valid
  obtain ⟨-, -, state⟩ := s.fmu.sample_record t valid
  refine (measInv_iff _).mpr ⟨fmu ▸ h.sample t valid, fun lost => ?_⟩
  rw [fmu, ← state] at lost
  exact s.passage_memory_of_lost t valid lost

theorem State.edge_measInv {s : State} (h : MeasInv s) : MeasInv s.edge := by
  obtain ⟨fmu, memory⟩ := (measInv_iff s).mp h
  have recorded := fmu.edgeTimer (some s.tickCount) s.tickCount
  cases last : s.fmu.lastEdge with
  | none => rw [State.edge_first last]; exact (measInv_iff _).mpr ⟨recorded, memory⟩
  | some last' => rw [State.edge_next last]; exact State.passage_measInv (recorded.classify _) _ _

theorem State.missingEdge_measInv {s : State} (h : MeasInv s) : MeasInv s.missingEdge := by
  obtain ⟨fmu, -⟩ := (measInv_iff s).mp h
  refine State.passage_measInv ?_ _ _
  rw [State.withFmu_fmu, State.advanceTo_fmu]
  exact fmu.noPeriods.edgeTimer s.fmu.lastEdge s.fmu.expiry

/-- A reset gives every block its reset state; a stop line that is low is taken as an assertion at once, with its notice
(R57, R184). -/
theorem State.takeReset_eq (s : State) (cause : ResetCause) (t : Tick) (line : StopLevel) :
    s.takeReset cause t line =
      { State.blocksReset cause t s.pending with
        evt := { Evt.reset with mode := if line = .asserted then .halted else .idle, stopLevel := line }
        lif := { Lif.reset with pendingNotices := { NoticeSet.startOnly with halt := line == .asserted } } } := by
  cases line <;> rfl

theorem State.takeReset_measInv (s : State) (cause : ResetCause) (t : Tick) (line : StopLevel) :
    MeasInv (s.takeReset cause t line) := by
  rw [State.takeReset_eq]
  exact (measInv_iff _).mpr ⟨fmuInv_reset t, fun _ => rfl⟩

/-! ## What leaves the FMU and the region memory as they are -/

/-- From s to t the FMU and the EVT's region memory are unchanged. -/
structure MeasFrame (s t : State) : Prop where
  fmu : t.fmu = s.fmu
  memory : t.evt.memory = s.evt.memory

namespace MeasFrame

theorem refl (s : State) : MeasFrame s s := ⟨rfl, rfl⟩

theorem trans {s t u : State} (h : MeasFrame s t) (k : MeasFrame t u) : MeasFrame s u :=
  ⟨k.fmu.trans h.fmu, k.memory.trans h.memory⟩

theorem of_bankFrame {s t : State} (h : BankFrame s t) : MeasFrame s t := ⟨h.fmu, by rw [h.evt]⟩

theorem measInv {s t : State} (h : MeasFrame s t) (hs : MeasInv s) : MeasInv t := by
  rw [measInv_iff] at hs ⊢
  rwa [h.fmu, h.memory]

theorem measInv_of_bankFrame {s t : State} (h : BankFrame s t) (hs : MeasInv s) : MeasInv t :=
  (of_bankFrame h).measInv hs

/-- A choice between two answers leaves them unchanged when both answers do. -/
theorem answer_ite {c : Prop} [Decidable c] {s : State} {a b : Answer} (ha : MeasFrame s a.state)
    (hb : MeasFrame s b.state) : MeasFrame s (if c then a else b).state := by
  split
  · exact ha
  · exact hb

end MeasFrame

theorem State.reviseOrders_measFrame (s : State) (f : Order → Order) : MeasFrame s (s.reviseOrders f) :=
  ⟨by simp, by simp⟩

/-! ### The bank stop input (R52, R53) -/

theorem State.assertStop_measFrame (s : State) : MeasFrame s s.assertStop := by
  have taken (u : State) (h : MeasFrame s u) (now : Nat) : MeasFrame s (((u.addNotice .halt).tripAll).cancelAll now) :=
    (h.trans (.of_bankFrame ((u.addNotice_bankFrame .halt).trans (State.tripAll_bankFrame _)))).trans
      (State.reviseOrders_measFrame _ _)
  refine taken _ ?_ _
  cases s.evt.mode
  case event => exact ⟨by simp, by simp⟩
  all_goals exact ⟨rfl, rfl⟩

theorem State.releaseStop_measFrame (s : State) : MeasFrame s s.releaseStop :=
  MeasFrame.trans (t := s.withEvt { s.evt with stopLevel := .released, mode := .idle }) ⟨rfl, rfl⟩
    (.of_bankFrame (State.addNotice_bankFrame _ .halt))

/-! ### The owners of the requests (chapters 02, 03, 09, 10) -/

theorem ownSetMode_measFrame (s : State) (p : List Byte) : MeasFrame s (ownSetMode s p).state := by
  unfold ownSetMode
  split
  · exact .refl s
  · split <;> exact ⟨rfl, rfl⟩

theorem ownSetEvent_measFrame (s : State) (p : List Byte) : MeasFrame s (ownSetEvent s p).state := by
  unfold ownSetEvent
  split <;> exact ⟨rfl, rfl⟩

theorem ownSetBankLimits_measFrame (s : State) (p : List Byte) : MeasFrame s (ownSetBankLimits s p).state :=
  .answer_ite (.refl s) ⟨rfl, rfl⟩

theorem ownSetCurve_measFrame (s : State) (p : List Byte) : MeasFrame s (ownSetCurve s p).state :=
  .answer_ite (.refl s) (.answer_ite (.refl s) ⟨rfl, rfl⟩)

theorem ownSetNotices_measFrame (s : State) (p : List Byte) : MeasFrame s (ownSetNotices s p).state := by
  unfold ownSetNotices
  split <;> exact ⟨rfl, rfl⟩

theorem ownRestart_measFrame (s : State) (p : List Byte) : MeasFrame s (ownRestart s p).state :=
  .answer_ite (.refl s) (.answer_ite (.refl s) ⟨rfl, rfl⟩)

theorem ownSnapshotPart0_measFrame (s : State) (p : List Byte) : MeasFrame s (ownSnapshotPart0 s p).state :=
  .answer_ite ⟨rfl, rfl⟩ (.refl s)

theorem ownSnapshotPart1_measFrame (s : State) (p : List Byte) : MeasFrame s (ownSnapshotPart1 s p).state := by
  unfold ownSnapshotPart1
  split <;> exact ⟨rfl, rfl⟩

/-! ### The owners of the requests (chapters 04 and 07) -/

theorem ownEnrol_measFrame (s : State) (p : List Byte) : MeasFrame s (ownEnrol s p).state := by
  have enrolled (i : Slot) (r : RotorRecord) : MeasFrame s (s.enrol i r) :=
    .of_bankFrame <| (s.setRotor_bankFrame i r).trans <|
      (State.noteRotor_bankFrame _ i).trans (State.withRbi_bankFrame _ _)
  unfold ownEnrol
  split
  · exact .refl s
  · refine .answer_ite (.refl s) (.answer_ite (.refl s) ?_)
    split
    · exact .answer_ite (.refl s) (enrolled _ _)
    · exact .refl s

theorem ownRelease_measFrame (s : State) (p : List Byte) : MeasFrame s (ownRelease s p).state := by
  have released (i : Slot) : MeasFrame s (s.releaseSlot i) :=
    .of_bankFrame <| (s.setRotor_bankFrame i _).trans <|
      (State.noteRotor_bankFrame _ i).trans (State.withRbi_bankFrame _ _)
  unfold ownRelease
  split
  · exact .refl s
  · exact .answer_ite (released _) (.refl s)

theorem ownSpinUp_measFrame (s : State) (p : List Byte) : MeasFrame s (ownSpinUp s p).state := by
  have lifted (i : Slot) : MeasFrame s (s.startLift i) :=
    .of_bankFrame ((s.withRsq_bankFrame _).trans (State.changeRotor_bankFrame _ i _ _))
  unfold ownSpinUp
  split
  · exact .refl s
  · exact .answer_ite (.refl s) (.answer_ite (.refl s) (lifted _))

theorem ownPark_measFrame (s : State) (p : List Byte) : MeasFrame s (ownPark s p).state := by
  have braked (i : Slot) : MeasFrame s (s.brake i .host) := .of_bankFrame (s.brake_bankFrame i .host)
  unfold ownPark
  split
  · exact .refl s
  · split
    case h_4 => exact .answer_ite (.of_bankFrame (s.settle_bankFrame _ _)) (braked _)
    case h_5 => exact braked _
    case h_6 => exact braked _
    case h_7 => exact braked _
    case h_8 => exact braked _
    case h_9 => exact .answer_ite (.refl s) (braked _)
    all_goals exact .refl s

theorem ownResetFault_measFrame (s : State) (p : List Byte) : MeasFrame s (ownResetFault s p).state := by
  unfold ownResetFault
  split
  · exact .refl s
  · exact .answer_ite (.of_bankFrame ((s.setRotor_bankFrame _ _).trans (State.settle_bankFrame _ _ _))) (.refl s)

theorem ownSetRotorLimits_measFrame (s : State) (p : List Byte) : MeasFrame s (ownSetRotorLimits s p).state := by
  unfold ownSetRotorLimits
  split
  · exact .refl s
  · exact .answer_ite (.refl s) ⟨rfl, rfl⟩

theorem ownSetRotorRole_measFrame (s : State) (p : List Byte) : MeasFrame s (ownSetRotorRole s p).state := by
  unfold ownSetRotorRole
  split
  · exact .refl s
  · refine .answer_ite (.refl s) ?_
    split <;> exact ⟨rfl, rfl⟩

theorem ownRotorStatus_measFrame (s : State) (p : List Byte) : MeasFrame s (ownRotorStatus s p).state := by
  unfold ownRotorStatus
  split
  · exact .refl s
  · exact .answer_ite (.refl s) (.refl s)

theorem afterRotorStatus_bankFrame (s : State) (p : List Byte) : BankFrame s (afterRotorStatus s p) := by
  unfold afterRotorStatus
  split
  · exact .refl s
  · exact .ite (s.setRotor_bankFrame _ _) (.refl s)

/-! ### The owners of the requests (chapter 06) -/

theorem ownPlaceOrder_measFrame (s : State) (p : List Byte) : MeasFrame s (ownPlaceOrder s p).state := by
  unfold ownPlaceOrder
  split
  · exact .refl s
  · exact .answer_ite (.refl s) <| .answer_ite (.refl s) <| .answer_ite (.refl s) <| .answer_ite (.refl s) <|
      .answer_ite (.refl s) ⟨rfl, rfl⟩

theorem ownCancelOrder_measFrame (s : State) (p : List Byte) : MeasFrame s (ownCancelOrder s p).state := by
  refine .answer_ite (.refl s) ?_
  split
  · exact .refl s
  · exact .answer_ite (.refl s) (s.reviseOrders_measFrame _)

theorem ownResumeOrder_measFrame (s : State) (p : List Byte) : MeasFrame s (ownResumeOrder s p).state := by
  refine .answer_ite (.refl s) ?_
  split
  · exact .refl s
  · split
    case h_1 => exact s.reviseOrders_measFrame _
    all_goals exact .refl s

theorem ownOrderStatus_measFrame (s : State) (p : List Byte) : MeasFrame s (ownOrderStatus s p).state := by
  refine .answer_ite (.refl s) ?_
  split <;> exact .refl s

theorem afterOrderStatus_measFrame (s : State) (p : List Byte) : MeasFrame s (afterOrderStatus s p) := by
  have retired (id : Nat) : MeasFrame s (s.retireOrder id) := by
    simp only [State.retireOrder]
    split <;> exact ⟨rfl, rfl⟩
  unfold afterOrderStatus
  split
  · exact .refl s
  · split
    · exact retired _
    · exact .refl s

/-! ## Every command -/

namespace MeasInv

section
variable {c : Instr} {s t : State} {f : State → State} {k : RequestKind} {suits : List Byte → Bool}
  {owner : State → List Byte → Answer} {after_ : State → List Byte → State}

/-- A command keeps the invariant when what the part does for it does. -/
theorem taking (h : MeasInv s) (meaning : exec c s = s.taking f) (he : exec c s = .next t) (kept : MeasInv (f s)) :
    MeasInv t := by
  rw [meaning] at he
  cases up : s.supply with
  | up => rw [State.taking_up up] at he; cases he; exact kept
  | down => rw [State.taking_down up] at he; cases he; exact h

/-- A command for which the part does nothing to the measurement. -/
theorem framed (h : MeasInv s) (meaning : exec c s = s.taking f) (he : exec c s = .next t)
    (frame : BankFrame s (f s)) : MeasInv t :=
  h.taking meaning he (MeasFrame.measInv_of_bankFrame frame h)

/-- The taking of a request keeps it when the owner does, and what follows the reply does. -/
theorem request (h : MeasInv s) (meaning : exec c s = s.taking fun s => s.takeRequest k suits owner after_)
    (he : exec c s = .next t) (owned : ∀ p, MeasInv (owner s p).state) (followed : ∀ s p, MeasFrame s (after_ s p)) :
    MeasInv t := by
  refine h.taking meaning he ?_
  obtain same | ⟨r, -, -, -, -, answered⟩ := s.takeRequest_cases k suits owner after_
  · rw [same]; exact h
  · rw [answered]
    exact (followed _ _).measInv (MeasFrame.measInv_of_bankFrame (State.formReply_bankFrame _ _ _ _) (owned r.payload))

/-- A request whose owner leaves the FMU and the region memory as they are. -/
theorem keptRequest (h : MeasInv s) (meaning : exec c s = s.taking fun s => s.takeRequest k suits owner nothingAfter)
    (he : exec c s = .next t) (owned : ∀ p, MeasFrame s (owner s p).state) : MeasInv t :=
  h.request meaning he (fun p => (owned p).measInv h) fun s _ => .refl s

end

end MeasInv

/-- SET MEASUREMENT sets the measurement afresh, in LOST with the region memory unknown (R12, R17, R41). -/
theorem ownSetMeasurement_measInv {s : State} (h : MeasInv s) (p : List Byte) :
    MeasInv (ownSetMeasurement s p).state := by
  obtain ⟨fmu, -⟩ := (measInv_iff s).mp h
  unfold ownSetMeasurement
  split
  · exact h
  · split
    · exact h
    · next nom _ =>
      refine MeasFrame.measInv (s := (s.withFmu (s.fmu.configure nom (clampNat 1 8 (field p 1 1))
        (clampNat 1 16 (field p 2 1)) s.tickCount)).withEvt { s.evt with memory := none })
        ⟨State.addNoticeIf_fmu _ _ _, congrArg Evt.memory (State.addNoticeIf_evt _ _ _)⟩ ?_
      exact (measInv_iff _).mpr
        ⟨fmu.configure nom s.tickCount ⟨clampNat_lower, clampNat_upper (by decide)⟩
          ⟨clampNat_lower, clampNat_upper (by decide)⟩, fun _ => rfl⟩

/-- Every command keeps what the spec says always holds of the measurement. -/
theorem exec_measInv (c : Instr) {s t : State} (h : MeasInv s) (he : exec c s = .next t) : MeasInv t := by
  have advanced (dt : Nat) : BankFrame s (s.advance dt) := s.advance_bankFrame dt
  have later (dt : Nat) : MeasInv (s.advance dt) := MeasFrame.measInv_of_bankFrame (advanced dt) h
  cases c with
  | zeroCrossingEdge dt => exact h.taking (exec_zeroCrossingEdge dt s) he (State.edge_measInv (later dt))
  | missingEdgeTimeout => exact h.taking (exec_missingEdgeTimeout s) he (State.missingEdge_measInv h)
  | stopAssertion dt steady =>
    refine h.taking (exec_stopAssertion dt steady s) he ?_
    split
    · exact (State.assertStop_measFrame _).measInv (later dt)
    · exact later dt
  | stopRelease dt steady =>
    refine h.taking (exec_stopRelease dt steady s) he ?_
    split
    · exact (State.releaseStop_measFrame _).measInv (later dt)
    · exact later dt
  | powerOn line => cases he; exact s.takeReset_measInv _ _ line
  | supplyDip line => cases he; exact s.takeReset_measInv _ _ line
  | frameCompleted => exact h.framed (exec_frameCompleted s) he s.completeFrame_bankFrame
  | gapTimerExpiry => exact h.framed (exec_gapTimerExpiry s) he s.gapExpires_bankFrame
  | replySend => exact h.framed (exec_replySend s) he s.beginReply_bankFrame
  | requestSlotRelease dt line =>
    refine h.taking (exec_requestSlotRelease dt line s) he ?_
    obtain frame | reset := (s.advance dt).endReply_cases line
    · exact MeasFrame.measInv_of_bankFrame frame (later dt)
    · rw [reset]; exact State.takeReset_measInv _ _ _ line
  | start => exact h.framed (exec_start s) he (s.beginNotice_bankFrame _)
  | eventChange => exact h.framed (exec_eventChange s) he (s.beginNotice_bankFrame _)
  | rotorChange => exact h.framed (exec_rotorChange s) he (s.beginNotice_bankFrame _)
  | orderChange => exact h.framed (exec_orderChange s) he (s.beginNotice_bankFrame _)
  | measurementChange => exact h.framed (exec_measurementChange s) he (s.beginNotice_bankFrame _)
  | haltChange => exact h.framed (exec_haltChange s) he (s.beginNotice_bankFrame _)
  | identify => exact h.keptRequest (exec_identify s) he fun _ => .refl s
  | status => exact h.keptRequest (exec_status s) he fun _ => .refl s
  | clearSummary => exact h.keptRequest (exec_clearSummary s) he fun _ => ⟨rfl, rfl⟩
  | setClock => exact h.keptRequest (exec_setClock s) he fun _ => ⟨rfl, rfl⟩
  | setMode => exact h.keptRequest (exec_setMode s) he (ownSetMode_measFrame s)
  | setMeasurement => exact h.request (exec_setMeasurement s) he (ownSetMeasurement_measInv h) fun s _ => .refl s
  | setEvent => exact h.keptRequest (exec_setEvent s) he (ownSetEvent_measFrame s)
  | setBankLimits => exact h.keptRequest (exec_setBankLimits s) he (ownSetBankLimits_measFrame s)
  | setCurve => exact h.keptRequest (exec_setCurve s) he (ownSetCurve_measFrame s)
  | readCurve => exact h.keptRequest (exec_readCurve s) he fun _ => .refl s
  | readEvents => exact h.keptRequest (exec_readEvents s) he fun _ => .refl s
  | setNotices => exact h.keptRequest (exec_setNotices s) he (ownSetNotices_measFrame s)
  | restart => exact h.keptRequest (exec_restart s) he (ownRestart_measFrame s)
  | snapshotPart0 => exact h.keptRequest (exec_snapshotPart0 s) he (ownSnapshotPart0_measFrame s)
  | snapshotPart1 => exact h.keptRequest (exec_snapshotPart1 s) he (ownSnapshotPart1_measFrame s)
  | enrol => exact h.keptRequest (exec_enrol s) he (ownEnrol_measFrame s)
  | release => exact h.keptRequest (exec_release s) he (ownRelease_measFrame s)
  | spinUp => exact h.keptRequest (exec_spinUp s) he (ownSpinUp_measFrame s)
  | park => exact h.keptRequest (exec_park s) he (ownPark_measFrame s)
  | resetFault => exact h.keptRequest (exec_resetFault s) he (ownResetFault_measFrame s)
  | setRotorLimits => exact h.keptRequest (exec_setRotorLimits s) he (ownSetRotorLimits_measFrame s)
  | setRotorRole => exact h.keptRequest (exec_setRotorRole s) he (ownSetRotorRole_measFrame s)
  | rotorStatus =>
    exact h.request (exec_rotorStatus s) he (fun p => (ownRotorStatus_measFrame s p).measInv h) fun s p =>
      .of_bankFrame (afterRotorStatus_bankFrame s p)
  | placeOrder => exact h.keptRequest (exec_placeOrder s) he (ownPlaceOrder_measFrame s)
  | cancelOrder => exact h.keptRequest (exec_cancelOrder s) he (ownCancelOrder_measFrame s)
  | resumeOrder => exact h.keptRequest (exec_resumeOrder s) he (ownResumeOrder_measFrame s)
  | orderStatus =>
    exact h.request (exec_orderStatus s) he (fun p => (ownOrderStatus_measFrame s p).measInv h)
      afterOrderStatus_measFrame
  | listOrders => exact h.keptRequest (exec_listOrders s) he fun _ => .refl s
  | poll dt => exact h.framed (exec_poll dt s) he ((advanced dt).trans (State.pollNext_bankFrame _))
  | moduleReply dt bytes =>
    exact h.framed (exec_moduleReply dt bytes s) he ((advanced dt).trans (State.busBytes_bankFrame _ bytes))
  | replyWindowClose => exact h.framed (exec_replyWindowClose s) he s.windowCloses_bankFrame
  | liftTimerExpiry i =>
    exact h.framed (exec_liftTimerExpiry i s) he (s.timerExpires_bankFrame i _ fun s => s.trip_bankFrame i _)
  | spinupTimerExpiry i =>
    exact h.framed (exec_spinupTimerExpiry i s) he (s.timerExpires_bankFrame i _ fun s => s.brake_bankFrame i _)
  | syncTimerExpiry i =>
    exact h.framed (exec_syncTimerExpiry i s) he (s.timerExpires_bankFrame i _ fun s => s.syncFails_bankFrame i)
  | linkByteReceived dt byte broken =>
    exact h.framed (exec_linkByteReceived dt byte broken s) he
      ((advanced dt).trans (State.takeByte_bankFrame _ byte broken))
  | noticeFrameEnd dt =>
    exact h.framed (exec_noticeFrameEnd dt s) he ((advanced dt).trans (State.endNotice_bankFrame _))
  | supplyFall dt => exact h.taking (exec_supplyFall dt s) he (MeasFrame.measInv (s := s) ⟨rfl, rfl⟩ h)

/-- Settles O59: the idle step changes nothing, and every command keeps the invariant. -/
theorem stepKeepsMeasInv : Obligations.StepKeepsMeasInv := by
  intro s t h stepped
  cases waiting : s.pending with
  | nil => simp only [step, waiting] at stepped; cases stepped; exact h
  | cons c rest =>
    simp only [step, waiting] at stepped
    have queued : MeasFrame s (s.withPending rest) := ⟨rfl, rfl⟩
    exact exec_measInv c (queued.measInv h) stepped

end Sys2Proof.Machine
end

section
/-! SET MEASUREMENT (R17): O32. The request in the slot is answered from what the owner answers; the owner's answer by the
mode, the nominal and the two counts it is sent. -/

namespace Sys2Proof.Machine

/-- A request that the slot holds is answered with its owner's state, code and body (R165, R169). -/
theorem State.taking_request {s : State} {k : RequestKind} {tag : Byte} {p : List Byte} (asks : s.asks k tag p)
    {suits : List Byte → Bool} (suited : suits p = true) (owner : State → List Byte → Answer) :
    (s.taking fun s => s.takeRequest k suits owner nothingAfter) =
      answered (owner s p).state k tag p (owner s p).code (owner s p).body := by
  obtain ⟨up, slot⟩ := asks
  rw [State.taking_up up, State.takeRequest_slot slot suits suited]
  rfl

/-- MEASUREMENT CHANGE added on a condition: it is pending where it was, and where the condition holds and the kind is
enabled; nothing else changes (R15, R172). -/
theorem State.addMeasurementNoticeIf_eq (s : State) (b : Bool) :
    s.addNoticeIf b .measurement =
      { s with lif := { s.lif with pendingNotices := { s.lif.pendingNotices with
        measurement := s.lif.pendingNotices.measurement || (s.lif.mask.measurement && b) } } } := by
  cases b <;> cases enabled : s.lif.mask.measurement <;>
    simp [State.addNoticeIf, State.addNotice, NoticeSet.has, NoticeSet.put, State.withLif, enabled]

/-- A value is its own clamp exactly when it lies within the range. -/
theorem clampNat_eq_self_iff {lo hi v : Nat} (h : lo ≤ hi) : clampNat lo hi v = v ↔ lo ≤ v ∧ v ≤ hi := by
  simp only [clampNat]
  omega

/-- The code is OK exactly when neither of two values had to be clamped (R168). -/
theorem acceptedCode_clampNat {lo hi lo' hi' : Nat} (h : lo ≤ hi) (h' : lo' ≤ hi') (v v' : Nat) :
    acceptedCode (clampNat lo hi v != v || clampNat lo' hi' v' != v') =
      if (lo ≤ v ∧ v ≤ hi) ∧ lo' ≤ v' ∧ v' ≤ hi' then .ok else .clamped := by
  simp only [acceptedCode, Bool.or_eq_true, bne_iff_ne, ne_eq, clampNat_eq_self_iff h, clampNat_eq_self_iff h',
    ← not_and_or, ite_not]

theorem nominalOfCode_eq_none {v : Nat} (h50 : v ≠ 50) (h60 : v ≠ 60) : nominalOfCode v = none := by
  unfold nominalOfCode
  split
  · exact absurd rfl h50
  · exact absurd rfl h60
  · rfl

theorem ownSetMeasurement_notIdle {s : State} (h : s.evt.mode ≠ .idle) (p : List Byte) :
    ownSetMeasurement s p = refuse s .notIdle := by
  simp only [ownSetMeasurement, if_pos h]

theorem ownSetMeasurement_badValue {s : State} {p : List Byte} (idle : s.evt.mode = .idle)
    (unknown : nominalOfCode (field p 0 1) = none) : ownSetMeasurement s p = refuse s .badValue := by
  simp only [ownSetMeasurement, idle, unknown, ne_eq, not_true_eq_false, if_false]

theorem ownSetMeasurement_accepts {s : State} {p : List Byte} {nom : Nominal} (idle : s.evt.mode = .idle)
    (known : nominalOfCode (field p 0 1) = some nom) :
    ownSetMeasurement s p =
      accept (s.setMeasurement nom (clampNat 1 8 (field p 1 1)) (clampNat 1 16 (field p 2 1)))
        (clampNat 1 8 (field p 1 1) != field p 1 1 || clampNat 1 16 (field p 2 1) != field p 2 1) := by
  simp only [ownSetMeasurement, idle, known, ne_eq, not_true_eq_false, if_false]

/-- Settles O32, by the three answers of the owner. -/
theorem setMeasurement : Obligations.SetMeasurement := by
  intro s tag p nom asks
  rw [exec_setMeasurement, State.taking_request asks rfl ownSetMeasurement]
  refine ⟨fun notIdle => ?_, fun idle h50 h60 => ?_, fun idle code => ?_⟩
  · rw [ownSetMeasurement_notIdle notIdle]
    rfl
  · rw [ownSetMeasurement_badValue idle (nominalOfCode_eq_none h50 h60)]
    rfl
  · have known : nominalOfCode (field p 0 1) = some nom := by rw [code]; cases nom <;> rfl
    rw [ownSetMeasurement_accepts idle known, accept,
      acceptedCode_clampNat (by decide) (by decide), State.setMeasurement,
      State.addMeasurementNoticeIf_eq]
    cases nom <;> rfl

end Sys2Proof.Machine
end

section
/-! Resets (R184): O4 and O50. -/

namespace Sys2Proof.Machine

/-! ## The reset state of every block (R18, R33, R57, R77, R118, R145, R159, R176, R188) -/

/-- Every slot is empty after a reset (R77). -/
theorem State.rotor_blocksReset (cause : ResetCause) (t : Tick) (queue : List Instr) (i : Slot) :
    (State.blocksReset cause t queue).rotor i = RotorRecord.empty := by
  simp [State.rotor, State.blocksReset]

/-- Every rotor timer is stopped after a reset (R145). -/
theorem Rsq.timer_reset (i : Slot) : Rsq.reset.timer i = none := by simp [Rsq.timer, Rsq.reset]

/-- Every tag is 0 after a reset (R159). -/
theorem Rbi.tags_reset (i : Slot) : Rbi.reset.tags[i] = 0 := by simp [Rbi.reset]

/-- An empty slot is OFFLINE, with no cause and no probe result (R77). -/
theorem RotorRecord.offline_of_empty {r : RotorRecord} (h : r = RotorRecord.empty) :
    r.state = .offline ∧ r.cause = none ∧ r.probeNoModule = false := by
  subst h; exact ⟨rfl, rfl, rfl⟩

/-- An empty slot has nothing staged and nothing counted, and reads 50 zero bytes in ROTOR STATUS (R76, R77). -/
theorem RotorRecord.cleared_of_empty {r : RotorRecord} (h : r = RotorRecord.empty) :
    r.staged = none ∧ r.discharged = ⟨0, 0⟩ ∧ r.absorbed = ⟨0, 0⟩ ∧ r.statusBody = List.replicate 50 0#8 := by
  subst h; exact ⟨rfl, rfl, rfl, by decide⟩

/-- A reset leaves every block as its chapter has it after a reset (R184). -/
theorem State.takeReset_afterReset (s : State) (cause : ResetCause) (t : Tick) (line : StopLevel) :
    AfterReset (s.takeReset cause t line) cause t line := by
  have slot := State.rotor_blocksReset cause t s.pending
  rw [State.takeReset_eq]
  exact
    { running := ⟨rfl, rfl⟩
      fmuSettings := ⟨rfl, rfl, rfl⟩
      fmuState := ⟨rfl, rfl, rfl⟩
      fmuAbsent := ⟨rfl, rfl, rfl⟩
      fmuLists := ⟨rfl, rfl⟩
      fmuReported := rfl
      fmuTimer := rfl
      evtMode := ⟨rfl, rfl⟩
      evtStop := rfl
      evtEmpty := ⟨rfl, rfl, rfl, rfl⟩
      evtSettings := ⟨rfl, rfl, rfl, rfl, rfl, rfl⟩
      dseCurve := ⟨rfl, rfl⟩
      dseSettings := ⟨rfl, rfl, rfl, rfl, rfl, rfl⟩
      dseRecord := rfl
      rotorStates := fun i => RotorRecord.offline_of_empty (slot i)
      rotorFields := fun i => RotorRecord.cleared_of_empty (slot i)
      rsqQueues := ⟨rfl, rfl, rfl⟩
      rsqTimers := Rsq.timer_reset
      rsqChanged := rfl
      rbiRound := ⟨rfl, rfl, rfl, rfl⟩
      rbiTags := Rbi.tags_reset
      rbiAssembly := rfl
      orl := ⟨rfl, rfl⟩
      lifReceiver := ⟨rfl, rfl⟩
      lifReply := ⟨rfl, rfl, rfl, rfl⟩
      lifCounters := ⟨rfl, rfl, rfl⟩
      lifMask := fun k => by cases k <;> rfl
      lifNotices := fun k => by cases k <;> rfl
      stuFlags := rfl
      stuRest := ⟨rfl, rfl, rfl, rfl⟩ }

/-- Settles O4: every reset leaves `AfterReset`, and the machine's start is such a reset. -/
theorem powerOnAndSupplyDipReset : Obligations.PowerOnAndSupplyDipReset := by
  refine ⟨fun line s => ⟨⟨_, exec_powerOn line s, s.takeReset_afterReset _ _ line⟩,
    ⟨_, exec_supplyDip line s, s.takeReset_afterReset _ _ line⟩⟩, ?_, rfl⟩
  exact State.reset.takeReset_afterReset .powerOn 0 .released

/-! ## The invariants at reset -/

theorem State.rotor_reset (i : Slot) : State.reset.rotor i = RotorRecord.empty := State.rotor_blocksReset _ _ _ i

theorem modeInv_reset : ModeInv State.reset where
  saved := rfl
  stop := rfl
  length := by decide
  closed := fun _ listed => absurd listed List.not_mem_nil
  newest := rfl
  recovery := nofun
  curve := nofun

/-- Every slot is OFFLINE after a reset, and in no other state (R77). -/
theorem State.rotor_reset_ne {st : RotorState} (h : RotorState.offline ≠ st) (i : Slot) :
    (State.reset.rotor i).state ≠ st := by
  rw [State.rotor_reset]; exact h

/-- After a reset no rotor is on its way and nothing is taken (R145). -/
theorem roadInv_reset : RoadInv State.reset where
  spinUpOnce := List.nodup_nil
  spinUpHolds := fun i => iff_of_false List.not_mem_nil (State.rotor_reset_ne (st := .spinupWait) nofun i)
  syncOnce := List.nodup_nil
  syncHolds := fun i => iff_of_false List.not_mem_nil (State.rotor_reset_ne (st := .syncWait) nofun i)
  unit := fun i => iff_of_false nofun (State.rotor_reset_ne (st := .syncing) nofun i)
  four := by
    have none_accelerates : State.reset.accelerating = [] :=
      List.eq_nil_iff_forall_not_mem.mpr fun i hi =>
        State.rotor_reset_ne (st := .accelerating) nofun i ((State.mem_accelerating _ i).mp hi)
    rw [none_accelerates]
    exact Nat.zero_le _
  timed := fun i => by rw [State.rotor_reset]; exact congrArg Option.isSome (Rsq.timer_reset i)
  spinUpWaits := fun h => absurd rfl h
  syncWaits := fun h => absurd rfl h
  halted := nofun

theorem recordInv_empty : RecordInv RotorRecord.empty where
  shares := fun _ => ⟨rfl, rfl, rfl⟩
  attempts := by decide
  onTheWay := fun _ => by decide
  online := nofun
  late := by decide
  counted := by decide
  residues := by decide

theorem tableInv_reset : TableInv State.reset := fun i => State.rotor_reset i ▸ recordInv_empty

theorem orderInv_reset : OrderInv State.reset where
  atMost := by decide
  distinct := List.nodup_nil
  oneActive := by decide
  event := nofun
  halted := nofun
  records := fun _ listed => absurd listed List.not_mem_nil

/-- START alone is pending, and every kind is enabled (R176, R187). -/
theorem noticeInv_reset : NoticeInv State.reset where
  enabled := by intro k _; cases k <;> rfl
  rotor := rfl
  order := rfl

theorem linkInv_reset : LinkInv State.reset where
  reply := rfl
  oneReply := rfl
  gap := rfl
  fits := trivial
  counters := by decide

theorem roundInv_reset : RoundInv State.reset where
  probesOnce := List.nodup_nil
  probing := fun _ waits => absurd waits List.not_mem_nil
  once := fun r h => absurd h.symm (Option.some_ne_none r)
  part := fun r h => absurd h.symm (Option.some_ne_none r)
  flight := fun p h => absurd h.symm (Option.some_ne_none p)
  assembled := .inl rfl

theorem measInv_reset : MeasInv State.reset := (measInv_iff _).mpr ⟨fmuInv_reset 0, fun _ => rfl⟩

/-- The reset curve and the reset values are in their ranges, and no slot is enrolled (R19, R33, R57). -/
theorem settingsInv_reset : SettingsInv State.reset where
  curve := by unfold curveFits breakpointFits; decide
  pendingCurve := fun c h => absurd h.symm (Option.some_ne_none c)
  gain := by decide
  bank := by decide
  bounds := by decide
  spinUp := by decide
  thresholds := by decide
  recovery := by decide
  rotors := fun i enrolled => absurd (by rw [State.rotor_reset]; rfl) enrolled
  staged := fun i l h => by rw [State.rotor_reset] at h; cases h
  offered := fun p _ h => absurd h.symm (Option.some_ne_none p)

/-- No dispatch has been made (R33). -/
theorem latestInv_reset : LatestInv State.reset := fun d h => absurd h.symm (Option.some_ne_none d)

/-- Settles O50, an invariant at a time. -/
theorem resetMeetsInvariants : Obligations.ResetMeetsInvariants :=
  ⟨modeInv_reset, roadInv_reset, tableInv_reset, orderInv_reset, noticeInv_reset, linkInv_reset, latestInv_reset,
    roundInv_reset, measInv_reset, settingsInv_reset⟩

end Sys2Proof.Machine
end

section
/-! What an arrival can do to the Event Monitor and the Dispatch Engine (chapters 02 and 03). First one inversion of the
EVT's handling of a sample, and what a sample's whole passage leaves of both blocks; then one inversion of exec: a command
leaves both as they are, or it is a sample, a transition of the stop line, a reset, or one of the five requests that set
them. -/

namespace Sys2Proof.Machine

/-! ## The open record (R44) -/

@[simp] theorem updateOpen_nil (f : EventRecord → EventRecord) : updateOpen f [] = [] := rfl

@[simp] theorem updateOpen_concat (f : EventRecord → EventRecord) (older : List EventRecord) (r : EventRecord) :
    updateOpen f (older ++ [r]) = older ++ [if r.ended.isNone then f r else r] := mapLast_append _ older r

theorem updateOpen_id (history : List EventRecord) : updateOpen id history = history := by
  induction history using List.reverseRecOn with
  | nil => rfl
  | append_singleton older r => simp

/-- A second change finds the record open that the first has left open. -/
theorem updateOpen_updateOpen {f : EventRecord → EventRecord} (keeps : ∀ r, (f r).ended = r.ended)
    (g : EventRecord → EventRecord) (history : List EventRecord) :
    updateOpen g (updateOpen f history) = updateOpen (g ∘ f) history := by
  induction history using List.reverseRecOn with
  | nil => rfl
  | append_singleton older r =>
    by_cases isOpen : r.ended.isNone = true <;> simp [isOpen, keeps r]

/-! ## A sample at the EVT (R38 to R51) -/

/-- From e to f the EVT has followed a sample within one mode: the region memory and the recovery timer may have changed,
and the open record without being closed. -/
def Follows (e f : Evt) : Prop :=
  ∃ memory recovery change, (∀ r : EventRecord, (change r).ended = r.ended) ∧
    f = { e with memory := memory, recovery := recovery, history := updateOpen change e.history }

theorem Follows.remember (e : Evt) (memory : Option Regions) : Follows e { e with memory := memory } :=
  ⟨memory, e.recovery, id, fun _ => rfl, by rw [updateOpen_id]⟩

/-- A retrigger, and then nadir and zenith (R45, R46). -/
theorem Follows.retrigger (e : Evt) (memory : Option Regions) (df : Int) :
    Follows e ({ e with memory := memory }.retrigger.follow df) := by
  refine ⟨memory, none, _, ?_, congrArg (fun history => { e with memory := memory, recovery := none, history := history })
    (updateOpen_updateOpen ?_ _ e.history)⟩ <;> exact fun _ => rfl

/-- Nadir and zenith, and then the recovery test (R46, R48). -/
theorem Follows.recoveryTest (e : Evt) (memory : Option Regions) (t : Tick) (df : Int) :
    Follows e (({ e with memory := memory }.follow df).recoveryTest t df) :=
  ⟨memory, _, fun r => { r with nadir := min r.nadir df, zenith := max r.zenith df }, fun _ => rfl, rfl⟩

/-- What the EVT's handling of a sample leaves of s (R38, R42). -/
inductive Monitored (s : State) : State → Prop where
  /-- The mode stays. A running recovery timer is left in EVENT alone. -/
  | followed {e : Evt} (follows : Follows s.evt e) (calm : s.evt.mode ≠ .event → e.recovery = s.evt.recovery) :
      Monitored s (s.withEvt e)
  /-- An event opens (R43, R44). -/
  | opened {memory : Option Regions} {entry : HostMode} {t : Tick} {df rocof : Int} {cause : Triggers}
      (mode : s.evt.mode = modeOfHost entry) :
      Monitored s ((s.withEvt { s.evt with memory := memory }).openEvent entry t df rocof cause)
  /-- The open event ends with the cause RECOVERED or LOST (R49, R50). -/
  | ended {e : Evt} {cause : EventEnd} {plant : Nat} (follows : Follows s.evt e) (mode : s.evt.mode = .event)
      (cause_ne : cause ≠ .stop) : Monitored s ((s.withEvt e).endEvent cause plant)

theorem State.duringEvent_monitored {s : State} (memory : Option Regions) (t : Tick) (df : Int) (triggered : Bool)
    (mode : s.evt.mode = .event) :
    Monitored s ((s.withEvt { s.evt with memory := memory }).duringEvent t df triggered) := by
  simp only [State.duringEvent]
  split
  · exact .followed (.retrigger s.evt memory df) (absurd mode)
  · split
    · exact .ended (.recoveryTest s.evt memory t df) mode nofun
    · exact .followed (.recoveryTest s.evt memory t df) (absurd mode)

theorem State.monitor_monitored (s : State) (sm : Sample) : Monitored s (s.monitor sm) := by
  have remembered (memory : Option Regions) : Monitored s (s.withEvt { s.evt with memory := memory }) :=
    .followed (.remember s.evt memory) fun _ => rfl
  unfold State.monitor
  split
  · simp only [State.evtLost]
    split
    case h_4 mode => exact .ended (.remember s.evt none) mode nofun
    all_goals exact remembered none
  · exact remembered s.evt.memory
  · simp only [State.evtValid]
    split
    · exact remembered _
    · next mode =>
      split
      · exact .opened (entry := .guard) mode
      · exact remembered _
    · next mode =>
      split
      · exact .opened (entry := .armed) mode
      · exact remembered _
    · next mode => exact State.duringEvent_monitored _ _ _ _ mode
    · exact remembered _

/-! ## What a sample's passage leaves of the EVT and the DSE (R78, R92) -/

/-- The state in which a sample that comes to s has been measured and monitored, and the dispatch begins. -/
def State.monitored (s : State) (t : Tick) (valid : Bool) : State :=
  (s.measure t valid).1.monitor (s.measure t valid).2

@[simp] theorem State.measure_evt (s : State) (t : Tick) (valid : Bool) : (s.measure t valid).1.evt = s.evt := by
  simp [State.measure]
@[simp] theorem State.measure_dse (s : State) (t : Tick) (valid : Bool) : (s.measure t valid).1.dse = s.dse := by
  simp [State.measure]

/-- The dispatch leaves the EVT but for the open record, into which its result is counted (R47). -/
theorem State.passage_evt (s : State) (t : Tick) (valid : Bool) :
    let d := s.dispatched t valid
    (s.passage t valid).evt =
      { (s.monitored t valid).evt with
        history := updateOpen (EventRecord.addResult (d.signedServed + d.signedOrderServed) d.fUnserved d.dt)
          (s.monitored t valid).evt.history } := by
  simp [State.passage, State.dispatch, State.consume, State.countEvent, State.monitored, State.dispatched]

/-- The dispatch writes nothing of the DSE but its latest record (R90). -/
theorem State.passage_dse (s : State) (t : Tick) (valid : Bool) :
    (s.passage t valid).dse = { (s.monitored t valid).dse with latest := some (s.dispatched t valid) } := by
  simp [State.passage, State.dispatch, State.consume, State.monitored, State.dispatched, State.computeDispatch]

@[simp] theorem State.endEvent_dse (s : State) (cause : EventEnd) (plant : Nat) :
    (s.endEvent cause plant).dse = s.dse.activatePending := by
  simp [State.endEvent]

/-- After an event no curve is held back (R29). -/
@[simp] theorem Dse.activatePending_pendingCurve (d : Dse) : d.activatePending.pendingCurve = none := by
  unfold Dse.activatePending
  split
  · next absent => exact absent
  · rfl

/-! ## What a command can do to the EVT and the DSE -/

/-- From s to t the EVT and the DSE are unchanged. -/
structure ControlFrame (s t : State) : Prop where
  evt : t.evt = s.evt
  dse : t.dse = s.dse

namespace ControlFrame

theorem refl (s : State) : ControlFrame s s := ⟨rfl, rfl⟩

theorem trans {s t u : State} (h : ControlFrame s t) (k : ControlFrame t u) : ControlFrame s u :=
  ⟨k.evt.trans h.evt, k.dse.trans h.dse⟩

theorem of_bankFrame {s t : State} (h : BankFrame s t) : ControlFrame s t := ⟨h.evt, h.dse⟩

/-- A choice between two answers leaves them unchanged when both answers do. -/
theorem answer_ite {c : Prop} [Decidable c] {s : State} {a b : Answer} (ha : ControlFrame s a.state)
    (hb : ControlFrame s b.state) : ControlFrame s (if c then a else b).state := by
  split
  · exact ha
  · exact hb

end ControlFrame

theorem State.reviseOrders_controlFrame (s : State) (f : Order → Order) : ControlFrame s (s.reviseOrders f) :=
  ⟨by simp, by simp⟩

/-! ### The owners of the requests that set neither -/

theorem ownSetNotices_controlFrame (s : State) (p : List Byte) : ControlFrame s (ownSetNotices s p).state := by
  unfold ownSetNotices
  split <;> exact ⟨rfl, rfl⟩

theorem ownRestart_controlFrame (s : State) (p : List Byte) : ControlFrame s (ownRestart s p).state :=
  .answer_ite (.refl s) (.answer_ite (.refl s) ⟨rfl, rfl⟩)

theorem ownSnapshotPart0_controlFrame (s : State) (p : List Byte) : ControlFrame s (ownSnapshotPart0 s p).state :=
  .answer_ite ⟨rfl, rfl⟩ (.refl s)

theorem ownSnapshotPart1_controlFrame (s : State) (p : List Byte) : ControlFrame s (ownSnapshotPart1 s p).state := by
  unfold ownSnapshotPart1
  split <;> exact ⟨rfl, rfl⟩

theorem ownEnrol_controlFrame (s : State) (p : List Byte) : ControlFrame s (ownEnrol s p).state := by
  have enrolled (i : Slot) (r : RotorRecord) : ControlFrame s (s.enrol i r) := by
    constructor <;> simp [State.enrol]
  unfold ownEnrol
  split
  · exact .refl s
  · refine .answer_ite (.refl s) (.answer_ite (.refl s) ?_)
    split
    · exact .answer_ite (.refl s) (enrolled _ _)
    · exact .refl s

theorem ownRelease_controlFrame (s : State) (p : List Byte) : ControlFrame s (ownRelease s p).state := by
  have released (i : Slot) : ControlFrame s (s.releaseSlot i) := by constructor <;> simp [State.releaseSlot]
  unfold ownRelease
  split
  · exact .refl s
  · exact .answer_ite (released _) (.refl s)

theorem ownSpinUp_controlFrame (s : State) (p : List Byte) : ControlFrame s (ownSpinUp s p).state := by
  have lifted (i : Slot) : ControlFrame s (s.startLift i) := by constructor <;> simp [State.startLift]
  unfold ownSpinUp
  split
  · exact .refl s
  · exact .answer_ite (.refl s) (.answer_ite (.refl s) (lifted _))

theorem ownPark_controlFrame (s : State) (p : List Byte) : ControlFrame s (ownPark s p).state := by
  have braked (i : Slot) : ControlFrame s (s.brake i .host) := .of_bankFrame (s.brake_bankFrame i .host)
  unfold ownPark
  split
  · exact .refl s
  · split
    case h_4 => exact .answer_ite (.of_bankFrame (s.settle_bankFrame _ _)) (braked _)
    case h_9 => exact .answer_ite (.refl s) (braked _)
    case h_5 | h_6 | h_7 | h_8 => exact braked _
    all_goals exact .refl s

theorem ownResetFault_controlFrame (s : State) (p : List Byte) : ControlFrame s (ownResetFault s p).state := by
  unfold ownResetFault
  split
  · exact .refl s
  · exact .answer_ite (.of_bankFrame ((s.setRotor_bankFrame _ _).trans (State.settle_bankFrame _ _ _))) (.refl s)

theorem ownSetRotorLimits_controlFrame (s : State) (p : List Byte) : ControlFrame s (ownSetRotorLimits s p).state := by
  unfold ownSetRotorLimits
  split
  · exact .refl s
  · exact .answer_ite (.refl s) ⟨rfl, rfl⟩

theorem ownSetRotorRole_controlFrame (s : State) (p : List Byte) : ControlFrame s (ownSetRotorRole s p).state := by
  unfold ownSetRotorRole
  split
  · exact .refl s
  · refine .answer_ite (.refl s) ?_
    split <;> exact ⟨rfl, rfl⟩

theorem ownRotorStatus_controlFrame (s : State) (p : List Byte) : ControlFrame s (ownRotorStatus s p).state := by
  unfold ownRotorStatus
  split
  · exact .refl s
  · exact .answer_ite (.refl s) (.refl s)

theorem ownPlaceOrder_controlFrame (s : State) (p : List Byte) : ControlFrame s (ownPlaceOrder s p).state := by
  unfold ownPlaceOrder
  split
  · exact .refl s
  · exact .answer_ite (.refl s) <| .answer_ite (.refl s) <| .answer_ite (.refl s) <| .answer_ite (.refl s) <|
      .answer_ite (.refl s) ⟨rfl, rfl⟩

theorem ownCancelOrder_controlFrame (s : State) (p : List Byte) : ControlFrame s (ownCancelOrder s p).state := by
  refine .answer_ite (.refl s) ?_
  split
  · exact .refl s
  · exact .answer_ite (.refl s) (s.reviseOrders_controlFrame _)

theorem ownResumeOrder_controlFrame (s : State) (p : List Byte) : ControlFrame s (ownResumeOrder s p).state := by
  refine .answer_ite (.refl s) ?_
  split
  · exact .refl s
  · split
    case h_1 => exact s.reviseOrders_controlFrame _
    all_goals exact .refl s

theorem ownOrderStatus_controlFrame (s : State) (p : List Byte) : ControlFrame s (ownOrderStatus s p).state := by
  refine .answer_ite (.refl s) ?_
  split <;> exact .refl s

theorem afterOrderStatus_controlFrame (s : State) (p : List Byte) : ControlFrame s (afterOrderStatus s p) := by
  have retired (id : Nat) : ControlFrame s (s.retireOrder id) := by
    simp only [State.retireOrder]
    split <;> exact ⟨rfl, rfl⟩
  unfold afterOrderStatus
  split
  · exact .refl s
  · split
    · exact retired _
    · exact .refl s

/-! ### Every command -/

/-- What a command can do to the EVT and the DSE of s. -/
inductive ControlChange (s : State) : State → Prop where
  | kept {t : State} (frame : ControlFrame s t) : ControlChange s t
  | sample {u : State} (frame : ControlFrame s u) (t : Tick) (valid : Bool) : ControlChange s (u.passage t valid)
  | stopAsserted {u : State} (frame : ControlFrame s u) : ControlChange s u.assertStop
  | stopReleased {u : State} (frame : ControlFrame s u) (level : s.evt.stopLevel = .asserted) :
      ControlChange s u.releaseStop
  | reset (u : State) (cause : ResetCause) (t : Tick) (line : StopLevel) : ControlChange s (u.takeReset cause t line)
  | setMode {t : State} (p : List Byte) (frame : ControlFrame (ownSetMode s p).state t) : ControlChange s t
  | setMeasurement {t : State} (p : List Byte) (frame : ControlFrame (ownSetMeasurement s p).state t) :
      ControlChange s t
  | setEvent {t : State} (p : List Byte) (frame : ControlFrame (ownSetEvent s p).state t) : ControlChange s t
  | setBankLimits {t : State} (p : List Byte) (frame : ControlFrame (ownSetBankLimits s p).state t) :
      ControlChange s t
  | setCurve {t : State} (p : List Byte) (frame : ControlFrame (ownSetCurve s p).state t) : ControlChange s t

namespace ControlChange

section
variable {c : Instr} {s t : State} {f : State → State} {k : RequestKind} {suits : List Byte → Bool}
  {owner : State → List Byte → Answer} {after_ : State → List Byte → State}

/-- A command that is taken while the supply is up and by a part held in reset is not (R184). -/
theorem taking (meaning : exec c s = s.taking f) (he : exec c s = .next t) (change : ControlChange s (f s)) :
    ControlChange s t := by
  rw [meaning] at he
  cases up : s.supply with
  | up => rw [State.taking_up up] at he; cases he; exact change
  | down => rw [State.taking_down up] at he; cases he; exact .kept (.refl s)

theorem framed (meaning : exec c s = s.taking f) (he : exec c s = .next t) (frame : BankFrame s (f s)) :
    ControlChange s t :=
  taking meaning he (.kept (.of_bankFrame frame))

/-- A request changes what its owner changes, if what follows the reply changes nothing. -/
theorem request (meaning : exec c s = s.taking fun s => s.takeRequest k suits owner after_) (he : exec c s = .next t)
    (followed : ∀ s p, ControlFrame s (after_ s p))
    (owned : ∀ p t, ControlFrame (owner s p).state t → ControlChange s t) : ControlChange s t := by
  refine taking meaning he ?_
  obtain same | ⟨r, -, -, -, -, answered⟩ := s.takeRequest_cases k suits owner after_
  · rw [same]; exact .kept (.refl s)
  · rw [answered]
    exact owned r.payload _ ((ControlFrame.of_bankFrame (State.formReply_bankFrame _ _ _ _)).trans (followed _ _))

/-- A request of which the owner changes neither block. -/
theorem keptRequest (meaning : exec c s = s.taking fun s => s.takeRequest k suits owner nothingAfter)
    (he : exec c s = .next t) (owned : ∀ p, ControlFrame s (owner s p).state) : ControlChange s t :=
  request meaning he (fun s _ => .refl s) fun p _ frame => .kept ((owned p).trans frame)

end

end ControlChange

/-- An edge is a first edge, or it brings a sample (R2, R6). -/
theorem State.edge_controlChange (s : State) (dt : Nat) : ControlChange s (s.advance dt).edge := by
  have recorded (u : Fmu) : ControlFrame s ((s.advance dt).withFmu u) := ⟨rfl, rfl⟩
  cases last : (s.advance dt).fmu.lastEdge with
  | none => rw [State.edge_first last]; exact .kept (recorded _)
  | some last' => rw [State.edge_next last]; exact .sample (recorded _) _ _

/-- The expiry of the missing-edge timer brings a sample (R5, R6). -/
theorem State.missingEdge_controlChange (s : State) : ControlChange s s.missingEdge :=
  have recorded (u : Fmu) : ControlFrame s ((s.advanceTo s.fmu.expiry).withFmu u) :=
    ⟨State.advanceTo_evt _ _, State.advanceTo_dse _ _⟩
  .sample (recorded _) s.fmu.expiry false

/-- A new level of the stop line arrives only where it differs from the level taken last (R201). -/
theorem State.stopLevel_of_stopArrives {s : State} {steady : Nat} (h : s.stopArrives .released steady = true) :
    s.evt.stopLevel = .asserted := by
  simp only [State.stopArrives, Bool.and_eq_true, bne_iff_ne] at h
  cases level : s.evt.stopLevel with
  | asserted => rfl
  | released => exact absurd level h.2

/-- What any command can do to the EVT and the DSE. -/
theorem exec_controlChange (c : Instr) {s t : State} (he : exec c s = .next t) : ControlChange s t := by
  have advanced (dt : Nat) : BankFrame s (s.advance dt) := s.advance_bankFrame dt
  cases c with
  | zeroCrossingEdge dt => exact .taking (exec_zeroCrossingEdge dt s) he (s.edge_controlChange dt)
  | missingEdgeTimeout => exact .taking (exec_missingEdgeTimeout s) he s.missingEdge_controlChange
  | stopAssertion dt steady =>
    refine .taking (exec_stopAssertion dt steady s) he ?_
    split
    · exact .stopAsserted ⟨rfl, rfl⟩
    · exact .kept ⟨rfl, rfl⟩
  | stopRelease dt steady =>
    refine .taking (exec_stopRelease dt steady s) he ?_
    split
    · next arrives => exact .stopReleased ⟨rfl, rfl⟩ (State.stopLevel_of_stopArrives arrives)
    · exact .kept ⟨rfl, rfl⟩
  | powerOn line => cases he; exact .reset s _ _ line
  | supplyDip line => cases he; exact .reset s _ _ line
  | frameCompleted => exact .framed (exec_frameCompleted s) he s.completeFrame_bankFrame
  | gapTimerExpiry => exact .framed (exec_gapTimerExpiry s) he s.gapExpires_bankFrame
  | replySend => exact .framed (exec_replySend s) he s.beginReply_bankFrame
  | requestSlotRelease dt line =>
    refine .taking (exec_requestSlotRelease dt line s) he ?_
    obtain frame | reset := (s.advance dt).endReply_cases line
    · exact .kept (.of_bankFrame ((advanced dt).trans frame))
    · rw [reset]; exact .reset _ _ _ line
  | start => exact .framed (exec_start s) he (s.beginNotice_bankFrame _)
  | eventChange => exact .framed (exec_eventChange s) he (s.beginNotice_bankFrame _)
  | rotorChange => exact .framed (exec_rotorChange s) he (s.beginNotice_bankFrame _)
  | orderChange => exact .framed (exec_orderChange s) he (s.beginNotice_bankFrame _)
  | measurementChange => exact .framed (exec_measurementChange s) he (s.beginNotice_bankFrame _)
  | haltChange => exact .framed (exec_haltChange s) he (s.beginNotice_bankFrame _)
  | identify => exact .keptRequest (exec_identify s) he fun _ => .refl s
  | status => exact .keptRequest (exec_status s) he fun _ => .refl s
  | clearSummary => exact .keptRequest (exec_clearSummary s) he fun _ => ⟨rfl, rfl⟩
  | setClock => exact .keptRequest (exec_setClock s) he fun _ => ⟨rfl, rfl⟩
  | setMode => exact .request (exec_setMode s) he (fun s _ => .refl s) fun p _ => .setMode p
  | setMeasurement => exact .request (exec_setMeasurement s) he (fun s _ => .refl s) fun p _ => .setMeasurement p
  | setEvent => exact .request (exec_setEvent s) he (fun s _ => .refl s) fun p _ => .setEvent p
  | setBankLimits => exact .request (exec_setBankLimits s) he (fun s _ => .refl s) fun p _ => .setBankLimits p
  | setCurve => exact .request (exec_setCurve s) he (fun s _ => .refl s) fun p _ => .setCurve p
  | readCurve => exact .keptRequest (exec_readCurve s) he fun _ => .refl s
  | readEvents => exact .keptRequest (exec_readEvents s) he fun _ => .refl s
  | setNotices => exact .keptRequest (exec_setNotices s) he (ownSetNotices_controlFrame s)
  | restart => exact .keptRequest (exec_restart s) he (ownRestart_controlFrame s)
  | snapshotPart0 => exact .keptRequest (exec_snapshotPart0 s) he (ownSnapshotPart0_controlFrame s)
  | snapshotPart1 => exact .keptRequest (exec_snapshotPart1 s) he (ownSnapshotPart1_controlFrame s)
  | enrol => exact .keptRequest (exec_enrol s) he (ownEnrol_controlFrame s)
  | release => exact .keptRequest (exec_release s) he (ownRelease_controlFrame s)
  | spinUp => exact .keptRequest (exec_spinUp s) he (ownSpinUp_controlFrame s)
  | park => exact .keptRequest (exec_park s) he (ownPark_controlFrame s)
  | resetFault => exact .keptRequest (exec_resetFault s) he (ownResetFault_controlFrame s)
  | setRotorLimits => exact .keptRequest (exec_setRotorLimits s) he (ownSetRotorLimits_controlFrame s)
  | setRotorRole => exact .keptRequest (exec_setRotorRole s) he (ownSetRotorRole_controlFrame s)
  | rotorStatus =>
    exact .request (exec_rotorStatus s) he (fun s p => .of_bankFrame (afterRotorStatus_bankFrame s p)) fun p _ frame =>
      .kept ((ownRotorStatus_controlFrame s p).trans frame)
  | placeOrder => exact .keptRequest (exec_placeOrder s) he (ownPlaceOrder_controlFrame s)
  | cancelOrder => exact .keptRequest (exec_cancelOrder s) he (ownCancelOrder_controlFrame s)
  | resumeOrder => exact .keptRequest (exec_resumeOrder s) he (ownResumeOrder_controlFrame s)
  | orderStatus =>
    exact .request (exec_orderStatus s) he afterOrderStatus_controlFrame fun p _ frame =>
      .kept ((ownOrderStatus_controlFrame s p).trans frame)
  | listOrders => exact .keptRequest (exec_listOrders s) he fun _ => .refl s
  | poll dt => exact .framed (exec_poll dt s) he ((advanced dt).trans (State.pollNext_bankFrame _))
  | moduleReply dt bytes =>
    exact .framed (exec_moduleReply dt bytes s) he ((advanced dt).trans (State.busBytes_bankFrame _ bytes))
  | replyWindowClose => exact .framed (exec_replyWindowClose s) he s.windowCloses_bankFrame
  | liftTimerExpiry i =>
    exact .framed (exec_liftTimerExpiry i s) he (s.timerExpires_bankFrame i _ fun s => s.trip_bankFrame i _)
  | spinupTimerExpiry i =>
    exact .framed (exec_spinupTimerExpiry i s) he (s.timerExpires_bankFrame i _ fun s => s.brake_bankFrame i _)
  | syncTimerExpiry i =>
    exact .framed (exec_syncTimerExpiry i s) he (s.timerExpires_bankFrame i _ fun s => s.syncFails_bankFrame i)
  | linkByteReceived dt byte broken =>
    exact .framed (exec_linkByteReceived dt byte broken s) he
      ((advanced dt).trans (State.takeByte_bankFrame _ byte broken))
  | noticeFrameEnd dt =>
    exact .framed (exec_noticeFrameEnd dt s) he ((advanced dt).trans (State.endNotice_bankFrame _))
  | supplyFall dt => exact .taking (exec_supplyFall dt s) he (.kept ⟨rfl, rfl⟩)

/-- An invariant of the EVT and the DSE that every such change keeps is kept by every step: the idle step and the taking of
a command from the queue touch neither. -/
theorem step_keeps_of_controlChange {P : State → Prop} (congr : ∀ {s t}, ControlFrame s t → P s → P t)
    (change : ∀ {s t}, ControlChange s t → P s → P t) {s t : State} (h : P s) (stepped : step s = .next t) : P t := by
  cases waiting : s.pending with
  | nil => simp only [step, waiting] at stepped; cases stepped; exact h
  | cons c rest =>
    simp only [step, waiting] at stepped
    exact change (exec_controlChange c stepped) (congr (s := s) ⟨rfl, rfl⟩ h)

end Sys2Proof.Machine
end

section
/-! What the spec says always holds of the bank mode, the event history and the pending curve (`ModeInv`) is kept by every
step: first the history (R44), then each operation that sets the mode, then every change of the EVT and the DSE. This
settles O51. -/

namespace Sys2Proof.Machine

/-! ## The event history (R44) -/

/-- The clauses of ModeInv about the history: at most 4 records, the older ones closed, the newest open exactly while an
event runs (R44). -/
structure HistoryFits (history : List EventRecord) (running : Bool) : Prop where
  length : history.length ≤ 4
  closed : ∀ r ∈ history.dropLast, r.ended.isSome = true
  newest : newestOpen history = running

@[simp] theorem newestOpen_concat (older : List EventRecord) (r : EventRecord) :
    newestOpen (older ++ [r]) = r.ended.isNone := by
  simp [newestOpen]

namespace HistoryFits

variable {history : List EventRecord} {running : Bool}

theorem concat_iff {older : List EventRecord} {r : EventRecord} :
    HistoryFits (older ++ [r]) running ↔
      older.length ≤ 3 ∧ (∀ x ∈ older, x.ended.isSome = true) ∧ r.ended.isNone = running := by
  constructor
  · rintro ⟨length, closed, newest⟩
    exact ⟨by simpa [Nat.lt_succ_iff] using length, by simpa using closed, by simpa using newest⟩
  · rintro ⟨length, closed, newest⟩
    exact ⟨by simpa [Nat.lt_succ_iff] using length, by simpa using closed, by simpa using newest⟩

/-- A change that does not close the open record. -/
theorem update (h : HistoryFits history running) {change : EventRecord → EventRecord}
    (keeps : ∀ r, (change r).ended = r.ended) : HistoryFits (updateOpen change history) running := by
  induction history using List.reverseRecOn with
  | nil => exact h
  | append_singleton older r =>
    rw [concat_iff] at h
    rw [updateOpen_concat, concat_iff]
    obtain ⟨length, closed, newest⟩ := h
    refine ⟨length, closed, ?_⟩
    split
    · rw [keeps]; exact newest
    · exact newest

/-- The end of an event closes the open record (R51). -/
theorem close (h : HistoryFits history running) (time : Nat) (cause : EventEnd) :
    HistoryFits (updateOpen (fun r => { r with ended := some (time, cause) }) history) false := by
  induction history using List.reverseRecOn with
  | nil => exact ⟨h.length, h.closed, rfl⟩
  | append_singleton older r =>
    rw [concat_iff] at h
    rw [updateOpen_concat, concat_iff]
    obtain ⟨length, closed, -⟩ := h
    refine ⟨length, closed, ?_⟩
    split
    · rfl
    · next ended => simpa only [Bool.not_eq_true] using ended

/-- With no event running every record is closed. -/
theorem all_closed (h : HistoryFits history false) : ∀ r ∈ history, r.ended.isSome = true := by
  induction history using List.reverseRecOn with
  | nil => exact fun _ listed => absurd listed List.not_mem_nil
  | append_singleton older r =>
    obtain ⟨-, closed, newest⟩ := concat_iff.mp h
    intro x hx
    obtain old | rfl := List.mem_append.mp hx |>.imp_right List.mem_singleton.mp
    · exact closed x old
    · rwa [Option.isNone_eq_false_iff] at newest

/-- The opening of an event: an open record joins, and the oldest of five leaves (R44). -/
theorem open_ (h : HistoryFits history false) {r : EventRecord} (isOpen : r.ended = none) :
    HistoryFits (appendNewest 4 history r) true := by
  have newestKept : appendNewest 4 history r = history.drop (history.length - 3) ++ [r] := by
    rw [appendNewest, List.drop_append_of_le_length (by omega)]
    congr 2
  rw [newestKept, concat_iff]
  refine ⟨by simp only [List.length_drop]; omega, fun x hx => h.all_closed x (List.mem_of_mem_drop hx), ?_⟩
  rw [isOpen]
  rfl

end HistoryFits

/-! ## The invariant, by the fields that it is about -/

theorem ModeInv.history {s : State} (h : ModeInv s) : HistoryFits s.evt.history (s.evt.mode == .event) :=
  ⟨h.length, h.closed, h.newest⟩

/-- Outside EVENT nothing is left of an event: no saved mode, no running timer, no curve held back. -/
theorem ModeInv.outsideEvent {s : State} (h : ModeInv s) (mode : s.evt.mode ≠ .event) :
    s.evt.savedMode = none ∧ s.evt.recovery = none ∧ s.dse.pendingCurve = none ∧ HistoryFits s.evt.history false := by
  have running : (s.evt.mode == .event) = false := by simpa using mode
  refine ⟨?_, ?_, ?_, running ▸ h.history⟩
  · simpa [running] using h.saved
  · simpa using mt h.recovery mode
  · simpa using mt h.curve mode

/-- In a mode other than EVENT with nothing left of an event the invariant holds, if HALTED goes with the stop level. -/
theorem modeInv_outsideEvent {s : State} (mode : s.evt.mode ≠ .event) (saved : s.evt.savedMode = none)
    (recovery : s.evt.recovery = none) (curve : s.dse.pendingCurve = none) (history : HistoryFits s.evt.history false)
    (stop : (s.evt.stopLevel == .asserted) = (s.evt.mode == .halted)) : ModeInv s where
  saved := by simpa [saved] using mode
  stop := stop
  length := history.length
  closed := history.closed
  newest := by simpa [history.newest] using mode
  recovery := by simp [recovery]
  curve := by simp [curve]

theorem ControlFrame.modeInv {s t : State} (frame : ControlFrame s t) (h : ModeInv s) : ModeInv t := by
  obtain ⟨evt, dse⟩ := frame
  constructor <;> rw [evt]
  case curve => rw [dse]; exact h.curve
  exacts [h.saved, h.stop, h.length, h.closed, h.newest, h.recovery]

/-- What the DSE holds beside the pending curve is no part of it. -/
theorem ModeInv.withDse {s : State} (h : ModeInv s) {d : Dse}
    (pending : d.pendingCurve = s.dse.pendingCurve ∨ s.evt.mode = .event) : ModeInv (s.withDse d) := by
  refine ⟨h.saved, h.stop, h.length, h.closed, h.newest, h.recovery, fun present => ?_⟩
  obtain same | mode := pending
  · exact h.curve (same ▸ present)
  · exact mode

/-- Following a sample within its mode keeps the invariant, if the recovery timer does not start outside EVENT. -/
theorem ModeInv.follows {s : State} (h : ModeInv s) {e : Evt} (follows : Follows s.evt e)
    (calm : s.evt.mode ≠ .event → e.recovery = s.evt.recovery) : ModeInv (s.withEvt e) := by
  obtain ⟨memory, recovery, change, keeps, rfl⟩ := follows
  obtain ⟨length, closed, newest⟩ := h.history.update keeps
  refine ⟨h.saved, h.stop, length, closed, newest, fun runs => ?_, h.curve⟩
  by_contra mode
  exact mode (h.recovery (calm mode ▸ runs))

/-! ## Samples (R38, R43, R49, R50) -/

/-- The host chooses neither EVENT nor HALTED (R34). -/
theorem modeOfHost_ne (m : HostMode) : modeOfHost m ≠ .event ∧ modeOfHost m ≠ .halted := by
  cases m <;> exact ⟨nofun, nofun⟩

/-- An event ends in HALTED for the cause STOP, and in a mode of the host's choice for every other (R51). -/
theorem modeAfter_cases (e : Evt) (cause : EventEnd) :
    modeAfter e cause ≠ .event ∧ (modeAfter e cause = .halted ↔ cause = .stop) := by
  obtain ⟨notEvent, notHalted⟩ := modeOfHost_ne (e.savedMode.getD .idle)
  cases cause with
  | stop => exact ⟨nofun, iff_of_true rfl rfl⟩
  | recovered | lost => exact ⟨notEvent, iff_of_false notHalted nofun⟩

/-- An event opens in GUARD or ARMED (R43, R44). -/
theorem State.openEvent_modeInv {s : State} (h : ModeInv s) {memory : Option Regions} {entry : HostMode}
    (mode : s.evt.mode = modeOfHost entry) (t : Tick) (df rocof : Int) (cause : Triggers) :
    ModeInv ((s.withEvt { s.evt with memory := memory }).openEvent entry t df rocof cause) := by
  obtain ⟨notEvent, notHalted⟩ := mode ▸ modeOfHost_ne entry
  obtain ⟨-, -, -, history⟩ := h.outsideEvent notEvent
  obtain ⟨length, closed, newest⟩ := history.open_ (r := openRecord (nextEventNumber s.evt.eventNumber) cause entry
    (s.plantTimeAt t) df rocof) rfl
  constructor <;> rw [State.openEvent_evt]
  case stop => exact h.stop.trans (beq_eq_false_iff_ne.mpr notHalted)
  case recovery | curve => exact fun _ => rfl
  exacts [rfl, length, closed, newest]

/-- An event ends: nothing is left of it, and it leaves HALTED with the cause STOP alone (R51). -/
theorem State.endEvent_modeInv {s : State} {running : Bool} (history : HistoryFits s.evt.history running)
    {cause : EventEnd} (stop : s.evt.stopLevel = .asserted ↔ cause = .stop) (plant : Nat) :
    ModeInv (s.endEvent cause plant) := by
  obtain ⟨notEvent, halted⟩ := modeAfter_cases s.evt cause
  have level : (s.evt.stopLevel == .asserted) = (modeAfter s.evt cause == .halted) := by
    rw [Bool.eq_iff_iff, beq_iff_eq, beq_iff_eq]
    exact stop.trans halted.symm
  have curve : (s.endEvent cause plant).dse.pendingCurve = none := by simp
  apply modeInv_outsideEvent (curve := curve) <;> rw [State.endEvent_evt]
  exacts [notEvent, history.close plant cause, level]

theorem Monitored.modeInv {s t : State} (monitored : Monitored s t) (h : ModeInv s) : ModeInv t := by
  cases monitored with
  | followed follows calm => exact h.follows follows calm
  | opened mode => exact State.openEvent_modeInv h mode _ _ _ _
  | @ended e cause plant follows mode cause_ne =>
    obtain ⟨memory, recovery, change, keeps, he⟩ := follows
    have history : HistoryFits e.history (s.evt.mode == .event) := by rw [he]; exact h.history.update keeps
    have released : e.stopLevel ≠ .asserted := by
      have notHalted : (s.evt.stopLevel == .asserted) = false := by rw [h.stop, mode]; rfl
      simpa [he] using notHalted
    exact State.endEvent_modeInv (s := s.withEvt e) history (iff_of_false released cause_ne) plant

/-- A sample's passage: the EVT's handling of it, then the dispatch, which closes no record (R47, R92). -/
theorem State.passage_modeInv {s : State} (h : ModeInv s) (t : Tick) (valid : Bool) : ModeInv (s.passage t valid) := by
  have measured : ModeInv (s.measure t valid).1 :=
    ControlFrame.modeInv ⟨s.measure_evt t valid, s.measure_dse t valid⟩ h
  have monitored : ModeInv (s.monitored t valid) := (State.monitor_monitored _ _).modeInv measured
  have counted : Follows (s.monitored t valid).evt (s.passage t valid).evt :=
    ⟨_, _, EventRecord.addResult _ _ _, fun _ => rfl, s.passage_evt t valid⟩
  have pending : (s.passage t valid).dse.pendingCurve = (s.monitored t valid).dse.pendingCurve := by
    rw [State.passage_dse]
  have followed := monitored.follows counted fun _ => by rw [State.passage_evt]
  have recorded := followed.withDse (.inl pending)
  exact ControlFrame.modeInv (t := s.passage t valid) ⟨by simp, by simp⟩ recorded

/-! ## The stop line, resets and requests (R27, R35, R52, R53, R57) -/

theorem State.assertStop_modeInv {s : State} (h : ModeInv s) : ModeInv s.assertStop := by
  have after_ {u : State} (hu : ModeInv u) (now : Nat) :
      ModeInv (((u.addNotice .halt).tripAll).cancelAll now) :=
    ((ControlFrame.of_bankFrame ((u.addNotice_bankFrame .halt).trans (State.tripAll_bankFrame _))).trans
      (State.reviseOrders_controlFrame _ _)).modeInv hu
  have halted {e : Evt} (mode : s.evt.mode ≠ .event)
      (he : e = { s.evt with mode := .halted, stopLevel := .asserted }) : ModeInv (s.withEvt e) := by
    obtain ⟨saved, recovery, curve, history⟩ := h.outsideEvent mode
    subst he
    exact modeInv_outsideEvent nofun saved recovery curve history rfl
  refine after_ ?_ _
  split
  case h_1 => exact State.endEvent_modeInv (s := s.withEvt { s.evt with stopLevel := .asserted }) h.history (by simp) _
  case h_5 mode => exact halted (by simp [mode]) (by rw [← mode])
  all_goals next mode => exact halted (by simp [mode]) rfl

theorem State.releaseStop_modeInv {s : State} (h : ModeInv s) (level : s.evt.stopLevel = .asserted) :
    ModeInv s.releaseStop := by
  have halted : s.evt.mode = .halted := by simpa [level] using h.stop
  obtain ⟨saved, recovery, curve, history⟩ := h.outsideEvent (by simp [halted])
  refine ControlFrame.modeInv (s := s.withEvt { s.evt with stopLevel := .released, mode := .idle })
    (.of_bankFrame (State.addNotice_bankFrame _ .halt)) ?_
  exact modeInv_outsideEvent nofun saved recovery curve history rfl

theorem State.takeReset_modeInv (s : State) (cause : ResetCause) (t : Tick) (line : StopLevel) :
    ModeInv (s.takeReset cause t line) := by
  rw [State.takeReset_eq]
  have noRecord : HistoryFits [] false := ⟨Nat.zero_le _, fun _ listed => absurd listed List.not_mem_nil, rfl⟩
  cases line <;> exact modeInv_outsideEvent nofun rfl rfl rfl noRecord rfl

/-- SET MODE sets one of the three modes the host chooses among, or in EVENT the saved mode (R35). -/
theorem ownSetMode_modeInv {s : State} (h : ModeInv s) (p : List Byte) : ModeInv (ownSetMode s p).state := by
  have chosen (m : HostMode) (notEvent : s.evt.mode ≠ .event) (notHalted : s.evt.mode ≠ .halted) :
      ModeInv (s.withEvt { s.evt with mode := modeOfHost m }) := by
    obtain ⟨saved, recovery, curve, history⟩ := h.outsideEvent notEvent
    obtain ⟨chosenNotEvent, chosenNotHalted⟩ := modeOfHost_ne m
    exact modeInv_outsideEvent chosenNotEvent saved recovery curve history <|
      (h.stop.trans (beq_eq_false_iff_ne.mpr notHalted)).trans (beq_eq_false_iff_ne.mpr chosenNotHalted).symm
  unfold ownSetMode
  split
  · exact h
  · next m _ =>
    split
    case h_4 mode => exact ⟨(beq_iff_eq.mpr mode).symm, h.stop, h.length, h.closed, h.newest, h.recovery, h.curve⟩
    case h_5 => exact h
    all_goals next mode => exact chosen m (by simp [mode]) (by simp [mode])

theorem ownSetMeasurement_modeInv {s : State} (h : ModeInv s) (p : List Byte) :
    ModeInv (ownSetMeasurement s p).state := by
  have forgotten : ModeInv (s.withEvt { s.evt with memory := none }) := h.follows (.remember s.evt none) fun _ => rfl
  unfold ownSetMeasurement
  split
  · exact h
  · split
    · exact h
    · refine ControlFrame.modeInv (s := s.withEvt { s.evt with memory := none }) ⟨?_, ?_⟩ forgotten
      · exact State.addNoticeIf_evt _ _ _
      · exact State.addNoticeIf_dse _ _ _

theorem ownSetEvent_modeInv {s : State} (h : ModeInv s) (p : List Byte) : ModeInv (ownSetEvent s p).state := by
  unfold ownSetEvent
  split
  · exact h
  · exact ⟨h.saved, h.stop, h.length, h.closed, h.newest, h.recovery, h.curve⟩

theorem ownSetBankLimits_modeInv {s : State} (h : ModeInv s) (p : List Byte) :
    ModeInv (ownSetBankLimits s p).state := by
  simp only [ownSetBankLimits]
  split
  · exact h
  · exact h.withDse (.inl rfl)

/-- SET CURVE holds a curve back in EVENT alone (R27). -/
theorem ownSetCurve_modeInv {s : State} (h : ModeInv s) (p : List Byte) : ModeInv (ownSetCurve s p).state := by
  simp only [ownSetCurve]
  split
  · exact h
  · split
    · exact h
    · refine h.withDse ?_
      simp only [Dse.takeCurve]
      split
      case h_1 mode => exact .inr mode
      all_goals exact .inl rfl

/-! ## Every step -/

theorem ControlChange.modeInv {s t : State} (change : ControlChange s t) (h : ModeInv s) : ModeInv t := by
  cases change with
  | kept frame => exact frame.modeInv h
  | sample frame t valid => exact State.passage_modeInv (frame.modeInv h) t valid
  | stopAsserted frame => exact State.assertStop_modeInv (frame.modeInv h)
  | stopReleased frame level => exact State.releaseStop_modeInv (frame.modeInv h) (frame.evt ▸ level)
  | reset u cause t line => exact u.takeReset_modeInv cause t line
  | setMode p frame => exact frame.modeInv (ownSetMode_modeInv h p)
  | setMeasurement p frame => exact frame.modeInv (ownSetMeasurement_modeInv h p)
  | setEvent p frame => exact frame.modeInv (ownSetEvent_modeInv h p)
  | setBankLimits p frame => exact frame.modeInv (ownSetBankLimits_modeInv h p)
  | setCurve p frame => exact frame.modeInv (ownSetCurve_modeInv h p)

/-- Settles O51, by what a command can do to the EVT and the DSE. -/
theorem stepKeepsModeInv : Obligations.StepKeepsModeInv := fun _ _ h stepped =>
  step_keeps_of_controlChange ControlFrame.modeInv ControlChange.modeInv h stepped

end Sys2Proof.Machine
end

section
/-! The values the host sets for the bank (R19, R21, R28, R31, R55) stay in their ranges: whatever changes the EVT and the
DSE keeps them, and the requests that set them clamp them. -/

namespace Sys2Proof.Machine

/-- The clauses of SettingsInv about the EVT (R55). -/
structure EvtFits (e : Evt) : Prop where
  thresholds : 20 ≤ e.uThreshold ∧ e.uThreshold ≤ 3000 ∧ 20 ≤ e.oThreshold ∧ e.oThreshold ≤ 3000 ∧
    e.rocofThreshold ≤ 5000
  recovery : 10 ≤ e.band ∧ e.band ≤ 1000 ∧ e.hold ≤ 60000

/-- The clauses of SettingsInv about the DSE (R19, R21, R28, R31). -/
structure DseFits (d : Dse) : Prop where
  curve : curveFits d.curve
  pendingCurve : ∀ c, d.pendingCurve = some c → curveFits c
  gain : d.kIn ≤ 4000
  bank : d.pdBank ≤ 8000 ∧ d.paBank ≤ 8000
  bounds : d.floor < d.ceiling ∧ d.ceiling ≤ 1000
  spinUp : 60 ≤ d.spinUpLimit ∧ d.spinUpLimit ≤ 3600

/-- Both blocks' values are in their ranges. -/
def ControlFits (s : State) : Prop := EvtFits s.evt ∧ DseFits s.dse

theorem controlFits_reset : EvtFits Evt.reset ∧ DseFits Dse.reset :=
  ⟨⟨settingsInv_reset.thresholds, settingsInv_reset.recovery⟩, settingsInv_reset.curve, settingsInv_reset.pendingCurve,
    settingsInv_reset.gain, settingsInv_reset.bank, settingsInv_reset.bounds, settingsInv_reset.spinUp⟩

theorem ControlFrame.controlFits {s t : State} (frame : ControlFrame s t) (h : ControlFits s) : ControlFits t := by
  obtain ⟨evt, dse⟩ := frame
  rwa [ControlFits, evt, dse]

/-! ## Response curves (R19, R26) -/

theorem strictlyAscending_iff_isChain (c : List Breakpoint) :
    strictlyAscending c = true ↔ (c.map fun b => b.df).IsChain (· < ·) := by
  induction c with
  | nil => simp [strictlyAscending]
  | cons b rest ih =>
    cases rest with
    | nil => simp [strictlyAscending]
    | cons x rest => simpa [strictlyAscending] using fun _ => ih

/-- Each df below the next is each df below all that follow. -/
theorem strictlyAscending_iff (c : List Breakpoint) :
    strictlyAscending c = true ↔ (c.map fun b => b.df).Pairwise (· < ·) :=
  (strictlyAscending_iff_isChain c).trans List.isChain_iff_pairwise

theorem breakpointFits_clamp (b : Breakpoint) : breakpointFits b.clamp :=
  ⟨clampInt_lower, clampInt_upper (by decide), clampInt_lower, clampInt_upper (by decide)⟩

/-- The curve of an accepted SET CURVE is one of R19. -/
theorem curveFits_sentCurve {p : List Byte} (agrees : curveLengthAgrees p = true)
    (ascends : strictlyAscending ((sentCurve p).map Breakpoint.clamp) = true) :
    curveFits ((sentCurve p).map Breakpoint.clamp) := by
  obtain ⟨-, atLeast, atMost⟩ := of_decide_eq_true agrees
  refine ⟨by simpa [sentCurve] using atLeast, by simpa [sentCurve] using atMost, (strictlyAscending_iff _).mp ascends, ?_⟩
  intro b hb
  obtain ⟨sent, -, rfl⟩ := List.mem_map.mp hb
  exact breakpointFits_clamp sent

namespace DseFits

variable {d : Dse}

theorem activatePending (h : DseFits d) : DseFits d.activatePending := by
  unfold Dse.activatePending
  split
  · exact h
  · next c present =>
    exact ⟨h.pendingCurve c present, fun _ absent => absurd absent.symm (Option.some_ne_none _), h.gain, h.bank, h.bounds,
      h.spinUp⟩

theorem takeCurve (h : DseFits d) (m : Mode) {c : List Breakpoint} (fits : curveFits c) : DseFits (d.takeCurve m c) := by
  cases m with
  | event =>
    refine ⟨h.curve, fun c' present => ?_, h.gain, h.bank, h.bounds, h.spinUp⟩
    cases present
    exact fits
  | idle | guard | armed | halted => exact ⟨fits, h.pendingCurve, h.gain, h.bank, h.bounds, h.spinUp⟩

end DseFits

/-! ## What changes the EVT and the DSE -/

theorem EvtFits.follows {e f : Evt} (h : EvtFits e) (follows : Follows e f) : EvtFits f := by
  obtain ⟨_, _, _, _, rfl⟩ := follows
  exact ⟨h.thresholds, h.recovery⟩

/-- The end of an event may put the pending curve in force (R29). -/
theorem State.endEvent_controlFits {s : State} (h : ControlFits s) (cause : EventEnd) (plant : Nat) :
    ControlFits (s.endEvent cause plant) := by
  obtain ⟨evt, dse⟩ := h
  rw [ControlFits, State.endEvent_evt, State.endEvent_dse]
  exact ⟨⟨evt.thresholds, evt.recovery⟩, dse.activatePending⟩

theorem Monitored.controlFits {s t : State} (monitored : Monitored s t) (h : ControlFits s) : ControlFits t := by
  obtain ⟨evt, dse⟩ := h
  cases monitored with
  | followed follows calm => exact ⟨evt.follows follows, dse⟩
  | opened mode =>
    rw [ControlFits, State.openEvent_evt, State.openEvent_dse]
    exact ⟨⟨evt.thresholds, evt.recovery⟩, dse⟩
  | @ended e cause plant follows mode cause_ne =>
    exact State.endEvent_controlFits (s := s.withEvt e) ⟨evt.follows follows, dse⟩ cause plant

theorem State.passage_controlFits {s : State} (h : ControlFits s) (t : Tick) (valid : Bool) :
    ControlFits (s.passage t valid) := by
  have measured : ControlFits (s.measure t valid).1 :=
    ControlFrame.controlFits ⟨s.measure_evt t valid, s.measure_dse t valid⟩ h
  obtain ⟨evt, dse⟩ : ControlFits (s.monitored t valid) := (State.monitor_monitored _ _).controlFits measured
  rw [ControlFits, State.passage_evt, State.passage_dse]
  exact ⟨⟨evt.thresholds, evt.recovery⟩, dse.curve, dse.pendingCurve, dse.gain, dse.bank, dse.bounds, dse.spinUp⟩

theorem State.assertStop_controlFits {s : State} (h : ControlFits s) : ControlFits s.assertStop := by
  have after_ {u : State} (hu : ControlFits u) (now : Nat) :
      ControlFits (((u.addNotice .halt).tripAll).cancelAll now) :=
    ((ControlFrame.of_bankFrame ((u.addNotice_bankFrame .halt).trans (State.tripAll_bankFrame _))).trans
      (State.reviseOrders_controlFrame _ _)).controlFits hu
  obtain ⟨evt, dse⟩ := h
  have asserted (m : Mode) : ControlFits (s.withEvt { s.evt with stopLevel := .asserted, mode := m }) :=
    ⟨⟨evt.thresholds, evt.recovery⟩, dse⟩
  refine after_ ?_ _
  split
  case h_1 => exact State.endEvent_controlFits (asserted s.evt.mode) _ _
  case h_5 => exact asserted s.evt.mode
  all_goals exact asserted .halted

theorem State.releaseStop_controlFits {s : State} (h : ControlFits s) : ControlFits s.releaseStop :=
  ControlFrame.controlFits (s := s.withEvt { s.evt with stopLevel := .released, mode := .idle })
    (.of_bankFrame (State.addNotice_bankFrame _ .halt)) ⟨⟨h.1.thresholds, h.1.recovery⟩, h.2⟩

theorem State.takeReset_controlFits (s : State) (cause : ResetCause) (t : Tick) (line : StopLevel) :
    ControlFits (s.takeReset cause t line) := by
  obtain ⟨evt, dse⟩ := controlFits_reset
  rw [State.takeReset_eq]
  exact ⟨⟨evt.thresholds, evt.recovery⟩, dse⟩

/-! ## The requests that set the values (R17, R26, R31, R35, R55) -/

theorem ownSetMode_controlFits {s : State} (h : ControlFits s) (p : List Byte) :
    ControlFits (ownSetMode s p).state := by
  unfold ownSetMode
  split
  · exact h
  · split <;> exact ⟨⟨h.1.thresholds, h.1.recovery⟩, h.2⟩

theorem ownSetMeasurement_controlFits {s : State} (h : ControlFits s) (p : List Byte) :
    ControlFits (ownSetMeasurement s p).state := by
  unfold ownSetMeasurement
  split
  · exact h
  · split
    · exact h
    · refine ControlFrame.controlFits (s := s.withEvt { s.evt with memory := none }) ⟨?_, ?_⟩
        ⟨h.1.follows (.remember s.evt none), h.2⟩
      · exact State.addNoticeIf_evt _ _ _
      · exact State.addNoticeIf_dse _ _ _

theorem ownSetEvent_controlFits {s : State} (h : ControlFits s) (p : List Byte) :
    ControlFits (ownSetEvent s p).state := by
  unfold ownSetEvent
  split
  · exact h
  · refine ⟨⟨⟨clampNat_lower, clampNat_upper ?_, clampNat_lower, clampNat_upper ?_, clampNat_upper ?_⟩, clampNat_lower,
      clampNat_upper ?_, clampNat_upper ?_⟩, h.2.curve, h.2.pendingCurve, clampNat_upper ?_, h.2.bank, h.2.bounds,
      h.2.spinUp⟩
    all_goals decide

/-- SET BANK LIMITS refuses a floor at or above the ceiling (R31). -/
theorem ownSetBankLimits_controlFits {s : State} (h : ControlFits s) (p : List Byte) :
    ControlFits (ownSetBankLimits s p).state := by
  simp only [ownSetBankLimits]
  split
  · exact h
  · next below =>
    refine ⟨h.1, h.2.curve, h.2.pendingCurve, h.2.gain, ⟨clampNat_upper ?_, clampNat_upper ?_⟩,
      ⟨Nat.lt_of_not_le below, clampNat_upper ?_⟩, clampNat_lower, clampNat_upper ?_⟩
    all_goals decide

theorem ownSetCurve_controlFits {s : State} (h : ControlFits s) (p : List Byte) :
    ControlFits (ownSetCurve s p).state := by
  simp only [ownSetCurve]
  split
  · exact h
  · next agrees =>
    split
    · exact h
    · next ascends =>
      exact ⟨h.1, h.2.takeCurve s.evt.mode
        (curveFits_sentCurve (Bool.not_eq_false _ ▸ agrees) (Bool.not_eq_false _ ▸ ascends))⟩

/-- Whatever a command does to the EVT and the DSE, their values stay in their ranges. -/
theorem ControlChange.controlFits {s t : State} (change : ControlChange s t) (h : ControlFits s) : ControlFits t := by
  cases change with
  | kept frame => exact frame.controlFits h
  | sample frame t valid => exact State.passage_controlFits (frame.controlFits h) t valid
  | stopAsserted frame => exact State.assertStop_controlFits (frame.controlFits h)
  | stopReleased frame level => exact State.releaseStop_controlFits (frame.controlFits h)
  | reset u cause t line => exact u.takeReset_controlFits cause t line
  | setMode p frame => exact frame.controlFits (ownSetMode_controlFits h p)
  | setMeasurement p frame => exact frame.controlFits (ownSetMeasurement_controlFits h p)
  | setEvent p frame => exact frame.controlFits (ownSetEvent_controlFits h p)
  | setBankLimits p frame => exact frame.controlFits (ownSetBankLimits_controlFits h p)
  | setCurve p frame => exact frame.controlFits (ownSetCurve_controlFits h p)

end Sys2Proof.Machine
end

section
/-! The values the host sets for the rotors (R59, R72, R73) stay in their ranges. A rotor that is enrolled keeps its limits
through every move of its lifecycle; the invariant carried along the way (`RoadFits`) also says that only enrolled rotors
wait in the two queues, since the head of a queue is moved without a look at its state (R130, R133). -/

namespace Sys2Proof.Machine

/-! ## One record -/

/-- The clauses of SettingsInv about one record: an enrolled rotor's limits, and its staged pair (R59, R72). -/
structure RecordFits (r : RotorRecord) : Prop where
  limits : r.state ≠ .offline → rotorLimitsFit r
  staged : ∀ l, r.staged = some l → pairFits l

theorem recordFits_empty : RecordFits RotorRecord.empty :=
  ⟨fun enrolled => absurd rfl enrolled, fun _ absent => absurd absent.symm (Option.some_ne_none _)⟩

namespace RecordFits

variable {r : RotorRecord}

/-- The limits of an enrolled rotor do not hang on its lifecycle state. -/
theorem withState (h : RecordFits r) (enrolled : r.state ≠ .offline) (st : RotorState) (cause : Option RotorCause) :
    RecordFits { r with state := st, cause := cause } :=
  ⟨fun _ => h.limits enrolled, h.staged⟩

/-- An acknowledged offer becomes the limits, and an equal staged pair is removed (R73). -/
theorem takeAck (h : RecordFits r) (ack : Bool) {offered : Option Limits}
    (fits : ∀ l, offered = some l → pairFits l) : RecordFits (r.takeAck ack offered) := by
  unfold RotorRecord.takeAck
  split
  · next l =>
    refine ⟨fun enrolled => ⟨(fits l rfl).1, (h.limits enrolled).2⟩, fun l' present => ?_⟩
    dsimp only at present
    split at present
    · cases present
    · exact h.staged l' present
  · exact h

theorem derive (h : RecordFits r) : RecordFits r.derive := by
  unfold RotorRecord.derive
  split
  · exact ⟨h.limits, h.staged⟩
  · split <;> exact ⟨h.limits, h.staged⟩

theorem countSetpoint (h : RecordFits r) (dt : Nat) : RecordFits (r.countSetpoint dt) := by
  unfold RotorRecord.countSetpoint
  split
  · exact ⟨h.limits, h.staged⟩
  · exact h

end RecordFits

theorem RotorRecord.derive_state (r : RotorRecord) : r.derive.state = r.state := by
  unfold RotorRecord.derive
  split
  · rfl
  · split <;> rfl

theorem RotorRecord.countSetpoint_state (r : RotorRecord) (dt : Nat) : (r.countSetpoint dt).state = r.state := by
  unfold RotorRecord.countSetpoint
  split <;> rfl

theorem RotorRecord.takeAck_state (r : RotorRecord) (ack : Bool) (offered : Option Limits) :
    (r.takeAck ack offered).state = r.state := by
  unfold RotorRecord.takeAck
  split <;> rfl

/-- The limits of an accepted ENROL are clamped, and their speeds consistent (R59). -/
theorem recordFits_enrolled (group : Fin 4) (roles : Roles) (sent : EnrolLimits)
    (consistent : speedsConsistent sent.clamp = true) : RecordFits (enrolledRecord group roles sent.clamp) := by
  obtain ⟨base, max, range⟩ := of_decide_eq_true consistent
  refine ⟨fun _ => ?_, fun _ absent => absurd absent.symm (Option.some_ne_none _)⟩
  refine ⟨⟨clampNat_lower, clampNat_upper ?_, clampNat_lower, clampNat_upper ?_⟩, clampNat_lower, clampNat_upper ?_,
    clampNat_lower, base, max, clampNat_upper ?_, range⟩
  all_goals decide

/-- A staged pair is clamped, its rating even (R72). -/
theorem pairFits_stagedPair (p : List Byte) : pairFits (stagedPair p) := by
  have lower : 10 ≤ clampNat 10 500 (field p 1 2) := clampNat_lower
  have upper : clampNat 10 500 (field p 1 2) ≤ 500 := clampNat_upper (by decide)
  refine ⟨⟨?_, ?_, clampNat_lower, clampNat_upper (by decide)⟩, Nat.mul_mod_right 2 _⟩ <;>
    simp only [stagedPair] <;> omega

/-! ## Every record, the poll in flight and the queues -/

/-- Every record and the pair a poll offers are in range, and only enrolled rotors wait in the queues. -/
structure RoadFits (s : State) : Prop where
  records : ∀ i, RecordFits (s.rotor i)
  offered : ∀ p l, s.rbi.inFlight = some p → p.offered = some l → pairFits l
  spinUp : ∀ i ∈ s.rsq.spinUpQueue, (s.rotor i).state ≠ .offline
  sync : ∀ i ∈ s.rsq.syncQueue, (s.rotor i).state ≠ .offline

/-- From s to t the records, the two queues and the poll in flight are unchanged. -/
structure RoadFrame (s t : State) : Prop where
  rotors : t.rotors = s.rotors
  spinUp : t.rsq.spinUpQueue = s.rsq.spinUpQueue
  sync : t.rsq.syncQueue = s.rsq.syncQueue
  inFlight : t.rbi.inFlight = s.rbi.inFlight

namespace RoadFrame

theorem refl (s : State) : RoadFrame s s := ⟨rfl, rfl, rfl, rfl⟩

theorem trans {s t u : State} (h : RoadFrame s t) (k : RoadFrame t u) : RoadFrame s u :=
  ⟨k.rotors.trans h.rotors, k.spinUp.trans h.spinUp, k.sync.trans h.sync, k.inFlight.trans h.inFlight⟩

theorem ite {c : Prop} [Decidable c] {s t u : State} (ht : RoadFrame s t) (hu : RoadFrame s u) :
    RoadFrame s (if c then t else u) := by
  split
  · exact ht
  · exact hu

/-- An operation that touches neither the records nor the RSQ nor the RBI. -/
theorem of_eq {s t : State} (rotors : t.rotors = s.rotors) (rsq : t.rsq = s.rsq) (rbi : t.rbi = s.rbi) :
    RoadFrame s t := ⟨rotors, by rw [rsq], by rw [rsq], by rw [rbi]⟩

theorem roadFits {s t : State} (frame : RoadFrame s t) (h : RoadFits s) : RoadFits t := by
  obtain ⟨rotors, spinUp, sync, inFlight⟩ := frame
  have rotor := State.rotor_congr rotors
  refine ⟨fun i => rotor i ▸ h.records i, inFlight ▸ h.offered, fun i waits => ?_, fun i waits => ?_⟩
  · rw [rotor]; exact h.spinUp i (spinUp ▸ waits)
  · rw [rotor]; exact h.sync i (sync ▸ waits)

end RoadFrame

theorem State.addNotice_roadFrame (s : State) (k : NoticeKind) : RoadFrame s (s.addNotice k) :=
  .of_eq (by simp) (by simp) (by simp)

theorem State.raise_roadFrame (s : State) (f : SummaryFlag) : RoadFrame s (s.raise f) := .of_eq rfl rfl rfl

theorem State.noteRotor_roadFrame (s : State) (i : Slot) : RoadFrame s (s.noteRotor i) := by
  have joined : RoadFrame s (s.withRsq { s.rsq with changed := insertAscending i s.rsq.changed }) :=
    ⟨rfl, rfl, rfl, rfl⟩
  exact .ite (joined.trans (State.addNotice_roadFrame _ _)) (.refl s)

theorem State.advanceTo_roadFrame (s : State) (t : Tick) : RoadFrame s (s.advanceTo t) :=
  .of_eq (by simp) (by simp) (by simp)

theorem State.reviseOrders_roadFrame (s : State) (f : Order → Order) : RoadFrame s (s.reviseOrders f) :=
  .of_eq (by simp) (by simp) (by simp)

theorem State.setAttempts_state (s : State) (i j : Slot) (n : Nat) :
    ((s.setAttempts i n).rotor j).state = (s.rotor j).state := by
  rw [State.setAttempts, State.rotor_setRotor]
  split
  · next same => rw [same]
  · rfl

namespace RoadFits

variable {s : State}

/-- A record may be written where a slot that waits stays enrolled. -/
theorem setRotor (h : RoadFits s) (i : Slot) {r : RotorRecord} (fits : RecordFits r)
    (enrolled : (s.rotor i).state ≠ .offline → r.state ≠ .offline) : RoadFits (s.setRotor i r) := by
  have stays (j : Slot) (before : (s.rotor j).state ≠ .offline) : ((s.setRotor i r).rotor j).state ≠ .offline := by
    rw [State.rotor_setRotor]
    split
    · next same => exact enrolled (same ▸ before)
    · exact before
  refine ⟨fun j => ?_, h.offered, fun j waits => stays j (h.spinUp j waits), fun j waits => stays j (h.sync j waits)⟩
  rw [State.rotor_setRotor]
  split
  · exact fits
  · exact h.records j

/-- A slot that waits in no queue may be emptied. -/
theorem emptySlot (h : RoadFits s) {i : Slot} (notSpinUp : i ∉ s.rsq.spinUpQueue) (notSync : i ∉ s.rsq.syncQueue)
    {r : RotorRecord} (fits : RecordFits r) : RoadFits (s.setRotor i r) := by
  refine ⟨fun j => ?_, h.offered, fun j waits => ?_, fun j waits => ?_⟩
  · rw [State.rotor_setRotor]
    split
    · exact fits
    · exact h.records j
  · rw [State.rotor_setRotor_ne s (ne_of_mem_of_not_mem waits notSpinUp)]; exact h.spinUp j waits
  · rw [State.rotor_setRotor_ne s (ne_of_mem_of_not_mem waits notSync)]; exact h.sync j waits

/-- A record rewritten in its ranges, its state as before. -/
theorem rewrite (h : RoadFits s) {i : Slot} {r : RotorRecord} (fits : RecordFits r)
    (state : r.state = (s.rotor i).state) : RoadFits (s.setRotor i r) :=
  h.setRotor i fits fun enrolled => state ▸ enrolled

/-- The queues may be written to hold other enrolled rotors. -/
theorem withRsq (h : RoadFits s) {q : Rsq} (spinUp : ∀ i ∈ q.spinUpQueue, (s.rotor i).state ≠ .offline)
    (sync : ∀ i ∈ q.syncQueue, (s.rotor i).state ≠ .offline) : RoadFits (s.withRsq q) :=
  ⟨h.records, h.offered, spinUp, sync⟩

/-- A change made to every record that keeps its state and its ranges. -/
theorem mapRotors (h : RoadFits s) {f : Slot → RotorRecord → RotorRecord} (state : ∀ i r, (f i r).state = r.state)
    (fits : ∀ i r, RecordFits r → RecordFits (f i r)) : RoadFits (s.mapRotors f) := by
  refine ⟨fun i => ?_, h.offered, fun i waits => ?_, fun i waits => ?_⟩ <;> rw [State.rotor_mapRotors]
  · exact fits i _ (h.records i)
  · rw [state]; exact h.spinUp i waits
  · rw [state]; exact h.sync i waits

/-! ## Lifecycle moves (R127 to R141) -/

theorem changeRotor (h : RoadFits s) {i : Slot} (enrolled : (s.rotor i).state ≠ .offline) {st : RotorState}
    (after_ : st ≠ .offline) (cause : Option RotorCause) : RoadFits (s.changeRotor i st cause) :=
  (State.noteRotor_roadFrame _ i).roadFits (h.setRotor i ((h.records i).withState enrolled st _) fun _ => after_)

theorem leaveRoad (h : RoadFits s) (i : Slot) : RoadFits (s.leaveRoad i) := by
  obtain ⟨spinUp, sync, -⟩ := s.rsq.leave_spec i
  exact h.withRsq (fun j waits => h.spinUp j ((spinUp j).mp waits).1) fun j waits => h.sync j ((sync j).mp waits).1

theorem setAttempts (h : RoadFits s) (i : Slot) (n : Nat) : RoadFits (s.setAttempts i n) :=
  h.rewrite ⟨(h.records i).limits, (h.records i).staged⟩ rfl

theorem admitHead (h : RoadFits s) {i : Slot} {rest : List Slot} (queue : s.rsq.spinUpQueue = i :: rest) :
    RoadFits (s.admitHead i rest) := by
  have waits (j : Slot) (hj : j ∈ i :: rest) : (s.rotor j).state ≠ .offline := h.spinUp j (queue ▸ hj)
  unfold State.admitHead
  refine RoadFits.changeRotor ?_ ?_ ?_ _
  · exact h.withRsq (fun j hj => waits j (List.mem_cons_of_mem i hj)) h.sync
  · exact waits i List.mem_cons_self
  · exact nofun

theorem handHead (h : RoadFits s) {i : Slot} {rest : List Slot} (queue : s.rsq.syncQueue = i :: rest) :
    RoadFits (s.handHead i rest) := by
  have waits (j : Slot) (hj : j ∈ i :: rest) : (s.rotor j).state ≠ .offline := h.sync j (queue ▸ hj)
  unfold State.handHead
  refine RoadFits.changeRotor (RoadFits.setAttempts ?_ i _) ?_ ?_ _
  · exact h.withRsq h.spinUp fun j hj => waits j (List.mem_cons_of_mem i hj)
  · rw [State.setAttempts_state]; exact waits i List.mem_cons_self
  · exact nofun

theorem admitAll (fuel : Nat) {s : State} (h : RoadFits s) : RoadFits (State.admitAll fuel s) := by
  induction fuel generalizing s with
  | zero => exact h
  | succ fuel ih =>
    obtain same | ⟨m, i, rest, fuel_eq, queue, -, admitted⟩ := State.admit_cases (fuel + 1) s
    · rw [same]; exact h
    · rw [admitted, ← Nat.succ.inj fuel_eq]
      exact ih (h.admitHead queue)

theorem handOver (h : RoadFits s) : RoadFits s.handOver := by
  obtain ⟨same, -⟩ | ⟨i, rest, -, queue, handed⟩ := s.handOver_cases
  · rw [same]; exact h
  · rw [handed]; exact h.handHead queue

theorem handOn (h : RoadFits s) : RoadFits s.handOn := (h.admitAll spinUpSlots).handOver

/-- A move ends with a change of state, after which what has become free is handed on (R130, R133). -/
theorem moved (h : RoadFits s) {i : Slot} (enrolled : (s.rotor i).state ≠ .offline) {st : RotorState}
    (after_ : st ≠ .offline) (cause : Option RotorCause) : RoadFits (s.changeRotor i st cause).handOn :=
  (h.changeRotor enrolled after_ cause).handOn

section
variable {i : Slot} (h : RoadFits s) (enrolled : (s.rotor i).state ≠ .offline)
include h enrolled

theorem joinSpinUp : RoadFits (s.joinSpinUp i) := by
  have left := h.leaveRoad i
  unfold State.joinSpinUp
  refine RoadFits.moved ?_ ?_ ?_ _
  case refine_2 => exact enrolled
  case refine_3 => exact nofun
  refine left.withRsq (fun j hj => ?_) left.sync
  obtain waits | rfl := List.mem_append.mp hj |>.imp_right List.mem_singleton.mp
  · exact left.spinUp j waits
  · exact enrolled

theorem joinSync : RoadFits (s.joinSync i) := by
  have left := h.leaveRoad i
  unfold State.joinSync
  refine RoadFits.moved ?_ ?_ ?_ _
  case refine_2 => exact enrolled
  case refine_3 => exact nofun
  refine left.withRsq left.spinUp fun j hj => ?_
  obtain waits | rfl := List.mem_append.mp hj |>.imp_right List.mem_singleton.mp
  · exact left.sync j waits
  · exact enrolled

theorem brake (cause : RotorCause) : RoadFits (s.brake i cause) := by
  have left := h.leaveRoad i
  have braked {r : RotorRecord} (fits : RecordFits r) (state : r.state = (s.rotor i).state) :
      RoadFits (((s.leaveRoad i).setRotor i r).changeRotor i .decelerating (some cause)).handOn := by
    refine (left.rewrite fits state).moved ?_ ?_ _
    · rw [State.rotor_setRotor_self, state]; exact enrolled
    · exact nofun
  simp only [State.brake]
  split
  · exact braked ⟨(left.records i).limits, (left.records i).staged⟩ rfl
  · exact braked (left.records i) rfl

theorem settle (cause : Option RotorCause) : RoadFits (s.settle i cause) := by
  refine ((h.leaveRoad i).setAttempts i 0).moved ?_ ?_ _
  · rw [State.setAttempts_state]; exact enrolled
  · exact nofun

theorem tripOnly (cause : RotorCause) : RoadFits (s.tripOnly i cause) := by
  have left := h.leaveRoad i
  have zeroed : RoadFits ((s.leaveRoad i).setRotor i ((s.leaveRoad i).rotor i).zeroed) :=
    left.rewrite ⟨(left.records i).limits, (left.records i).staged⟩ rfl
  simp only [State.tripOnly]
  refine (State.raise_roadFrame _ _).roadFits (zeroed.changeRotor ?_ ?_ _)
  · rw [State.rotor_setRotor_self]; exact enrolled
  · exact nofun

theorem trip (cause : RotorCause) : RoadFits (s.trip i cause) := (h.tripOnly enrolled cause).handOn

theorem tripFault (code : FaultCode) : RoadFits (s.tripFault i code) := by
  have latched : RoadFits (s.setRotor i { s.rotor i with latched := code }) :=
    h.rewrite ⟨(h.records i).limits, (h.records i).staged⟩ rfl
  apply latched.trip
  rw [State.rotor_setRotor_self]
  exact enrolled

end

theorem tripAll (h : RoadFits s) : RoadFits s.tripAll := by
  unfold State.tripAll
  generalize allSlots = slots
  induction slots generalizing s with
  | nil => exact h
  | cons i rest ih =>
    refine ih ?_
    unfold State.stopTrip
    split
    · next moving => exact h.tripOnly (fun offline => by simp [offline, movingState] at moving) .stop
    · exact h

/-! ## Replies and late polls (R122, R123, R126, R127) -/

section
variable {i : Slot} (h : RoadFits s) (enrolled : (s.rotor i).state ≠ .offline)
include h enrolled

theorem probeReply : RoadFits (s.probeReply i) := by
  simp only [State.probeReply]
  split
  · exact h.tripFault enrolled _
  · split
    · exact h.changeRotor enrolled (by decide) none
    · split
      · exact h.trip enrolled .stop
      · split
        · exact h.joinSync enrolled
        · exact h.joinSpinUp enrolled

theorem progress : RoadFits (s.progress i) := by
  have locked : RoadFits (((s.leaveRoad i).setAttempts i 0).changeRotor i .online none).handOn := by
    refine ((h.leaveRoad i).setAttempts i 0).moved ?_ ?_ _
    · rw [State.setAttempts_state]; exact enrolled
    · exact nofun
  simp only [State.progress]
  split
  case h_4 => split; exacts [h.joinSpinUp enrolled, h]
  case h_6 => split; exacts [h.joinSync enrolled, h]
  case h_7 => split; exacts [h.joinSpinUp enrolled, h]
  case h_8 => split; exacts [locked, h]
  case h_10 => split; exacts [h.settle enrolled none, h]
  all_goals exact h

theorem replyTests : RoadFits (s.replyTests i) := by
  simp only [State.replyTests]
  split
  · exact h.tripFault enrolled _
  · split
    · exact h.trip enrolled .moduleRestart
    · exact h.progress enrolled

theorem lateTrip : RoadFits (s.lateTrip i) := by
  have counted : RoadFits (s.setRotor i (s.rotor i).countLate) :=
    h.rewrite ⟨(h.records i).limits, (h.records i).staged⟩ rfl
  simp only [State.lateTrip]
  split
  · apply counted.trip
    rw [State.rotor_setRotor_self]
    exact enrolled
  · exact counted

end

theorem rewriteLost (h : RoadFits s) (i : Slot) : RoadFits (s.rewriteLost i) := by
  unfold State.rewriteLost
  split
  · exact h
  · exact (State.noteRotor_roadFrame _ i).roadFits
      (h.rewrite ⟨(h.records i).limits, (h.records i).staged⟩ rfl)

theorem sequenceReply (h : RoadFits s) (i : Slot) : RoadFits (s.sequenceReply i) := by
  unfold State.sequenceReply
  split
  case h_1 => exact h
  case h_2 probing => exact h.probeReply (probing ▸ nofun)
  case h_11 => exact h
  all_goals next state => exact h.replyTests (state ▸ nofun)

/-- A failed probe empties a slot that has left both queues (R126). -/
theorem probeFailed (h : RoadFits s) (i : Slot) : RoadFits (s.probeFailed i) := by
  obtain ⟨spinUp, sync, -⟩ := s.rsq.leave_spec i
  refine (State.noteRotor_roadFrame _ i).roadFits ((h.leaveRoad i).emptySlot ?_ ?_ ?_)
  · exact fun waits => ((spinUp i).mp waits).2 rfl
  · exact fun waits => ((sync i).mp waits).2 rfl
  · exact ⟨fun enrolled => absurd rfl enrolled, recordFits_empty.staged⟩

theorem sequenceLate (h : RoadFits s) (i : Slot) : RoadFits (s.sequenceLate i) := by
  unfold State.sequenceLate
  split
  case h_1 => exact h
  case h_2 => exact h.probeFailed i
  case h_3 =>
    have counted : RoadFits (s.setRotor i (s.rotor i).countLate) :=
      h.rewrite ⟨(h.records i).limits, (h.records i).staged⟩ rfl
    dsimp only
    split
    · exact counted.rewriteLost i
    · exact counted
  all_goals next state => exact h.lateTrip (state ▸ nofun)

end RoadFits

end Sys2Proof.Machine
end

section
/-! The values the host sets for the rotors stay in their ranges through everything else that an arrival can do: the rounds
and polls of the rotor bus, the link, a sample's passage, a reset, the requests. With the values set for the bank, this
settles O60. -/

namespace Sys2Proof.Machine

/-! ## The Rotor Bus Interface (chapter 08) -/

/-- A round begun or ended leaves the poll in flight (R148, R156). -/
theorem State.beginRound_roadFrame (s : State) (setpoints : Vector Int 16) : RoadFrame s (s.beginRound setpoints) :=
  ⟨rfl, rfl, rfl, rfl⟩

theorem State.endRound_roadFrame (s : State) : RoadFrame s s.endRound := by
  unfold State.endRound
  split <;> exact ⟨rfl, rfl, rfl, rfl⟩

theorem State.continueRound_roadFrame (s : State) : RoadFrame s s.continueRound := by
  unfold State.continueRound
  split
  · exact .ite s.endRound_roadFrame (.refl s)
  · exact .refl s

namespace RoadFits

variable {s : State}

/-- With no poll in flight no pair is offered. -/
theorem endFlight (h : RoadFits s) : RoadFits (s.withRbi { s.rbi with inFlight := none }) :=
  ⟨h.records, fun _ _ absent => absurd absent.symm (Option.some_ne_none _), h.spinUp, h.sync⟩

/-- A poll offers the staged pair of its slot (R73, R149). -/
theorem sendPoll (h : RoadFits s) (i : Slot) (command : PollCommand) (carried : Int) :
    RoadFits (s.sendPoll i command carried) := by
  refine ⟨h.records, fun p l flight offered => ?_, h.spinUp, h.sync⟩
  cases flight
  exact (h.records i).staged l offered

theorem takeTurn (h : RoadFits s) (r : Round) : RoadFits (s.takeTurn r) := by
  have turned (r : Round) : RoadFits (s.withRbi { s.rbi with round := some r }) :=
    RoadFrame.roadFits (s := s) ⟨rfl, rfl, rfl, rfl⟩ h
  unfold State.takeTurn
  split
  · dsimp only
    split
    · split
      · exact (turned _).sendPoll _ _ _
      · exact h
    · exact (State.continueRound_roadFrame _).roadFits (turned _)
  · split
    · exact (turned _).sendPoll _ _ _
    · exact h
  · exact s.endRound_roadFrame.roadFits h

theorem pollNext (h : RoadFits s) : RoadFits s.pollNext := by
  unfold State.pollNext
  split
  · exact h.takeTurn _
  · exact h

/-- A matching reply writes the telemetry, and may put the offered pair in force (R62, R73). -/
theorem deliver (h : RoadFits s) {p : Poll} (offered : ∀ l, p.offered = some l → pairFits l) (m : ModuleReport) :
    RoadFits (s.deliver p m) := by
  have reported : RecordFits ((s.rotor p.slot).takeReport m) :=
    ⟨(h.records p.slot).limits, (h.records p.slot).staged⟩
  have acknowledged := reported.takeAck m.flags.limitsAck offered
  exact (h.rewrite acknowledged (RotorRecord.takeAck_state _ _ _)).sequenceReply p.slot

/-- The end of a poll, whatever follows it, and the round that goes on (R153, R154, R156). -/
theorem afterPoll {abandoned : Bool} {f : State → State} (h : RoadFits s)
    (act : ∀ u, RoadFits u → RoadFits (f u)) :
    RoadFits (State.continueRound
      (if abandoned then s.withRbi { s.rbi with inFlight := none }
        else f (s.withRbi { s.rbi with inFlight := none }))) := by
  refine (State.continueRound_roadFrame _).roadFits ?_
  split
  · exact h.endFlight
  · exact act _ h.endFlight

theorem busFrame (h : RoadFits s) (frame : List Byte) : RoadFits (s.busFrame frame) := by
  unfold State.busFrame
  split
  · next p m flight _ =>
    split
    · exact h.afterPoll (f := fun u => u.deliver p m) fun u hu => hu.deliver (fun l => h.offered p l flight) m
    · exact h
  · exact h

theorem busBytes (h : RoadFits s) (bytes : List Byte) : RoadFits (s.busBytes bytes) := by
  have holding (l : List Byte) : RoadFits (s.withRbi { s.rbi with assembly := l }) :=
    RoadFrame.roadFits (s := s) ⟨rfl, rfl, rfl, rfl⟩ h
  obtain ⟨-, held⟩ | ⟨-, -, held⟩ | ⟨frame, -, -, held⟩ := s.busBytes_cases bytes <;> rw [held]
  · exact holding _
  · exact holding _
  · exact (holding _).busFrame frame

theorem windowCloses (h : RoadFits s) : RoadFits s.windowCloses := by
  unfold State.windowCloses
  split
  · exact h
  · next p _ =>
    exact ((s.advanceTo_roadFrame _).roadFits h).afterPoll (f := fun u => u.sequenceLate p.slot) fun u hu =>
      hu.sequenceLate p.slot

/-- A rotor timer expires in a state it belongs to, and so of an enrolled rotor (R124). -/
theorem timerExpires (h : RoadFits s) {i : Slot} (st : RotorState) (timed : st ≠ .offline) {act : State → State}
    (kept : ∀ u, RoadFits u → (u.rotor i).state ≠ .offline → RoadFits (act u)) :
    RoadFits (s.timerExpires i st act) := by
  unfold State.timerExpires
  split
  · exact h
  · next t _ =>
    split
    · next state =>
      refine kept _ ((s.advanceTo_roadFrame t).roadFits h) ?_
      rw [State.rotor_congr (State.advanceTo_rotors s t), state]
      exact timed
    · exact h

theorem syncFails (h : RoadFits s) {i : Slot} (enrolled : (s.rotor i).state ≠ .offline) : RoadFits (s.syncFails i) := by
  unfold State.syncFails
  split
  · exact h.joinSync enrolled
  · exact h.brake enrolled .syncFail

end RoadFits

/-! ## The Link Interface (chapter 09) -/

theorem State.withFmu_roadFrame (s : State) (u : Fmu) : RoadFrame s (s.withFmu u) := ⟨rfl, rfl, rfl, rfl⟩
theorem State.withEvt_roadFrame (s : State) (e : Evt) : RoadFrame s (s.withEvt e) := ⟨rfl, rfl, rfl, rfl⟩
theorem State.withDse_roadFrame (s : State) (d : Dse) : RoadFrame s (s.withDse d) := ⟨rfl, rfl, rfl, rfl⟩
theorem State.withLif_roadFrame (s : State) (l : Lif) : RoadFrame s (s.withLif l) := ⟨rfl, rfl, rfl, rfl⟩
theorem State.withStu_roadFrame (s : State) (u : Stu) : RoadFrame s (s.withStu u) := ⟨rfl, rfl, rfl, rfl⟩
theorem State.advance_roadFrame (s : State) (dt : Nat) : RoadFrame s (s.advance dt) := ⟨rfl, rfl, rfl, rfl⟩

theorem State.formReply_roadFrame (s : State) (r : Request) (code : ResultCode) (body : List Byte) :
    RoadFrame s (s.formReply r code body) := s.withLif_roadFrame _

theorem State.abandonFrame_roadFrame (s : State) : RoadFrame s s.abandonFrame :=
  (s.withLif_roadFrame _).trans (State.raise_roadFrame _ _)

theorem State.checkFrame_roadFrame (s : State) (frame : List Byte) : RoadFrame s (s.checkFrame frame) := by
  have checked (s : State) (r : Request) : RoadFrame s (s.checkRequest r) := by
    unfold State.checkRequest
    split
    · exact s.formReply_roadFrame r _ _
    · split
      · exact .refl s
      · exact .ite (.refl s) (s.formReply_roadFrame r _ _)
  have offered (s : State) (r : Request) : RoadFrame s (s.offerRequest r) := by
    unfold State.offerRequest
    split
    · exact (s.withLif_roadFrame _).trans (State.raise_roadFrame _ _)
    · exact (s.withLif_roadFrame _).trans (checked _ r)
  exact (s.withLif_roadFrame _).trans (.ite (offered _ _) (State.abandonFrame_roadFrame _))

theorem State.completeFrame_roadFrame (s : State) : RoadFrame s s.completeFrame := by
  unfold State.completeFrame
  split
  · exact .refl s
  · exact .refl s
  · exact s.checkFrame_roadFrame _

theorem State.gapExpires_roadFrame (s : State) : RoadFrame s s.gapExpires := by
  unfold State.gapExpires
  split
  · exact .refl s
  · exact (s.advanceTo_roadFrame _).trans ((State.withLif_roadFrame _ _).trans (State.raise_roadFrame _ _))

theorem State.takeByte_roadFrame (s : State) (b : Byte) (broken : Bool) : RoadFrame s (s.takeByte b broken) := by
  have hunted (s : State) : RoadFrame s (s.huntByte b broken) := .ite (s.withLif_roadFrame _) (.refl s)
  have joined (bytes : List Byte) : RoadFrame s (s.joinByte bytes b) :=
    .ite (s.withLif_roadFrame _) <| .ite s.abandonFrame_roadFrame <|
      .ite (s.withLif_roadFrame _) (s.withLif_roadFrame _)
  unfold State.takeByte
  split
  · exact hunted s
  · exact .ite s.abandonFrame_roadFrame (joined _)
  · exact (s.checkFrame_roadFrame _).trans (hunted _)

theorem State.beginReply_roadFrame (s : State) : RoadFrame s s.beginReply := by
  unfold State.beginReply
  split
  · exact s.withLif_roadFrame _
  · exact .refl s

theorem State.beginNotice_roadFrame (s : State) (k : NoticeKind) : RoadFrame s (s.beginNotice k) := by
  have emptied : RoadFrame s (s.emptyChangeSet k) := by cases k <;> exact ⟨rfl, rfl, rfl, rfl⟩
  exact .ite (emptied.trans (State.withLif_roadFrame _ _)) (.refl s)

theorem State.endNotice_roadFrame (s : State) : RoadFrame s s.endNotice := by
  unfold State.endNotice
  split
  · exact .ite (.refl s) (s.withLif_roadFrame _)
  · exact .refl s

/-! ## Resets, the stop line and samples (R6, R52, R53, R184) -/

theorem State.takeReset_roadFits (s : State) (cause : ResetCause) (t : Tick) (line : StopLevel) :
    RoadFits (s.takeReset cause t line) := by
  have same : RoadFrame (State.blocksReset cause t s.pending) (s.takeReset cause t line) := by
    rw [State.takeReset_eq]; exact ⟨rfl, rfl, rfl, rfl⟩
  refine same.roadFits ⟨fun i => ?_, fun _ _ absent => absurd absent.symm (Option.some_ne_none _),
    fun _ waits => absurd waits List.not_mem_nil, fun _ waits => absurd waits List.not_mem_nil⟩
  rw [State.rotor_blocksReset]
  exact recordFits_empty

namespace RoadFits

variable {s : State}

theorem endReply (h : RoadFits s) (line : StopLevel) : RoadFits (s.endReply line) := by
  unfold State.endReply
  split
  · split
    · split
      · exact s.takeReset_roadFits _ _ line
      · exact (s.withLif_roadFrame _).roadFits h
    · exact h
  · exact h

theorem assertStop (h : RoadFits s) : RoadFits s.assertStop := by
  have after_ {u : State} (frame : RoadFrame s u) (now : Nat) :
      RoadFits (((u.addNotice .halt).tripAll).cancelAll now) :=
    (State.reviseOrders_roadFrame _ _).roadFits
      ((frame.trans (State.addNotice_roadFrame u .halt)).roadFits h).tripAll
  refine after_ ?_ _
  cases s.evt.mode
  case event => exact .of_eq (by simp) (by simp) (by simp)
  all_goals exact ⟨rfl, rfl, rfl, rfl⟩

theorem releaseStop (h : RoadFits s) : RoadFits s.releaseStop := by
  refine (State.addNotice_roadFrame _ .halt).roadFits ?_
  exact (s.withEvt_roadFrame _).roadFits h

/-- The dispatch writes what it derives, shares and counts into the records, and no value of the host's (R66, R74, R89). -/
theorem dispatch (h : RoadFits s) (sm : Sample) : RoadFits (s.dispatch sm) := by
  have raised {u : State} (hu : RoadFits u) (b : Bool) (f : SummaryFlag) : RoadFits (u.raiseIf b f) :=
    RoadFrame.roadFits (.of_eq (State.raiseIf_rotors u b f) (State.raiseIf_rsq u b f) (State.raiseIf_rbi u b f)) hu
  have requested {u : State} (hu : RoadFits u) (plant : Nat) : RoadFits (u.demandRequest plant) :=
    RoadFrame.roadFits (.of_eq (by simp) (by simp) (by simp)) hu
  have computed : RoadFits (s.computeDispatch sm).1 := by
    refine (State.withDse_roadFrame _ _).roadFits ?_
    refine RoadFits.mapRotors ?_ (fun _ _ => rfl) fun _ _ fits => ⟨fits.limits, fits.staged⟩
    exact requested (raised ((raised h _ _).mapRotors (fun _ r => r.derive_state) fun _ _ fits => fits.derive) _ _) _
  have carried {u : State} (hu : RoadFits u) (d : DispatchRecord) : RoadFits (u.takeSetpoints d) := by
    obtain ⟨-, begun⟩ | ⟨-, pending⟩ := u.takeSetpoints_cases d
    · rw [begun]; exact (u.beginRound_roadFrame _).roadFits hu
    · rw [pending]; exact RoadFrame.roadFits (s := u) ⟨rfl, rfl, rfl, rfl⟩ hu
  have accounted {u : State} (hu : RoadFits u) (d : DispatchRecord) : RoadFits (u.accountOrder d) :=
    RoadFrame.roadFits (.of_eq (by simp) (by simp) (by simp)) hu
  refine (State.withEvt_roadFrame _ _).roadFits (raised ?_ _ _)
  exact (accounted (carried computed _) _).mapRotors (fun _ r => r.countSetpoint_state _) fun _ _ fits =>
    fits.countSetpoint _

end RoadFits

theorem Monitored.roadFrame {s t : State} (monitored : Monitored s t) : RoadFrame s t := by
  cases monitored with
  | followed follows calm => exact ⟨rfl, rfl, rfl, rfl⟩
  | opened mode => exact .of_eq (by simp) (by simp) (by simp)
  | ended follows mode cause_ne => exact .of_eq (by simp) (by simp) (by simp)

namespace RoadFits

variable {s : State}

theorem passage (h : RoadFits s) (t : Tick) (valid : Bool) : RoadFits (s.passage t valid) := by
  have measured : RoadFrame s (s.measure t valid).1 := .of_eq (by simp [State.measure]) (by simp [State.measure])
    (by simp [State.measure])
  exact ((measured.trans (State.monitor_monitored _ _).roadFrame).roadFits h).dispatch _

theorem edge (h : RoadFits s) : RoadFits s.edge := by
  have recorded (u : Fmu) : RoadFits (s.withFmu u) := (s.withFmu_roadFrame u).roadFits h
  cases last : s.fmu.lastEdge with
  | none => rw [State.edge_first last]; exact recorded _
  | some last' => rw [State.edge_next last]; exact (recorded _).passage _ _

theorem missingEdge (h : RoadFits s) : RoadFits s.missingEdge := by
  refine passage ?_ _ _
  exact ((s.advanceTo_roadFrame _).trans (State.withFmu_roadFrame _ _)).roadFits h

end RoadFits
end Sys2Proof.Machine
end

section
/-! Every command keeps the values that the host sets in their ranges. This settles O60. -/

namespace Sys2Proof.Machine

/-! ## The owners of the requests -/

namespace RoadFrame

theorem answer_ite {c : Prop} [Decidable c] {s : State} {a b : Answer} (ha : RoadFrame s a.state)
    (hb : RoadFrame s b.state) : RoadFrame s (if c then a else b).state := by
  split
  · exact ha
  · exact hb

end RoadFrame

theorem ownSetMode_roadFrame (s : State) (p : List Byte) : RoadFrame s (ownSetMode s p).state := by
  unfold ownSetMode
  split
  · exact .refl s
  · split <;> exact ⟨rfl, rfl, rfl, rfl⟩

theorem ownSetMeasurement_roadFrame (s : State) (p : List Byte) : RoadFrame s (ownSetMeasurement s p).state := by
  have set (nom : Nominal) (n w : Nat) : RoadFrame s (s.setMeasurement nom n w) :=
    .of_eq (by simp [State.setMeasurement]) (by simp [State.setMeasurement]) (by simp [State.setMeasurement])
  unfold ownSetMeasurement
  refine .answer_ite (.refl s) ?_
  split
  · exact .refl s
  · exact set _ _ _

theorem ownSetEvent_roadFrame (s : State) (p : List Byte) : RoadFrame s (ownSetEvent s p).state := by
  unfold ownSetEvent
  split <;> exact ⟨rfl, rfl, rfl, rfl⟩

theorem ownSetBankLimits_roadFrame (s : State) (p : List Byte) : RoadFrame s (ownSetBankLimits s p).state :=
  .answer_ite (.refl s) (s.withDse_roadFrame _)

theorem ownSetCurve_roadFrame (s : State) (p : List Byte) : RoadFrame s (ownSetCurve s p).state :=
  .answer_ite (.refl s) (.answer_ite (.refl s) (s.withDse_roadFrame _))

theorem ownSetNotices_roadFrame (s : State) (p : List Byte) : RoadFrame s (ownSetNotices s p).state := by
  unfold ownSetNotices
  split <;> exact ⟨rfl, rfl, rfl, rfl⟩

theorem ownRestart_roadFrame (s : State) (p : List Byte) : RoadFrame s (ownRestart s p).state :=
  .answer_ite (.refl s) (.answer_ite (.refl s) (s.withStu_roadFrame _))

theorem ownSnapshotPart0_roadFrame (s : State) (p : List Byte) : RoadFrame s (ownSnapshotPart0 s p).state :=
  .answer_ite (s.withStu_roadFrame _) (.refl s)

theorem ownSnapshotPart1_roadFrame (s : State) (p : List Byte) : RoadFrame s (ownSnapshotPart1 s p).state := by
  unfold ownSnapshotPart1
  split
  · exact .refl s
  · exact s.withStu_roadFrame _

theorem ownRotorStatus_roadFrame (s : State) (p : List Byte) : RoadFrame s (ownRotorStatus s p).state := by
  unfold ownRotorStatus
  split
  · exact .refl s
  · exact .answer_ite (.refl s) (.refl s)

theorem State.withOrl_roadFrame (s : State) (l : Orl) : RoadFrame s (s.withOrl l) := ⟨rfl, rfl, rfl, rfl⟩

theorem ownPlaceOrder_roadFrame (s : State) (p : List Byte) : RoadFrame s (ownPlaceOrder s p).state := by
  unfold ownPlaceOrder
  split
  · exact .refl s
  · exact .answer_ite (.refl s) <| .answer_ite (.refl s) <| .answer_ite (.refl s) <| .answer_ite (.refl s) <|
      .answer_ite (.refl s) (s.withOrl_roadFrame _)

theorem ownCancelOrder_roadFrame (s : State) (p : List Byte) : RoadFrame s (ownCancelOrder s p).state := by
  refine .answer_ite (.refl s) ?_
  split
  · exact .refl s
  · exact .answer_ite (.refl s) (s.reviseOrders_roadFrame _)

theorem ownResumeOrder_roadFrame (s : State) (p : List Byte) : RoadFrame s (ownResumeOrder s p).state := by
  refine .answer_ite (.refl s) ?_
  split
  · exact .refl s
  · split
    case h_1 => exact s.reviseOrders_roadFrame _
    all_goals exact .refl s

theorem ownOrderStatus_roadFrame (s : State) (p : List Byte) : RoadFrame s (ownOrderStatus s p).state := by
  refine .answer_ite (.refl s) ?_
  split <;> exact .refl s

theorem afterOrderStatus_roadFrame (s : State) (p : List Byte) : RoadFrame s (afterOrderStatus s p) := by
  have retired (id : Nat) : RoadFrame s (s.retireOrder id) := by
    simp only [State.retireOrder]
    split <;> exact ⟨rfl, rfl, rfl, rfl⟩
  unfold afterOrderStatus
  split
  · exact .refl s
  · split
    · exact retired _
    · exact .refl s

namespace RoadFits

variable {s : State}

theorem ownEnrol (h : RoadFits s) (p : List Byte) : RoadFits (ownEnrol s p).state := by
  unfold Machine.ownEnrol
  split
  · exact h
  · next i _ =>
    split
    · exact h
    · split
      · exact h
      · split
        · next group roles _ _ =>
          dsimp only
          split
          · exact h
          · next consistent =>
            have fits := recordFits_enrolled group roles (sentLimits p) (Bool.not_eq_false _ ▸ consistent)
            have enrolled := (State.noteRotor_roadFrame _ i).roadFits (h.setRotor i fits fun _ => nofun)
            exact ⟨enrolled.records, enrolled.offered, enrolled.spinUp, enrolled.sync⟩
        · exact h

/-- A slot that may be released waits in no queue, and a poll to it that is abandoned keeps the pair it offers
(R142, R158). -/
theorem ownRelease (h : RoadFits s) (road : RoadInv s) (p : List Byte) : RoadFits (ownRelease s p).state := by
  have released {i : Slot} (may : mayRelease (s.rotor i) = true) : RoadFits (s.releaseSlot i) := by
    have state : (s.rotor i).state = .parked ∨ (s.rotor i).state = .tripped := by
      simp only [mayRelease, Bool.or_eq_true, Bool.and_eq_true, beq_iff_eq] at may
      exact may.imp_right And.left
    have notSpinUp : i ∉ s.rsq.spinUpQueue := fun waits => by
      rw [(road.spinUpHolds i).mp waits] at state
      exact state.elim nofun nofun
    have notSync : i ∉ s.rsq.syncQueue := fun waits => by
      rw [(road.syncHolds i).mp waits] at state
      exact state.elim nofun nofun
    have emptied := (State.noteRotor_roadFrame _ i).roadFits (h.emptySlot notSpinUp notSync recordFits_empty)
    refine ⟨emptied.records, fun p l flight offered => ?_, emptied.spinUp, emptied.sync⟩
    obtain ⟨p', before, rfl⟩ := Option.map_eq_some_iff.mp flight
    refine emptied.offered p' l before ?_
    split at offered <;> exact offered
  unfold Machine.ownRelease
  split
  · exact h
  · split
    · next may => exact released may
    · exact h

theorem ownSpinUp (h : RoadFits s) (p : List Byte) : RoadFits (ownSpinUp s p).state := by
  have lifted {i : Slot} (state : (s.rotor i).state = .parked) : RoadFits (s.startLift i) := by
    unfold State.startLift
    have enrolled : (s.rotor i).state ≠ .offline := state ▸ nofun
    refine RoadFits.changeRotor ?_ ?_ ?_ _
    · exact h.withRsq h.spinUp h.sync
    · exact enrolled
    · exact nofun
  unfold Machine.ownSpinUp
  split
  · exact h
  · split
    · exact h
    · split
      · exact h
      · next state => exact lifted (not_not.mp state)

theorem ownPark (h : RoadFits s) (p : List Byte) : RoadFits (ownPark s p).state := by
  unfold Machine.ownPark
  split
  · exact h
  · split
    case h_4 state =>
      split
      · exact h.settle (state ▸ nofun) _
      · exact h.brake (state ▸ nofun) _
    case h_9 state =>
      split
      · exact h
      · exact h.brake (state ▸ nofun) _
    case h_5 state | h_6 state | h_7 state | h_8 state => exact h.brake (state ▸ nofun) _
    all_goals exact h

theorem ownResetFault (h : RoadFits s) (p : List Byte) : RoadFits (ownResetFault s p).state := by
  unfold Machine.ownResetFault
  split
  · exact h
  · next i _ =>
    split
    · next may =>
      simp only [mayReset, Bool.and_eq_true, beq_iff_eq] at may
      obtain ⟨⟨⟨tripped, -⟩, -⟩, -⟩ := may
      have cleared : RoadFits (s.setRotor i { s.rotor i with latched := .none }) :=
        h.rewrite ⟨(h.records i).limits, (h.records i).staged⟩ rfl
      refine cleared.settle ?_ _
      rw [State.rotor_setRotor_self, tripped]
      exact nofun
    · exact h

/-- SET ROTOR LIMITS stages a pair in its ranges (R72). -/
theorem ownSetRotorLimits (h : RoadFits s) (p : List Byte) : RoadFits (ownSetRotorLimits s p).state := by
  unfold Machine.ownSetRotorLimits
  split
  · exact h
  · next i _ =>
    split
    · exact h
    · refine h.rewrite ⟨(h.records i).limits, fun l staged => ?_⟩ rfl
      cases staged
      exact pairFits_stagedPair p

theorem ownSetRotorRole (h : RoadFits s) (p : List Byte) : RoadFits (ownSetRotorRole s p).state := by
  unfold Machine.ownSetRotorRole
  split
  · exact h
  · next i _ =>
    split
    · exact h
    · split
      · exact h.rewrite ⟨(h.records i).limits, (h.records i).staged⟩ rfl
      · exact h

theorem afterRotorStatus (h : RoadFits s) (p : List Byte) : RoadFits (afterRotorStatus s p) := by
  unfold Machine.afterRotorStatus
  split
  · exact h
  · next i _ =>
    split
    · exact h.rewrite ⟨(h.records i).limits, (h.records i).staged⟩ rfl
    · exact h

/-! ## Every command -/

section
variable {c : Instr} {t : State} {f : State → State} {k : RequestKind} {suits : List Byte → Bool}
  {owner : State → List Byte → Answer} {after_ : State → List Byte → State}

/-- A command keeps the ranges when what the part does for it does. -/
theorem taking (h : RoadFits s) (meaning : exec c s = s.taking f) (he : exec c s = .next t) (kept : RoadFits (f s)) :
    RoadFits t := by
  rw [meaning] at he
  cases up : s.supply with
  | up => rw [State.taking_up up] at he; cases he; exact kept
  | down => rw [State.taking_down up] at he; cases he; exact h

theorem framed (h : RoadFits s) (meaning : exec c s = s.taking f) (he : exec c s = .next t)
    (frame : RoadFrame s (f s)) : RoadFits t := h.taking meaning he (frame.roadFits h)

/-- The taking of a request keeps them when its owner does, and what follows the reply does. -/
theorem request (h : RoadFits s) (meaning : exec c s = s.taking fun s => s.takeRequest k suits owner after_)
    (he : exec c s = .next t) (owned : ∀ p, RoadFits (owner s p).state)
    (followed : ∀ u p, RoadFits u → RoadFits (after_ u p)) : RoadFits t := by
  refine h.taking meaning he ?_
  obtain same | ⟨r, -, -, -, -, answered⟩ := s.takeRequest_cases k suits owner after_
  · rw [same]; exact h
  · rw [answered]
    exact followed _ _ ((State.formReply_roadFrame _ _ _ _).roadFits (owned r.payload))

/-- A request whose owner touches no rotor. -/
theorem keptRequest (h : RoadFits s) (meaning : exec c s = s.taking fun s => s.takeRequest k suits owner nothingAfter)
    (he : exec c s = .next t) (owned : ∀ p, RoadFrame s (owner s p).state) : RoadFits t :=
  h.request meaning he (fun p => (owned p).roadFits h) fun _ _ kept => kept

end

end RoadFits

/-- Every command keeps the rotors' values in their ranges. -/
theorem exec_roadFits (c : Instr) {s t : State} (road : RoadInv s) (h : RoadFits s) (he : exec c s = .next t) :
    RoadFits t := by
  have later (dt : Nat) : RoadFits (s.advance dt) := (s.advance_roadFrame dt).roadFits h
  cases c with
  | zeroCrossingEdge dt => exact h.taking (exec_zeroCrossingEdge dt s) he (later dt).edge
  | missingEdgeTimeout => exact h.taking (exec_missingEdgeTimeout s) he h.missingEdge
  | stopAssertion dt steady =>
    refine h.taking (exec_stopAssertion dt steady s) he ?_
    split
    · exact (later dt).assertStop
    · exact later dt
  | stopRelease dt steady =>
    refine h.taking (exec_stopRelease dt steady s) he ?_
    split
    · exact (later dt).releaseStop
    · exact later dt
  | powerOn line => cases he; exact s.takeReset_roadFits _ _ line
  | supplyDip line => cases he; exact s.takeReset_roadFits _ _ line
  | frameCompleted => exact h.framed (exec_frameCompleted s) he s.completeFrame_roadFrame
  | gapTimerExpiry => exact h.framed (exec_gapTimerExpiry s) he s.gapExpires_roadFrame
  | replySend => exact h.framed (exec_replySend s) he s.beginReply_roadFrame
  | requestSlotRelease dt line => exact h.taking (exec_requestSlotRelease dt line s) he ((later dt).endReply line)
  | start => exact h.framed (exec_start s) he (s.beginNotice_roadFrame _)
  | eventChange => exact h.framed (exec_eventChange s) he (s.beginNotice_roadFrame _)
  | rotorChange => exact h.framed (exec_rotorChange s) he (s.beginNotice_roadFrame _)
  | orderChange => exact h.framed (exec_orderChange s) he (s.beginNotice_roadFrame _)
  | measurementChange => exact h.framed (exec_measurementChange s) he (s.beginNotice_roadFrame _)
  | haltChange => exact h.framed (exec_haltChange s) he (s.beginNotice_roadFrame _)
  | identify => exact h.keptRequest (exec_identify s) he fun _ => .refl s
  | status => exact h.keptRequest (exec_status s) he fun _ => .refl s
  | clearSummary => exact h.keptRequest (exec_clearSummary s) he fun _ => ⟨rfl, rfl, rfl, rfl⟩
  | setClock => exact h.keptRequest (exec_setClock s) he fun _ => s.withStu_roadFrame _
  | setMode => exact h.keptRequest (exec_setMode s) he (ownSetMode_roadFrame s)
  | setMeasurement => exact h.keptRequest (exec_setMeasurement s) he (ownSetMeasurement_roadFrame s)
  | setEvent => exact h.keptRequest (exec_setEvent s) he (ownSetEvent_roadFrame s)
  | setBankLimits => exact h.keptRequest (exec_setBankLimits s) he (ownSetBankLimits_roadFrame s)
  | setCurve => exact h.keptRequest (exec_setCurve s) he (ownSetCurve_roadFrame s)
  | readCurve => exact h.keptRequest (exec_readCurve s) he fun _ => .refl s
  | readEvents => exact h.keptRequest (exec_readEvents s) he fun _ => .refl s
  | setNotices => exact h.keptRequest (exec_setNotices s) he (ownSetNotices_roadFrame s)
  | restart => exact h.keptRequest (exec_restart s) he (ownRestart_roadFrame s)
  | snapshotPart0 => exact h.keptRequest (exec_snapshotPart0 s) he (ownSnapshotPart0_roadFrame s)
  | snapshotPart1 => exact h.keptRequest (exec_snapshotPart1 s) he (ownSnapshotPart1_roadFrame s)
  | enrol => exact h.request (exec_enrol s) he h.ownEnrol fun _ _ kept => kept
  | release => exact h.request (exec_release s) he (h.ownRelease road) fun _ _ kept => kept
  | spinUp => exact h.request (exec_spinUp s) he h.ownSpinUp fun _ _ kept => kept
  | park => exact h.request (exec_park s) he h.ownPark fun _ _ kept => kept
  | resetFault => exact h.request (exec_resetFault s) he h.ownResetFault fun _ _ kept => kept
  | setRotorLimits => exact h.request (exec_setRotorLimits s) he h.ownSetRotorLimits fun _ _ kept => kept
  | setRotorRole => exact h.request (exec_setRotorRole s) he h.ownSetRotorRole fun _ _ kept => kept
  | rotorStatus =>
    exact h.request (exec_rotorStatus s) he (fun p => (ownRotorStatus_roadFrame s p).roadFits h) fun _ p kept =>
      kept.afterRotorStatus p
  | placeOrder => exact h.keptRequest (exec_placeOrder s) he (ownPlaceOrder_roadFrame s)
  | cancelOrder => exact h.keptRequest (exec_cancelOrder s) he (ownCancelOrder_roadFrame s)
  | resumeOrder => exact h.keptRequest (exec_resumeOrder s) he (ownResumeOrder_roadFrame s)
  | orderStatus =>
    exact h.request (exec_orderStatus s) he (fun p => (ownOrderStatus_roadFrame s p).roadFits h) fun u p kept =>
      (afterOrderStatus_roadFrame u p).roadFits kept
  | listOrders => exact h.keptRequest (exec_listOrders s) he fun _ => .refl s
  | poll dt => exact h.taking (exec_poll dt s) he (later dt).pollNext
  | moduleReply dt bytes => exact h.taking (exec_moduleReply dt bytes s) he ((later dt).busBytes bytes)
  | replyWindowClose => exact h.taking (exec_replyWindowClose s) he h.windowCloses
  | liftTimerExpiry i =>
    exact h.taking (exec_liftTimerExpiry i s) he <|
      h.timerExpires .lifting nofun fun _ hu enrolled => hu.trip enrolled .liftTimeout
  | spinupTimerExpiry i =>
    exact h.taking (exec_spinupTimerExpiry i s) he <|
      h.timerExpires .accelerating nofun fun _ hu enrolled => hu.brake enrolled .spinupTimeout
  | syncTimerExpiry i =>
    exact h.taking (exec_syncTimerExpiry i s) he <|
      h.timerExpires .syncing nofun fun _ hu enrolled => hu.syncFails enrolled
  | linkByteReceived dt byte broken =>
    exact h.taking (exec_linkByteReceived dt byte broken s) he
      ((State.takeByte_roadFrame _ byte broken).roadFits (later dt))
  | noticeFrameEnd dt =>
    exact h.taking (exec_noticeFrameEnd dt s) he ((State.endNotice_roadFrame _).roadFits (later dt))
  | supplyFall dt => exact h.framed (exec_supplyFall dt s) he ⟨rfl, rfl, rfl, rfl⟩

/-! ## Every step -/

/-- The queues hold enrolled rotors where RoadInv holds, and the rest of RoadFits is part of SettingsInv. -/
theorem SettingsInv.roadFits {s : State} (h : SettingsInv s) (road : RoadInv s) : RoadFits s where
  records := fun i => ⟨h.rotors i, h.staged i⟩
  offered := h.offered
  spinUp := fun i waits => by rw [(road.spinUpHolds i).mp waits]; nofun
  sync := fun i waits => by rw [(road.syncHolds i).mp waits]; nofun

theorem SettingsInv.controlFits {s : State} (h : SettingsInv s) : ControlFits s :=
  ⟨⟨h.thresholds, h.recovery⟩, h.curve, h.pendingCurve, h.gain, h.bank, h.bounds, h.spinUp⟩

theorem settingsInv_of_fits {s : State} (control : ControlFits s) (road : RoadFits s) : SettingsInv s := by
  obtain ⟨⟨thresholds, recovery⟩, curve, pendingCurve, gain, bank, bounds, spinUp⟩ := control
  exact ⟨curve, pendingCurve, gain, bank, bounds, spinUp, thresholds, recovery, fun i => (road.records i).limits,
    fun i => (road.records i).staged, road.offered⟩

/-- The commands that wait are no part of the RSQ's invariant. -/
theorem RoadInv.withPending {s : State} (h : RoadInv s) (queue : List Instr) : RoadInv (s.withPending queue) :=
  ⟨h.spinUpOnce, h.spinUpHolds, h.syncOnce, h.syncHolds, h.unit, h.four, h.timed, h.spinUpWaits, h.syncWaits, h.halted⟩

/-- Every step keeps the rotors' values in their ranges. -/
theorem step_roadFits {s t : State} (road : RoadInv s) (h : RoadFits s) (stepped : step s = .next t) : RoadFits t := by
  cases waiting : s.pending with
  | nil => simp only [step, waiting] at stepped; cases stepped; exact h
  | cons c rest =>
    simp only [step, waiting] at stepped
    have queued : RoadFrame s (s.withPending rest) := ⟨rfl, rfl, rfl, rfl⟩
    exact exec_roadFits c (road.withPending rest) (queued.roadFits h) stepped

/-- Settles O60: the bank's values by what a command can do to the EVT and the DSE, the rotors' by `RoadFits`. -/
theorem stepKeepsSettingsInv : Obligations.StepKeepsSettingsInv := fun _ _ road h stepped =>
  settingsInv_of_fits
    (step_keeps_of_controlChange ControlFrame.controlFits ControlChange.controlFits h.controlFits stepped)
    (step_roadFits road (h.roadFits road) stepped)

end Sys2Proof.Machine
end

section
/-! The demand stage (chapter 02): the response curve at a deviation (R20), O11; and what a sample's dispatch records of the
demand, with its saturated mark (R21 to R24), O12. -/

namespace Sys2Proof.Machine

/-! ## The response curve (R20) -/

/-- At and below the first breakpoint the curve has its power. -/
theorem curveAt_first {first : Breakpoint} (rest : List Breakpoint) {df : Int} (h : df ≤ first.df) :
    curveAt (first :: rest) df = first.p := by
  cases rest with
  | nil => rfl
  | cons => simp [curveAt, h]

/-- Past its first segment the curve is that of the breakpoints from the second on. -/
theorem curveAt_past {first second : Breakpoint} (rest : List Breakpoint) {df : Int} (ascends : first.df < second.df)
    (h : second.df ≤ df) : curveAt (first :: second :: rest) df = curveAt (second :: rest) df := by
  rw [curveAt, if_neg (by omega), if_neg (by omega)]

/-- On its first segment the curve is the first power and the truncated quotient; at the segment's start the quotient
is 0. -/
theorem curveAt_segment {x y : Breakpoint} (rest : List Breakpoint) {df : Int} (lower : x.df ≤ df) (upper : df < y.df) :
    curveAt (x :: y :: rest) df = x.p + ((y.p - x.p) * (df - x.df)).tdiv (y.df - x.df) := by
  rw [curveAt]
  split
  · have start : df - x.df = 0 := by omega
    simp [start]
  · rfl

/-- A fraction of a difference, truncated, lies between 0 and the difference. -/
theorem tdiv_between (d : Int) {k w : Int} (hk : 0 ≤ k) (hw : k < w) :
    min 0 d ≤ (d * k).tdiv w ∧ (d * k).tdiv w ≤ max 0 d := by
  have atMost {e : Int} (he : 0 ≤ e) : 0 ≤ (e * k).tdiv w ∧ (e * k).tdiv w ≤ e := by
    have product : 0 ≤ e * k := Int.mul_nonneg he hk
    rw [Int.tdiv_eq_ediv_of_nonneg product]
    refine ⟨Int.ediv_nonneg product (by omega), Int.ediv_le_of_le_mul (by omega) ?_⟩
    exact Int.mul_le_mul_of_nonneg_left hw.le he
  obtain rises | falls := Int.le_total 0 d
  · have := atMost rises; omega
  · have := atMost (Int.neg_nonneg_of_nonpos falls)
    rw [Int.neg_mul, Int.neg_tdiv] at this
    omega

/-- On a segment the curve stays between the segment's powers. -/
theorem curveAt_segment_between {x y : Breakpoint} (rest : List Breakpoint) {df : Int} (lower : x.df ≤ df)
    (upper : df < y.df) :
    min x.p y.p ≤ curveAt (x :: y :: rest) df ∧ curveAt (x :: y :: rest) df ≤ max x.p y.p := by
  rw [curveAt_segment rest lower upper]
  have := tdiv_between (y.p - x.p) (k := df - x.df) (w := y.df - x.df) (by omega) (by omega)
  omega

/-- Breakpoints that lie wholly at or below the deviation do not count. -/
theorem curveAt_append {before : List Breakpoint} {x : Breakpoint} {rest : List Breakpoint} {df : Int}
    (ascends : (before ++ x :: rest).Pairwise fun a b => a.df < b.df) (h : x.df ≤ df) :
    curveAt (before ++ x :: rest) df = curveAt (x :: rest) df := by
  induction before with
  | nil => rfl
  | cons b before ih =>
    obtain ⟨first, tail⟩ := List.pairwise_cons.mp ascends
    have reduced := ih tail
    cases before with
    | nil => exact curveAt_past rest (first x List.mem_cons_self) h
    | cons c before =>
      obtain ⟨second, -⟩ := List.pairwise_cons.mp tail
      have c_below : c.df ≤ df := (second x (by simp)).le.trans h
      exact (curveAt_past _ (first c List.mem_cons_self) c_below).trans reduced

/-- At and above the last breakpoint the curve has its power. -/
theorem curveAt_last {init : List Breakpoint} {last : Breakpoint} {df : Int}
    (ascends : (init ++ [last]).Pairwise fun a b => a.df < b.df) (h : last.df ≤ df) :
    curveAt (init ++ [last]) df = last.p := by
  rw [curveAt_append ascends h]
  rfl

/-- A curve of which every power lies within bounds stays within them. -/
theorem curveAt_bounds {lo hi : Int} {c : List Breakpoint} (nonempty : c ≠ [])
    (powers : ∀ b ∈ c, lo ≤ b.p ∧ b.p ≤ hi) (df : Int) : lo ≤ curveAt c df ∧ curveAt c df ≤ hi := by
  induction c with
  | nil => exact absurd rfl nonempty
  | cons x rest ih =>
    have first := powers x List.mem_cons_self
    cases rest with
    | nil => exact first
    | cons y rest =>
      have second := powers y (List.mem_cons_of_mem x List.mem_cons_self)
      by_cases below : df ≤ x.df
      · rw [curveAt_first _ below]; exact first
      · by_cases inside : df < y.df
        · have := curveAt_segment_between rest (Int.not_le.mp below).le inside
          omega
        · rw [curveAt, if_neg below, if_neg inside]
          exact ih nofun fun b hb => powers b (List.mem_cons_of_mem x hb)

/-- Settles O11: the ends, and each segment as the first of the breakpoints from it on. -/
theorem responseCurve : Obligations.ResponseCurve := by
  rintro c df ⟨atLeast, -, ascends, fits⟩
  rw [List.pairwise_map] at ascends
  refine ⟨?_, ?_, ?_, curveAt_bounds ?_ (fun b hb => ?_) df⟩
  · rintro first rest rfl below
    exact curveAt_first rest below
  · rintro init last rfl above
    exact curveAt_last ascends above
  · rintro before x y after_ rfl lower upper
    rw [curveAt_append ascends lower]
    exact ⟨curveAt_segment after_ lower upper, curveAt_segment_between after_ lower upper⟩
  · rintro rfl; cases atLeast
  · obtain ⟨-, -, powers⟩ := fits b hb
    exact powers

/-! ## What the dispatch record carries of the demand (R21 to R24) -/

/-- In LOST a sample carries neither df nor rocof (R16). -/
theorem Fmu.sample_absent_of_lost {u : Fmu} {t : Tick} {valid : Bool} (lost : (u.sample t valid).2.state = .lost) :
    (u.sample t valid).2.df = none ∧ (u.sample t valid).2.rocof = none := by
  obtain ⟨_, _, h | h | ⟨-, h⟩ | h⟩ := Fmu.sample_cases t u valid <;> rw [h] at lost ⊢
  · cases lost
  · cases lost
  · exact ⟨rfl, rfl⟩
  · exact ⟨rfl, rfl⟩

/-- Without df and rocof every term is 0 (R22). -/
theorem demandStage_absent (e : Dse) (m : Mode) {sm : Sample} (df : sm.df = none) :
    demandStage e m sm = ⟨0, 0, 0, false⟩ := by
  simp only [demandStage, df]

/-- With both, the curve, the inertia term, and the raw demand of the mode clamped to the bank limits (R20 to R24). -/
theorem demandStage_present (e : Dse) (m : Mode) {sm : Sample} {df rocof : Int} (hdf : sm.df = some df)
    (hrocof : sm.rocof = some rocof) :
    let raw := rawDemand m (curveAt e.curve df) (inertiaTerm e.kIn rocof)
    let f := clampInt (-(e.paBank : Int)) e.pdBank raw
    demandStage e m sm = ⟨curveAt e.curve df, inertiaTerm e.kIn rocof, f, f != raw⟩ := by
  simp only [demandStage, hdf, hrocof]

/-- The demand stage of a sample that comes to s, in the mode and with the settings that the EVT has left (R25). -/
def State.demandOf (s : State) (t : Tick) (valid : Bool) : Demand :=
  demandStage (s.monitored t valid).dse (s.monitored t valid).evt.mode (s.fmu.sample t valid).2

/-- The dispatch record carries the demand stage's four values (R25, R90). -/
theorem State.dispatched_demand (s : State) (t : Tick) (valid : Bool) :
    let d := s.dispatched t valid
    (⟨d.pCurve, d.pIn, d.demand, d.saturated⟩ : Demand) = s.demandOf t valid := rfl

/-! ## The saturated mark and SATURATED (R24, R177) -/

/-- A flag raised on a condition is SATURATED where it is that flag. -/
theorem State.raiseIf_saturated (s : State) (b : Bool) (f : SummaryFlag) :
    (s.raiseIf b f).stu.flags.saturated = (s.stu.flags.saturated || (b && f == .saturated)) := by
  cases b <;> cases f <;> simp [State.raiseIf, State.raise, Summary.raise]

theorem Monitored.stu {s t : State} (monitored : Monitored s t) : t.stu = s.stu := by
  cases monitored with
  | followed follows calm => rfl
  | opened mode => simp
  | ended follows mode cause_ne => simp

/-- A sample's passage sets SATURATED where its dispatch has marked the demand saturated, and nowhere else (R24). -/
theorem State.passage_saturated (s : State) (t : Tick) (valid : Bool) :
    (s.passage t valid).stu.flags.saturated =
      (s.stu.flags.saturated || (s.dispatched t valid).saturated) := by
  have measured : (s.monitored t valid).stu = s.stu :=
    (State.monitor_monitored _ _).stu.trans (by simp [State.measure])
  have computed (u : State) (sm : Sample) :
      (u.computeDispatch sm).1.stu.flags.saturated =
        (u.stu.flags.saturated || (u.computeDispatch sm).2.saturated) := by
    simp [State.computeDispatch, State.raiseIf_saturated, makeRecord]
  have consumed (u : State) (d : DispatchRecord) :
      (u.consume d).stu.flags.saturated = u.stu.flags.saturated := by
    simp [State.consume, State.countThroughput, State.raiseIf_saturated]
  calc (s.passage t valid).stu.flags.saturated
      = ((s.monitored t valid).computeDispatch (s.measure t valid).2).1.stu.flags.saturated := consumed _ _
    _ = _ := by rw [computed, measured]; rfl

/-! ## The obligation -/

/-- The expiry of the missing-edge timer is the passage of an invalid sample, with the expiry tick as its time (R5). -/
theorem State.missingEdge_passage (s : State) :
    s.missingEdge =
      ((s.advanceTo s.fmu.expiry).withFmu
        ({ (s.advanceTo s.fmu.expiry).fmu with periods := [] }.restartTimer s.fmu.expiry)).passage s.fmu.expiry false :=
  rfl

/-- A command that brings a sample is the passage of a sample through a state with the flags as they were (R6). -/
theorem bringsSample_passage {c : Instr} {s t : State} (brings : bringsSample c s) (he : exec c s = .next t) :
    ∃ (u : State) (now : Tick) (valid : Bool), u.stu = s.stu ∧ t = u.passage now valid := by
  obtain ⟨up, rfl | ⟨dt, rfl, next⟩⟩ := brings
  · rw [exec_missingEdgeTimeout, State.taking_up up] at he
    cases he
    refine ⟨_, _, _, ?_, s.missingEdge_passage⟩
    exact s.advanceTo_stu s.fmu.expiry
  · rw [exec_zeroCrossingEdge, State.taking_up up] at he
    obtain ⟨last, present⟩ := Option.isSome_iff_exists.mp next
    rw [State.edge_next (s := s.advance dt) present] at he
    cases he
    refine ⟨_, _, _, ?_, rfl⟩
    rfl

/-- Settles O12: the record carries the demand stage of the sample, in the mode and with the settings that the EVT's handling
has left, and that the dispatch leaves too. -/
theorem dispatchDemand : Obligations.DispatchDemand := by
  intro c s t d brings he latest
  obtain ⟨u, now, valid, stu, rfl⟩ := bringsSample_passage brings he
  rw [State.passage_latest] at latest
  cases latest
  obtain ⟨⟨-, -, state⟩, hdf, -, hrocof⟩ := u.dispatched_sample now valid
  have demand := u.dispatched_demand now valid
  refine ⟨fun lost => ?_, fun df rocof df_eq rocof_eq => ?_, ?_⟩
  · obtain ⟨noDf, noRocof⟩ := Fmu.sample_absent_of_lost (state.symm.trans lost)
    rw [State.demandOf, demandStage_absent _ _ noDf] at demand
    obtain ⟨pCurve, pIn, f, saturated⟩ := Demand.mk.inj demand
    exact ⟨hdf.trans noDf, hrocof.trans noRocof, pCurve, pIn, f, saturated⟩
  · rw [State.demandOf, demandStage_present _ _ (hdf.symm.trans df_eq) (hrocof.symm.trans rocof_eq)] at demand
    obtain ⟨pCurve, pIn, f, saturated⟩ := Demand.mk.inj demand
    have raw_eq : rawDemand (u.passage now valid).evt.mode (u.dispatched now valid).pCurve
        (u.dispatched now valid).pIn = rawDemand (u.monitored now valid).evt.mode
          (curveAt (u.monitored now valid).dse.curve df) (inertiaTerm (u.monitored now valid).dse.kIn rocof) := by
      rw [pCurve, pIn, State.passage_evt]
    intro raw
    rw [show raw = _ from raw_eq, State.passage_dse]
    refine ⟨pCurve, pIn, f, ?_⟩
    rw [saturated, f, bne_iff_ne]
  · rw [State.passage_saturated, stu]

end Sys2Proof.Machine
end

section
/-! The requests that set values of the bank: SET EVENT and SET BANK LIMITS (R21, R31, R55), O33; SET CURVE (R26 to R28),
O34. The request in the slot is answered from what its owner answers, and each owner has one answer a case. -/

namespace Sys2Proof.Machine

/-- The result code of an accepted request, by when nothing was clamped (R168). -/
theorem acceptedCode_eq_ite {clamped : Bool} {P : Prop} [Decidable P] (h : clamped = false ↔ P) :
    acceptedCode clamped = if P then .ok else .clamped := by
  by_cases within : P
  · rw [if_pos within, h.mpr within]; rfl
  · rw [if_neg within, Bool.eq_true_of_not_eq_false (mt h.mp within)]; rfl

theorem clampNat_zero (hi v : Nat) : clampNat 0 hi v = min hi v := Nat.zero_max _

/-! ## SET EVENT (R55) -/

theorem edgeModeOfCode_eq_none {v : Nat} (h : v = 0 ∨ 3 < v) : edgeModeOfCode v = none := by
  unfold edgeModeOfCode
  split
  case h_4 => rfl
  all_goals omega

theorem ownSetEvent_badValue {p : List Byte} (s : State) (unknown : edgeModeOfCode (field p 4 1) = none) :
    ownSetEvent s p = refuse s .badValue := by
  simp only [ownSetEvent, unknown]

/-- An accepted SET EVENT stores its seven values, clamped; the code says whether any was. -/
theorem ownSetEvent_accepts {p : List Byte} {edge : EdgeMode} (s : State)
    (known : edgeModeOfCode (field p 4 1) = some edge) :
    ownSetEvent s p =
      ⟨{ s with
          evt := { s.evt with
            uThreshold := max 20 (min 3000 (field p 0 2))
            oThreshold := max 20 (min 3000 (field p 2 2))
            edgeMode := edge
            rocofThreshold := min 5000 (field p 5 2)
            band := max 10 (min 1000 (field p 7 2))
            hold := min 60000 (field p 9 2) }
          dse := { s.dse with kIn := min 4000 (field p 11 2) } },
        if (20 ≤ field p 0 2 ∧ field p 0 2 ≤ 3000) ∧ (20 ≤ field p 2 2 ∧ field p 2 2 ≤ 3000) ∧ field p 5 2 ≤ 5000 ∧
            (10 ≤ field p 7 2 ∧ field p 7 2 ≤ 1000) ∧ field p 9 2 ≤ 60000 ∧ field p 11 2 ≤ 4000 then .ok else .clamped,
        []⟩ := by
  simp only [ownSetEvent, known, accept, clampNat_zero]
  congr 1
  apply acceptedCode_eq_ite
  simp only [Bool.or_eq_false_iff, bne_eq_false_iff_eq, clampNat_eq_self_iff (show 20 ≤ 3000 by decide),
    clampNat_eq_self_iff (show 10 ≤ 1000 by decide), min_eq_right_iff, and_assoc]

/-! ## SET BANK LIMITS (R31) -/

theorem ownSetBankLimits_inconsistent {p : List Byte} (s : State)
    (h : min 1000 (field p 6 2) ≤ min 1000 (field p 4 2)) : ownSetBankLimits s p = refuse s .inconsistent := by
  simp only [ownSetBankLimits, clampNat_zero, if_pos h]

/-- An accepted SET BANK LIMITS stores its five values, clamped; the code says whether any was. -/
theorem ownSetBankLimits_accepts {p : List Byte} (s : State)
    (h : min 1000 (field p 4 2) < min 1000 (field p 6 2)) :
    ownSetBankLimits s p =
      ⟨{ s with dse := { s.dse with
          pdBank := min 8000 (field p 0 2)
          paBank := min 8000 (field p 2 2)
          floor := min 1000 (field p 4 2)
          ceiling := min 1000 (field p 6 2)
          spinUpLimit := max 60 (min 3600 (field p 8 2)) } },
        if field p 0 2 ≤ 8000 ∧ field p 2 2 ≤ 8000 ∧ field p 4 2 ≤ 1000 ∧ field p 6 2 ≤ 1000 ∧ 60 ≤ field p 8 2 ∧
            field p 8 2 ≤ 3600 then .ok else .clamped,
        []⟩ := by
  simp only [ownSetBankLimits, clampNat_zero, if_neg (Nat.not_le.mpr h), accept]
  congr 1
  apply acceptedCode_eq_ite
  simp only [Bool.or_eq_false_iff, bne_eq_false_iff_eq, clampNat_eq_self_iff (show 60 ≤ 3600 by decide),
    min_eq_right_iff, and_assoc]

/-- Settles O33, by the two answers of each owner. -/
theorem setEventAndBankLimits : Obligations.SetEventAndBankLimits := by
  refine ⟨fun s tag p edge asks => ?_, fun s tag p asks => ?_⟩
  · rw [exec_setEvent, State.taking_request asks rfl ownSetEvent]
    refine ⟨fun unknown => ?_, fun code => ?_⟩
    · rw [ownSetEvent_badValue s (edgeModeOfCode_eq_none unknown)]
      rfl
    · have known : edgeModeOfCode (field p 4 1) = some edge := by rw [code]; cases edge <;> rfl
      rw [ownSetEvent_accepts s known]
  · rw [exec_setBankLimits, State.taking_request asks rfl ownSetBankLimits]
    refine ⟨fun crossed => ?_, fun apart => ?_⟩
    · rw [ownSetBankLimits_inconsistent s crossed]
      rfl
    · rw [ownSetBankLimits_accepts s apart]

/-! ## SET CURVE (R26 to R28) -/

/-- In EVENT an accepted curve is held back; in every other mode it is in force at once (R27, R28). -/
theorem Dse.takeCurve_eq (d : Dse) (m : Mode) (c : List Breakpoint) :
    d.takeCurve m c = if m = .event then { d with pendingCurve := some c } else { d with curve := c } := by
  cases m <;> rfl

theorem curveLengthAgrees_eq_false {p : List Byte}
    (h : p.length ≠ 1 + 6 * field p 0 1 ∨ field p 0 1 < 2 ∨ 12 < field p 0 1) : curveLengthAgrees p = false := by
  simp only [curveLengthAgrees, decide_eq_false_iff_not]
  omega

theorem ownSetCurve_badLength {p : List Byte} (s : State) (h : curveLengthAgrees p = false) :
    ownSetCurve s p = refuse s .badLength := by
  simp only [ownSetCurve, if_pos h]

theorem ownSetCurve_inconsistent {p : List Byte} (s : State) (agrees : curveLengthAgrees p = true)
    (h : strictlyAscending ((sentCurve p).map Breakpoint.clamp) = false) :
    ownSetCurve s p = refuse s .inconsistent := by
  simp only [ownSetCurve, agrees, h, Bool.true_eq_false, if_true, if_false]

theorem ownSetCurve_accepts {p : List Byte} (s : State) (agrees : curveLengthAgrees p = true)
    (ascends : strictlyAscending ((sentCurve p).map Breakpoint.clamp) = true) :
    ownSetCurve s p =
      ⟨s.withDse (s.dse.takeCurve s.evt.mode ((sentCurve p).map Breakpoint.clamp)),
        if (sentCurve p).map Breakpoint.clamp = sentCurve p then .ok else .clamped, []⟩ := by
  simp only [ownSetCurve, agrees, ascends, Bool.true_eq_false, if_false, accept]
  congr 1
  exact acceptedCode_eq_ite bne_eq_false_iff_eq

/-- Settles O34, by the three answers of the owner. -/
theorem setCurve : Obligations.SetCurve := by
  intro s tag p asks n sent curve ascends
  have ascends_iff : strictlyAscending ((sentCurve p).map Breakpoint.clamp) = true ↔ ascends := strictlyAscending_iff curve
  rw [exec_setCurve, State.taking_request asks rfl ownSetCurve]
  refine ⟨fun length => ?_, fun length atLeast atMost => ?_⟩
  · rw [ownSetCurve_badLength s (curveLengthAgrees_eq_false length)]
    rfl
  · have agrees : curveLengthAgrees p = true := decide_eq_true ⟨length, atLeast, atMost⟩
    refine ⟨fun descends => ?_, fun rises => ?_⟩
    · rw [ownSetCurve_inconsistent s agrees (Bool.eq_false_iff.mpr (mt ascends_iff.mp descends))]
      rfl
    · rw [ownSetCurve_accepts s agrees (ascends_iff.mpr rises), Dse.takeCurve_eq]
      rfl

end Sys2Proof.Machine
end

section
/-! The requests that report (R30, R56, R113, R179, R180): O29. A body is the concatenation of its parts, and what stands
at an offset is the part that the lengths before it add up to; so the layouts of R192 and R195 are read off a list of
parts and a list of their lengths. -/

namespace Sys2Proof.Machine

/-! ## Bytes (R189) -/

theorem byteOf_toNat {v : Nat} (h : v < 256) : (byteOf v).toNat = v := Nat.mod_eq_of_lt h

theorem bitAt_eq (place : Nat) (b : Bool) : bitAt place b = 2 ^ place * b.toNat := by
  cases b <;> simp [bitAt]

theorem beBytes_one (v : Nat) : beBytes 1 v = [byteOf v] := by simp [beBytes, byteOf]

/-- The summary byte has one bit a flag, and no other (R191). -/
theorem summaryByte_bits (f : Summary) :
    (summaryByte f).getLsbD 0 = f.saturated ∧ (summaryByte f).getLsbD 1 = f.unserved ∧
      (summaryByte f).getLsbD 2 = f.rotorTrip ∧ (summaryByte f).getLsbD 3 = f.counter ∧
      (summaryByte f).getLsbD 4 = f.linkError ∧ (summaryByte f).getLsbD 5 = f.overrun ∧
      (summaryByte f).toNat < 64 := by
  obtain ⟨saturated, unserved, rotorTrip, counter, linkError, overrun⟩ := f
  revert saturated unserved rotorTrip counter linkError overrun
  decide

/-! ## A body from its parts -/

/-- The part at place k of a concatenation, from the lengths of the parts. -/
theorem flatten_part {α : Type} {parts : List (List α)} {lengths : List Nat} (h : parts.map List.length = lengths)
    (k : Nat) {part : List α} {offset len : Nat} (place : parts[k]? = some part)
    (before : (lengths.take k).sum = offset) (length : lengths[k]? = some len) :
    (parts.flatten.drop offset).take len = part := by
  subst h
  obtain ⟨inRange, rfl⟩ := List.getElem?_eq_some_iff.mp place
  have split : parts.flatten = (parts.take k).flatten ++ (parts[k] ++ (parts.drop (k + 1)).flatten) := by
    rw [← List.flatten_cons, ← List.drop_eq_getElem_cons inRange, ← List.flatten_append, List.take_append_drop]
  have offset_eq : offset = (parts.take k).flatten.length := by
    rw [← before, List.length_flatten, List.map_take]
  have len_eq : len = parts[k].length := by simpa [place] using length.symm
  rw [split, offset_eq, len_eq, List.drop_left, List.take_left]

/-- A byte of a part stands at the part's offset and its place in the part. -/
theorem getElem?_of_part {α : Type} {body part : List α} {offset len : Nat} (h : (body.drop offset).take len = part)
    {i : Nat} (hi : i < len) : body[offset + i]? = part[i]? := by
  rw [← h, List.getElem?_take_of_lt hi, List.getElem?_drop]

theorem flatten_length {α : Type} {parts : List (List α)} {lengths : List Nat}
    (h : parts.map List.length = lengths) : parts.flatten.length = lengths.sum := by
  rw [List.length_flatten, h]

/-! ## The bank header (R195) -/

/-- The modes of the header's offset 9: the bank mode, and the saved mode. -/
def State.modesCode (s : State) : Nat := modeCode s.evt.mode + 8 * savedModeCode s.evt.savedMode

theorem State.modesCode_parts (s : State) :
    s.modesCode < 32 ∧ s.modesCode % 8 = modeCode s.evt.mode ∧
      s.modesCode / 8 % 4 = savedModeCode s.evt.savedMode := by
  have mode : modeCode s.evt.mode < 8 := by cases s.evt.mode <;> decide
  have saved : savedModeCode s.evt.savedMode < 4 := by
    cases s.evt.savedMode with
    | none => decide
    | some m => cases m <;> decide
  unfold State.modesCode
  omega

theorem measStateCode_lt (m : MeasState) : measStateCode m < 4 := by cases m <;> decide

/-- The marks of the header's offset 10 with a dispatch record. -/
def DispatchRecord.marks (d : DispatchRecord) : Nat :=
  bitAt 0 d.held + bitAt 1 d.saturated + bitAt 2 d.exhausted

theorem DispatchRecord.marks_eq (d : DispatchRecord) :
    d.marks = d.held.toNat + 2 * d.saturated.toNat + 4 * d.exhausted.toNat ∧ d.marks < 8 := by
  have held := d.held.toNat_lt
  have saturated := d.saturated.toNat_lt
  have exhausted := d.exhausted.toNat_lt
  simp only [DispatchRecord.marks, bitAt_eq]
  omega

/-- The header's parts: without a dispatch record the modes and the present state between zeros. -/
def State.headerParts (s : State) : List (List Byte) :=
  match s.dse.latest with
  | none => [zeros 9, [byteOf s.modesCode], [byteOf (8 * measStateCode s.fmu.state)], zeros 19]
  | some d =>
    [beBytes 6 d.plantTime, beBytes 3 (min maxSentInterval d.dt),
      [byteOf (s.modesCode + 32 * measStateCode d.state + 128)], [byteOf (d.marks + 8 * measStateCode s.fmu.state)],
      beIntBytes 2 (d.df.getD 0), beIntBytes 2 (d.rocof.getD 0), beIntBytes 2 d.pCurve, beIntBytes 3 d.pIn,
      beIntBytes 2 d.demand, beBytes 2 d.fServed, beBytes 2 (d.orderId.getD 0), beIntBytes 2 d.po, beBytes 2 d.oServed]

theorem State.bankHeader_eq (s : State) : s.bankHeader = s.headerParts.flatten := by
  cases h : s.dse.latest <;>
    simp [State.bankHeader, State.headerParts, h, headerHead, headerTail, State.modesCode, DispatchRecord.marks]

theorem State.headerParts_lengths_none {s : State} (h : s.dse.latest = none) :
    s.headerParts.map List.length = [9, 1, 1, 19] := by
  simp [State.headerParts, h, zeros]

theorem State.headerParts_lengths_some {s : State} {d : DispatchRecord} (h : s.dse.latest = some d) :
    s.headerParts.map List.length = [6, 3, 1, 1, 2, 2, 2, 3, 2, 2, 2, 2, 2] := by
  simp [State.headerParts, h]

theorem State.bankHeader_length (s : State) : s.bankHeader.length = 30 := by
  rw [State.bankHeader_eq]
  cases h : s.dse.latest with
  | none => exact flatten_length (State.headerParts_lengths_none h)
  | some d => exact flatten_length (State.headerParts_lengths_some h)

/-- The bank header is laid out as R195 has it. -/
theorem State.bankHeader_laidOut (s : State) : headerLaidOut s s.bankHeader := by
  obtain ⟨small, mode, saved⟩ := s.modesCode_parts
  have present := measStateCode_lt s.fmu.state
  refine ⟨s.bankHeader_length, ?_⟩
  rw [State.bankHeader_eq]
  cases h : s.dse.latest with
  | none =>
    have lengths := State.headerParts_lengths_none h
    have parts : s.headerParts =
        [zeros 9, [byteOf s.modesCode], [byteOf (8 * measStateCode s.fmu.state)], zeros 19] := by
      simp only [State.headerParts, h]
    rw [parts] at lengths ⊢
    refine ⟨⟨_, _, getElem?_of_part (flatten_part lengths 1 rfl rfl rfl) (i := 0) Nat.one_pos,
      getElem?_of_part (flatten_part lengths 2 rfl rfl rfl) (i := 0) Nat.one_pos, ?_⟩,
      flatten_part lengths 0 rfl rfl rfl, rfl⟩
    rw [byteOf_toNat (by omega), byteOf_toNat (by omega)]
    refine ⟨mode, saved.trans ?_, by omega, by omega, by omega⟩
    rcases s.evt.savedMode with _ | _ | _ | _ <;> rfl
  | some d =>
    have lengths := State.headerParts_lengths_some h
    have record := measStateCode_lt d.state
    obtain ⟨marks, marks_lt⟩ := d.marks_eq
    simp only [State.headerParts, h] at lengths ⊢
    refine ⟨⟨_, _, getElem?_of_part (flatten_part lengths 2 rfl rfl rfl) (i := 0) Nat.one_pos,
      getElem?_of_part (flatten_part lengths 3 rfl rfl rfl) (i := 0) Nat.one_pos, ?_⟩,
      flatten_part lengths 0 rfl rfl rfl, flatten_part lengths 1 rfl rfl rfl, flatten_part lengths 4 rfl rfl rfl,
      flatten_part lengths 5 rfl rfl rfl, flatten_part lengths 6 rfl rfl rfl, flatten_part lengths 7 rfl rfl rfl,
      flatten_part lengths 8 rfl rfl rfl, flatten_part lengths 9 rfl rfl rfl, flatten_part lengths 10 rfl rfl rfl,
      flatten_part lengths 11 rfl rfl rfl, flatten_part lengths 12 rfl rfl rfl⟩
    have saved_of_all : (s.modesCode + 32 * measStateCode d.state + 128) / 8 % 4 = savedModeCode s.evt.savedMode := by
      omega
    rw [byteOf_toNat (by omega), byteOf_toNat (by omega)]
    refine ⟨by omega, saved_of_all.trans ?_, by omega, by omega, by omega⟩
    rcases s.evt.savedMode with _ | _ | _ | _ <;> rfl

/-! ## The counts of STATUS (R179) -/

/-- Counted by state, the entries of a list are counted once each. -/
theorem sum_rotorStates_count {α : Type} (state : α → RotorState) (l : List α) :
    (rotorStates.map fun st => (l.filter fun i => state i == st).length).sum = l.length := by
  induction l with
  | nil => simp [rotorStates]
  | cons a l ih =>
    have once : (rotorStates.map fun st => if state a == st then 1 else 0).sum = 1 := by
      cases state a <;> decide
    have split (st : RotorState) : ((a :: l).filter fun i => state i == st).length =
        (l.filter fun i => state i == st).length + if state a == st then 1 else 0 := by
      rw [List.filter_cons]
      split <;> simp
    simp only [split, List.sum_map_add, ih, once, List.length_cons]

/-- The sixteen slots are each counted in one lifecycle state (R179). -/
theorem State.rotorCounts_sum (s : State) : (s.rotorCounts.map BitVec.toNat).sum = 16 := by
  have fits (st : RotorState) : (allSlots.filter fun i => (s.rotor i).state == st).length < 256 :=
    (List.length_filter_le _ _).trans_lt (by decide)
  rw [State.rotorCounts, List.map_map]
  refine Eq.trans (congrArg List.sum (List.map_congr_left fun st _ => byteOf_toNat (fits st))) ?_
  exact sum_rotorStates_count (fun i => (s.rotor i).state) allSlots

theorem State.rotorCounts_get (s : State) (st : RotorState) :
    s.rotorCounts[rotorStateCode st]? =
      some (byteOf (allSlots.filter fun i => (s.rotor i).state == st).length) := by
  cases st <;> rfl

theorem Orl.counts_get (l : Orl) {code : Nat} (h : code < 6) :
    l.counts[code]? = some (byteOf (l.orders.filter fun o => orderStateCode o.status == code).length) := by
  simp [Orl.counts, h]

/-! ## The body of STATUS (R192) -/

/-- The parts of the body, in order. -/
def State.statusParts (s : State) : List (List Byte) :=
  [s.bankHeader, beBytes 6 s.plantTime, beIntBytes 4 s.fmu.reported.f, beIntBytes 2 s.fmu.reported.df,
    beIntBytes 2 s.fmu.reported.rocof, [summaryByte s.stu.flags], s.lif.counters,
    [byteOf (resetCauseCode s.stu.resetCause)], [byteOf (bitAt 0 s.dse.pendingCurve.isSome)],
    beBytes 2 s.dse.latestUnserved, s.rotorCounts, s.orl.counts]

theorem State.statusBody_eq (s : State) : s.statusBody = s.statusParts.flatten := by
  simp [State.statusBody, State.statusParts]

theorem State.statusParts_lengths (s : State) :
    s.statusParts.map List.length = [30, 6, 4, 2, 2, 1, 6, 1, 1, 2, 11, 6] := by
  simp [State.statusParts, State.bankHeader_length, Lif.counters, State.rotorCounts, rotorStates, Orl.counts]

/-! ## The obligation -/

/-- A request that only reports leaves the state, with the result OK. -/
theorem State.taking_report {s : State} {k : RequestKind} {tag : Byte} {p : List Byte} (asks : s.asks k tag p)
    {owner : State → List Byte → Answer} {body : List Byte} (reports : owner s p = report s body) :
    (s.taking fun s => s.takeRequest k anyPayload owner nothingAfter) = answered s k tag p .ok body := by
  rw [State.taking_request asks rfl owner, reports]
  rfl

theorem Breakpoint.bytes_eq : Breakpoint.bytes = fun b => beIntBytes 4 b.df ++ beIntBytes 2 b.p := rfl

theorem triggersByte_eq (t : Triggers) :
    triggersByte t = byteOf (t.underHit.toNat + 2 * t.overHit.toNat + 4 * t.rocofHit.toNat) := by
  simp [triggersByte, bitAt_eq]

/-- Settles O29: IDENTIFY, READ CURVE, READ EVENTS and LIST ORDERS by their bodies written out, STATUS by the parts of its
body. -/
theorem readRequestsReport : Obligations.ReadRequestsReport := by
  refine ⟨fun s tag p asks => ?_, fun s tag p asks => ?_, fun s tag p asks => ?_, fun s tag p asks => ?_,
    fun s tag p asks => ?_⟩
  · exact State.taking_report asks rfl
  · have part := @flatten_part _ _ _ s.statusParts_lengths
    refine ⟨s.statusParts.flatten, State.taking_report asks (congrArg (report s) s.statusBody_eq),
      flatten_length s.statusParts_lengths, ?_, part 1 rfl rfl rfl, part 2 rfl rfl rfl, part 3 rfl rfl rfl,
      part 4 rfl rfl rfl,
      ⟨_, getElem?_of_part (part 5 rfl rfl rfl) (i := 0) Nat.one_pos, summaryByte_bits s.stu.flags⟩,
      part 6 rfl rfl rfl, getElem?_of_part (part 7 rfl rfl rfl) (i := 0) Nat.one_pos, ?_, part 9 rfl rfl rfl,
      fun st => ?_, ?_, fun code hcode => ?_⟩
    · have header : s.statusParts.flatten.take 30 = s.bankHeader := part 0 rfl rfl rfl
      rw [header]
      exact s.bankHeader_laidOut
    · have pending : s.statusParts.flatten[52]? = some (byteOf (bitAt 0 s.dse.pendingCurve.isSome)) :=
        getElem?_of_part (part 8 rfl rfl rfl) (i := 0) Nat.one_pos
      rw [pending, bitAt_eq, pow_zero, one_mul]
    · have inRange : rotorStateCode st < 11 := by cases st <;> decide
      exact (getElem?_of_part (part 10 rfl rfl rfl) inRange).trans (s.rotorCounts_get st)
    · have counts : (s.statusParts.flatten.drop 55).take 11 = s.rotorCounts := part 10 rfl rfl rfl
      rw [counts]
      exact s.rotorCounts_sum
    · exact (getElem?_of_part (part 11 rfl rfl rfl) hcode).trans (s.orl.counts_get hcode)
  · refine State.taking_report asks (congrArg (report s) ?_)
    cases h : s.dse.pendingCurve with
    | none => simp [Dse.curveBody, h, curveBytes, Breakpoint.bytes_eq, byteOf, bitAt]
    | some c => simp [Dse.curveBody, h, curveBytes, Breakpoint.bytes_eq, byteOf, bitAt]
  · refine State.taking_report asks (congrArg (report s) (congrArg (_ :: ·) (List.flatMap_congr fun r _ => ?_)))
    simp only [EventRecord.bytes, triggersByte_eq, beBytes_one]
    cases r.entryMode <;> rcases r.ended with _ | ⟨time, _ | _ | _⟩ <;> rfl
  · refine State.taking_report asks (congrArg (report s) (congrArg (_ :: ·) (List.flatMap_congr fun o _ => ?_)))
    cases o.status <;> rfl

end Sys2Proof.Machine
end

section
/-! Notices and orders: what the adding of a notice and the revising of the order list write, in one equation each; and what
the dispatch, and the opening and the end of an event, do to the states of the orders and to the pending notices (R51,
R100 to R108, R114, R172). -/

namespace Sys2Proof.Machine

/-! ## Notices (R172) -/

theorem NoticeSet.put_has (n : NoticeSet) (k : NoticeKind) : n.put (n.has k) k = n := by cases k <;> rfl

/-- A notice is pending once it has been added where it was pending already, or is enabled (R172). -/
theorem State.addNotice_eq (s : State) (k : NoticeKind) :
    s.addNotice k =
      s.withLif { s.lif with
        pendingNotices := s.lif.pendingNotices.put (s.lif.pendingNotices.has k || s.lif.mask.has k) k } := by
  unfold State.addNotice
  split
  · next enabled => rw [enabled, Bool.or_true]
  · next masked =>
    rw [Bool.eq_false_of_not_eq_true masked, Bool.or_false, NoticeSet.put_has]
    rfl

/-! ## The order list (R114) -/

/-- The ids that a revision of the list brings to the ORDER CHANGE set (R114). -/
def State.enteredIds (s : State) (f : Order → Order) : List Nat := s.orl.orders.filterMap fun o => enteredId o (f o)

/-- ORDER CHANGE is pending after a revision where it was, and where the revision brings an id while the kind is enabled;
nothing else of the LIF changes (R114). -/
theorem State.reviseOrders_lif (s : State) (f : Order → Order) :
    (s.reviseOrders f).lif = { s.lif with pendingNotices := { s.lif.pendingNotices with
      order := s.lif.pendingNotices.order || (s.lif.mask.order && !(s.enteredIds f).isEmpty) } } := by
  have enabled : s.lif.mask.has .order = s.lif.mask.order := rfl
  simp only [State.reviseOrders, enabled, State.enteredIds]
  split
  · next brings =>
    obtain ⟨mask, -⟩ := Bool.and_eq_true_iff.mp brings
    rw [State.addNotice_eq, brings]
    simp only [State.withLif_lif, State.withOrl_lif, NoticeSet.put, NoticeSet.has, mask, Bool.or_true]
  · next brings => rw [Bool.eq_false_of_not_eq_true brings, Bool.or_false]; rfl

@[simp] theorem State.reviseOrders_mask (s : State) (f : Order → Order) :
    (s.reviseOrders f).lif.mask = s.lif.mask := by rw [State.reviseOrders_lif]
@[simp] theorem State.reviseOrders_pendingEvent (s : State) (f : Order → Order) :
    (s.reviseOrders f).lif.pendingNotices.event = s.lif.pendingNotices.event := by rw [State.reviseOrders_lif]

/-- What holds of the state of every order goes on holding when each revision keeps it. -/
theorem State.reviseOrders_statuses {s : State} {P : OrderStatus → Prop} {f : Order → Order}
    (keeps : ∀ o, P o.status → P (f o).status) (h : ∀ o ∈ s.orl.orders, P o.status) :
    ∀ o ∈ (s.reviseOrders f).orl.orders, P o.status := by
  rw [State.reviseOrders_orders, List.forall_mem_map]
  exact fun o listed => keeps o (h o listed)

/-! ## The ORDER CHANGE set (R114) -/

theorem enteredId_eq_some {o o' : Order} {id : Nat} :
    enteredId o o' = some id ↔ o'.status ≠ o.status ∧ o'.status ≠ .waiting ∧ o'.id = id := by
  simp [enteredId, and_assoc]

/-- An entry to WAITING brings no id (R114). -/
theorem enteredId_of_waiting {o o' : Order} (h : o'.status = o.status ∨ o'.status = .waiting) :
    enteredId o o' = none := by
  obtain h | h := h <;> simp [enteredId, h]

/-- A revision that brings no id writes the records alone. -/
theorem State.reviseOrders_of_enters_none (s : State) {f : Order → Order} (h : ∀ o, enteredId o (f o) = none) :
    s.reviseOrders f = s.withOrl { s.orl with orders := s.orl.orders.map f } := by
  simp [State.reviseOrders, h]

/-- A revision notes each id once. -/
theorem State.reviseOrders_changed_nodup {s : State} (f : Order → Order) (h : s.orl.changed.Nodup) :
    (s.reviseOrders f).orl.changed.Nodup := by
  simp only [State.reviseOrders]
  split
  · rw [State.addNotice_orl]; exact insertIds_nodup _ _ h
  · exact h

/-- Where the orders are revised one by one and the ids are distinct, the id of a record entered a state when its own
revision did. -/
theorem idEntered_iff {s t : State} {g : Order → Order} (orders : t.orl.orders = s.orl.orders.map g)
    (ids : ∀ o, (g o).id = o.id) (distinct : (s.orl.orders.map fun o => o.id).Nodup) (id : Nat) :
    idEntered s t id ↔ ∃ o ∈ s.orl.orders, enteredId o (g o) = some id := by
  unfold idEntered
  rw [orders]
  constructor
  · rintro ⟨o, listed, o', revised, rfl, same, changed, entered⟩
    obtain ⟨x, hx, rfl⟩ := List.mem_map.mp revised
    obtain rfl : x = o := List.inj_on_of_nodup_map distinct hx listed ((ids x).symm.trans same)
    exact ⟨x, hx, enteredId_eq_some.mpr ⟨changed, entered, ids x⟩⟩
  · rintro ⟨o, listed, entered⟩
    obtain ⟨changed, notWaiting, rfl⟩ := enteredId_eq_some.mp entered
    exact ⟨o, listed, g o, List.mem_map_of_mem listed, (ids o).symm, rfl, changed, notWaiting⟩

/-- A revision of u notes what has happened to the orders since s, if it brings the ids of what has and nothing was noted
between s and u. -/
theorem ordersNoted_reviseOrders {s u : State} {f g : Order → Order} (changed : u.orl.changed = s.orl.changed)
    (mask : u.lif.mask = s.lif.mask) (notice : u.lif.pendingNotices.order = s.lif.pendingNotices.order)
    (orders : (u.reviseOrders f).orl.orders = s.orl.orders.map g) (ids : ∀ o, (g o).id = o.id)
    (distinct : (s.orl.orders.map fun o => o.id).Nodup)
    (entered : ∀ id, (∃ o ∈ u.orl.orders, enteredId o (f o) = some id) ↔
      ∃ o ∈ s.orl.orders, enteredId o (g o) = some id) : OrdersNoted s (u.reviseOrders f) := by
  have brought (id : Nat) : (∃ o ∈ u.orl.orders, enteredId o (f o) = some id) ↔ idEntered s (u.reviseOrders f) id :=
    (entered id).trans (idEntered_iff orders ids distinct id).symm
  refine ⟨fun id => ?_, fun once => ?_, ?_⟩
  · rw [State.mem_reviseOrders_changed, brought, changed, mask]
  · exact State.reviseOrders_changed_nodup f (changed ▸ once)
  · have some_brought : (u.enteredIds f).isEmpty = false ↔ ∃ id, idEntered s (u.reviseOrders f) id := by
      simp only [← brought]
      simp only [List.isEmpty_eq_false_iff_exists_mem, State.enteredIds, List.mem_filterMap]
    rw [State.reviseOrders_lif]
    simp only [Bool.or_eq_true, Bool.and_eq_true, Bool.not_eq_true', some_brought, notice, mask]

/-! ## The states of the orders at a dispatch (R100 to R106) -/

/-- An order expires, or is left as it is (R100). -/
theorem Order.expire_status (plant : Nat) (o : Order) :
    (o.expire plant).status = .expired ∨ (o.expire plant).status = o.status := by
  unfold Order.expire
  split
  · exact .inr rfl
  · split
    · exact .inl rfl
    · exact .inr rfl

/-- The accounting of a dispatch result suspends the order as exhausted, ends it as DONE, or leaves its state (R103 to
R106). -/
theorem Order.account_status (o : Order) (units : Nat) (exhausted : Bool) (holds : RepeatCondition → Nat → Bool)
    (plant : Nat) :
    (o.account units exhausted holds plant).status = .suspended .exhausted ∨
      (∃ cause, (o.account units exhausted holds plant).status = .done cause) ∨
      (o.account units exhausted holds plant).status = o.status := by
  unfold Order.account
  split
  · exact .inl rfl
  · split
    · unfold Order.complete
      split
      · exact .inr (.inl ⟨_, rfl⟩)
      · split
        · exact .inr (.inl ⟨_, rfl⟩)
        · split
          · exact .inr (.inr rfl)
          · exact .inr (.inl ⟨_, rfl⟩)
    · exact .inr (.inr rfl)

section
variable {s : State} {P : OrderStatus → Prop}

/-- The demand request expires orders, and in GUARD and ARMED makes one ACTIVE (R100, R101). -/
theorem State.demandRequest_statuses (plant : Nat) (expired : P .expired)
    (selected : modeServes s.evt.mode = true → P .active) (h : ∀ o ∈ s.orl.orders, P o.status) :
    ∀ o ∈ (s.demandRequest plant).orl.orders, P o.status := by
  have overdue : ∀ o ∈ (s.reviseOrders (Order.expire plant)).orl.orders, P o.status := by
    refine State.reviseOrders_statuses (fun o kept => ?_) h
    obtain status | status := o.expire_status plant <;> rw [status]
    exacts [expired, kept]
  unfold State.demandRequest State.selectOrder
  rw [State.reviseOrders_evt]
  split
  · next serves =>
    split
    · refine State.reviseOrders_statuses (fun o kept => ?_) overdue
      unfold Order.activateIf
      split
      · exact selected (Bool.and_eq_true_iff.mp serves).1
      · exact kept
    · exact overdue
  · exact overdue

theorem State.accountOrder_statuses (d : DispatchRecord) (exhausted : P (.suspended .exhausted))
    (done : ∀ cause, P (.done cause)) (h : ∀ o ∈ s.orl.orders, P o.status) :
    ∀ o ∈ (s.accountOrder d).orl.orders, P o.status := by
  unfold State.accountOrder
  split
  · exact h
  · refine State.reviseOrders_statuses (fun o kept => ?_) h
    split
    · obtain status | ⟨cause, status⟩ | status := o.account_status (d.oServed * d.dt) d.exhausted
        (conditionHolds (s.groupOnline o.group)) d.plantTime <;> rw [status]
      exacts [exhausted, done cause, kept]
    · exact kept

/-- What a dispatch can make of the states of the orders (R100 to R106). -/
theorem State.dispatch_statuses (sm : Sample) (expired : P .expired) (selected : modeServes s.evt.mode = true → P .active)
    (exhausted : P (.suspended .exhausted)) (done : ∀ cause, P (.done cause)) (h : ∀ o ∈ s.orl.orders, P o.status) :
    ∀ o ∈ (s.dispatch sm).orl.orders, P o.status := by
  have computed : ∀ o ∈ (s.computeDispatch sm).1.orl.orders, P o.status := by
    simp only [State.computeDispatch, State.withDse_orl, State.mapRotors_orl]
    refine State.demandRequest_statuses _ expired ?_ ?_
    · simpa using selected
    · simpa using h
  simp only [State.dispatch, State.consume, State.countEvent_orl, State.countThroughput_orl]
  refine State.accountOrder_statuses _ exhausted done ?_
  rwa [State.takeSetpoints_orl]

end

/-! ## The notice of the EVT at a dispatch (R44, R51) -/

/-- The dispatch adds no notice of the EVT's. -/
theorem State.dispatch_pendingEvent (s : State) (sm : Sample) :
    (s.dispatch sm).lif.pendingNotices.event = s.lif.pendingNotices.event := by
  have requested (s : State) (plant : Nat) :
      (s.demandRequest plant).lif.pendingNotices.event = s.lif.pendingNotices.event := by
    unfold State.demandRequest State.selectOrder
    split
    · split <;> simp
    · simp
  have accounted (s : State) (d : DispatchRecord) :
      (s.accountOrder d).lif.pendingNotices.event = s.lif.pendingNotices.event := by
    unfold State.accountOrder
    split <;> simp
  simp [State.dispatch, State.consume, State.computeDispatch, accounted, requested]

/-! ## The opening of an event (R44, R107) -/

theorem State.openEvent_pendingEvent (s : State) (entry : HostMode) (t : Tick) (df rocof : Int) (cause : Triggers) :
    (s.openEvent entry t df rocof cause).lif.pendingNotices.event =
      (s.lif.pendingNotices.event || s.lif.mask.event) := by
  simp [State.openEvent, State.suspendForEvent, State.addNotice_eq, NoticeSet.put, NoticeSet.has]

/-- The opening of an event leaves no order ACTIVE (R107). -/
theorem State.openEvent_notActive (s : State) (entry : HostMode) (t : Tick) (df rocof : Int) (cause : Triggers) :
    ∀ o ∈ (s.openEvent entry t df rocof cause).orl.orders, o.status ≠ .active := by
  rw [State.openEvent, State.addNotice_orl, State.suspendForEvent, State.reviseOrders_orders, List.forall_mem_map]
  intro o _
  split
  · exact nofun
  · next other => exact other

/-! ## The end of an event (R51, R108) -/

/-- The release of an order that the event has suspended (R108). -/
def Order.release (o : Order) : Order := if o.status = .suspended .event then { o with status := .waiting } else o

theorem Order.enteredId_release (o : Order) : enteredId o o.release = none := by
  apply enteredId_of_waiting
  unfold Order.release
  split
  · exact .inr rfl
  · exact .inl rfl

/-- All that the end of an event writes: its own block, the curves, the states of the orders it had suspended, and the
notice. -/
theorem State.endEvent_eq (s : State) (cause : EventEnd) (plant : Nat) :
    s.endEvent cause plant =
      { s with
        evt := { s.evt with
          mode := modeAfter s.evt cause
          savedMode := none
          history := updateOpen (fun r => { r with ended := some (plant, cause) }) s.evt.history
          recovery := none }
        dse := s.dse.activatePending
        orl := { s.orl with orders := s.orl.orders.map Order.release }
        lif := { s.lif with pendingNotices := { s.lif.pendingNotices with
          event := s.lif.pendingNotices.event || s.lif.mask.event } } } := by
  have released (u : State) :
      u.releaseEventOrders = u.withOrl { u.orl with orders := u.orl.orders.map Order.release } :=
    u.reviseOrders_of_enters_none Order.enteredId_release
  simp only [State.endEvent, released, State.addNotice_eq]
  rfl

theorem State.endEvent_pendingEvent (s : State) (cause : EventEnd) (plant : Nat) :
    (s.endEvent cause plant).lif.pendingNotices.event = (s.lif.pendingNotices.event || s.lif.mask.event) := by
  rw [State.endEvent_eq]

/-- The end of an event leaves no order suspended by it (R108). -/
theorem State.endEvent_notSuspended (s : State) (cause : EventEnd) (plant : Nat) :
    ∀ o ∈ (s.endEvent cause plant).orl.orders, o.status ≠ .suspended .event := by
  rw [State.endEvent_eq, List.forall_mem_map]
  intro o _
  unfold Order.release
  split
  · exact nofun
  · next other => exact other

end Sys2Proof.Machine
end

section
/-! A sample at the EVT (chapter 03): its triggers in the terms of the statements, what the EVT's handling of it leaves of
each block, and what the dispatch adds to that (R38 to R51). -/

namespace Sys2Proof.Machine

/-! ## Triggers (R39, R40) -/

theorem dfRegion_eq_low_iff (e : Evt) (df : Int) : dfRegion e df = .low ↔ df ≤ -(e.uThreshold : Int) := by
  unfold dfRegion
  split
  · next below => exact iff_of_true rfl below
  · next above => split <;> exact iff_of_false nofun above

theorem dfRegion_eq_high_iff (e : Evt) (df : Int) :
    dfRegion e df = .high ↔ ¬ df ≤ -(e.uThreshold : Int) ∧ (e.oThreshold : Int) ≤ df := by
  unfold dfRegion
  split
  · next below => exact iff_of_false nofun fun h => h.1 below
  · next above =>
    split
    · next high => exact iff_of_true rfl ⟨above, high⟩
    · next normal => exact iff_of_false nofun fun h => normal h.2

theorem rocofRegion_eq_fast_iff (e : Evt) (rocof : Int) :
    rocofRegion e rocof = .fast ↔ 0 < e.rocofThreshold ∧ e.rocofThreshold ≤ rocof.natAbs := by
  unfold rocofRegion
  split
  · next fast => exact iff_of_true rfl fast
  · next slow => exact iff_of_false nofun slow

theorem countsUnder_iff (m : EdgeMode) : countsUnder m = true ↔ m ≠ .overOnly := by cases m <;> decide
theorem countsOver_iff (m : EdgeMode) : countsOver m = true ↔ m ≠ .underOnly := by cases m <;> decide

/-- The triggers of a sample, by its deviation and rocof instead of its regions (R39, R40). -/
theorem triggersOf_classify (e : Evt) (df rocof : Int) :
    triggersOf e.edgeMode e.memory (classify e df rocof) = triggersAt e df rocof := by
  unfold triggersOf triggersAt
  cases e.memory with
  | none => rfl
  | some was =>
    simp only [classify, Triggers.mk.injEq]
    refine ⟨?_, ?_, ?_⟩ <;> rw [Bool.eq_iff_iff, decide_eq_true_iff]
    · simp only [Bool.and_eq_true, bne_iff_ne, beq_iff_eq, dfRegion_eq_low_iff, countsUnder_iff, and_assoc]
    · simp only [Bool.and_eq_true, bne_iff_ne, beq_iff_eq, dfRegion_eq_high_iff, countsOver_iff, and_assoc]
    · simp only [Bool.and_eq_true, beq_iff_eq, rocofRegion_eq_fast_iff]

theorem Triggers.any_iff (t : Triggers) : t.any = true ↔ t.anyHit := by
  simp [Triggers.any, Triggers.anyHit, or_assoc]

/-- A sample with no trigger, as the model tests it. -/
theorem Triggers.any_eq_false {t : Triggers} (h : ¬ t.anyHit) : t.any = false := by
  rwa [← Triggers.any_iff, Bool.not_eq_true] at h

/-! ## The sample that a command brings (R6) -/

/-- A command that brings a sample is its passage through a state that is s but for the tick count and the FMU. -/
theorem bringsSample_passage_withFmu {c : Instr} {s t : State} (brings : bringsSample c s) (he : exec c s = .next t) :
    ∃ tick u now valid, t = ((s.withTick tick).withFmu u).passage now valid := by
  obtain ⟨up, rfl | ⟨dt, rfl, next⟩⟩ := brings
  · rw [exec_missingEdgeTimeout, State.taking_up up, State.missingEdge_passage] at he
    cases he
    unfold State.advanceTo
    split
    · exact ⟨_, _, _, _, rfl⟩
    · exact ⟨s.tickCount, _, _, _, rfl⟩
  · rw [exec_zeroCrossingEdge, State.taking_up up] at he
    obtain ⟨last, present⟩ := Option.isSome_iff_exists.mp next
    rw [State.edge_next (s := s.advance dt) present] at he
    cases he
    exact ⟨_, _, _, _, rfl⟩

/-! ## What the FMU's measuring leaves for the EVT (R15) -/

@[simp] theorem State.measure_stu (s : State) (t : Tick) (valid : Bool) : (s.measure t valid).1.stu = s.stu := by
  simp [State.measure]

@[simp] theorem State.measure_plantTimeAt (s : State) (t at_ : Tick) (valid : Bool) :
    (s.measure t valid).1.plantTimeAt at_ = s.plantTimeAt at_ := by
  simp [State.plantTimeAt]

/-- Of the LIF the FMU adds its own notice at most. -/
theorem State.measure_lif (s : State) (t : Tick) (valid : Bool) :
    ∃ m, (s.measure t valid).1.lif =
      { s.lif with pendingNotices := { s.lif.pendingNotices with measurement := m } } :=
  ⟨_, by rw [State.measure, State.addMeasurementNoticeIf_eq]; rfl⟩

/-! ## The EVT's handling of a sample, by its measurement state (R38) -/

section
variable {s : State} {t : Tick} {valid : Bool}

theorem State.monitored_of_lost (h : (s.dispatched t valid).state = .lost) :
    s.monitored t valid = (s.measure t valid).1.evtLost t := by
  obtain ⟨⟨-, -, state⟩, -⟩ := s.dispatched_sample t valid
  obtain ⟨tick, -⟩ := s.fmu.sample_record t valid
  have lost : (s.measure t valid).2.state = .lost := state.symm.trans h
  have at_ : (s.measure t valid).2.tick = t := tick
  simp only [State.monitored, State.monitor, lost, at_]

theorem State.monitored_of_holding (h : (s.dispatched t valid).state = .holding) :
    s.monitored t valid = (s.measure t valid).1 := by
  obtain ⟨⟨-, -, state⟩, -⟩ := s.dispatched_sample t valid
  have holding : (s.measure t valid).2.state = .holding := state.symm.trans h
  simp only [State.monitored, State.monitor, holding]

theorem State.monitored_of_valid {df rocof : Int} (h : (s.dispatched t valid).state = .valid)
    (hdf : (s.dispatched t valid).df = some df) (hrocof : (s.dispatched t valid).rocof = some rocof) :
    s.monitored t valid = (s.measure t valid).1.evtValid t df rocof := by
  obtain ⟨⟨-, -, state⟩, df_eq, -, rocof_eq⟩ := s.dispatched_sample t valid
  obtain ⟨tick, -⟩ := s.fmu.sample_record t valid
  have isValid : (s.measure t valid).2.state = .valid := state.symm.trans h
  have at_ : (s.measure t valid).2.tick = t := tick
  have df' : (s.measure t valid).2.df = some df := df_eq.symm.trans hdf
  have rocof' : (s.measure t valid).2.rocof = some rocof := rocof_eq.symm.trans hrocof
  simp only [State.monitored, State.monitor, isValid, at_, df', rocof', Option.getD_some]

end

/-- A VALID sample carries df and rocof (R16). -/
theorem State.dispatched_present {s : State} {t : Tick} {valid : Bool} (h : (s.dispatched t valid).state = .valid) :
    ∃ df rocof, (s.dispatched t valid).df = some df ∧ (s.dispatched t valid).rocof = some rocof := by
  obtain ⟨⟨-, -, state⟩, hdf, -, hrocof⟩ := s.dispatched_sample t valid
  rw [hdf, hrocof]
  replace h := state.symm.trans h
  obtain ⟨_, _, fresh | held | ⟨-, lost⟩ | lost⟩ := Fmu.sample_cases t s.fmu valid
  · rw [fresh]; exact ⟨_, _, rfl, rfl⟩
  · rw [held]; exact ⟨_, _, rfl, rfl⟩
  · rw [lost] at h; cases h
  · rw [lost] at h; cases h

/-! ### By the mode (R42 to R50) -/

/-- s with the region memory rewritten (R38, R40). -/
def State.remember (s : State) (memory : Option Regions) : State := s.withEvt { s.evt with memory := memory }

section
variable {s : State} {t : Tick} {df rocof : Int}

/-- Outside EVENT a record in LOST makes the region memory unknown, and that is all (R38). -/
theorem State.evtLost_outsideEvent (mode : s.evt.mode ≠ .event) : s.evtLost t = s.remember none := by
  simp only [State.evtLost]
  split
  case h_4 event => exact absurd event mode
  all_goals rfl

theorem State.evtLost_event (mode : s.evt.mode = .event) :
    s.evtLost t = (s.remember none).endEvent .lost (s.plantTimeAt t) := by
  simp only [State.evtLost, mode, State.remember]

/-- A VALID sample in GUARD or ARMED with a trigger opens an event (R42, R43). -/
theorem State.evtValid_opens {entry : HostMode} (mode : s.evt.mode = .guard ∧ entry = .guard ∨
      s.evt.mode = .armed ∧ entry = .armed) (hit : (triggersAt s.evt df rocof).anyHit) :
    s.evtValid t df rocof =
      (s.remember (some (classify s.evt df rocof))).openEvent entry t df rocof (triggersAt s.evt df rocof) := by
  obtain ⟨mode, rfl⟩ | ⟨mode, rfl⟩ := mode <;>
    simp only [State.evtValid, mode, triggersOf_classify, (Triggers.any_iff _).mpr hit, if_true, State.remember]

/-- A VALID sample outside EVENT that opens no event is classified into the region memory, and that is all (R42). -/
theorem State.evtValid_calm (mode : s.evt.mode ≠ .event)
    (calm : s.evt.mode = .guard ∨ s.evt.mode = .armed → ¬ (triggersAt s.evt df rocof).anyHit) :
    s.evtValid t df rocof = s.remember (some (classify s.evt df rocof)) := by
  simp only [State.evtValid, triggersOf_classify]
  split
  case h_2 guard => rw [Triggers.any_eq_false (calm (.inl guard))]; rfl
  case h_3 armed => rw [Triggers.any_eq_false (calm (.inr armed))]; rfl
  case h_4 event => exact absurd event mode
  all_goals rfl

theorem State.evtValid_event (mode : s.evt.mode = .event) :
    s.evtValid t df rocof =
      (s.remember (some (classify s.evt df rocof))).duringEvent t df (triggersAt s.evt df rocof).any := by
  simp only [State.evtValid, mode, triggersOf_classify, State.remember]

end

/-- A VALID sample leaves its regions in the memory, in every mode (R40). -/
theorem State.evtValid_memory (s : State) (t : Tick) (df rocof : Int) :
    (s.evtValid t df rocof).evt.memory = some (classify s.evt df rocof) := by
  have during (u : State) (hit : Bool) : (u.duringEvent t df hit).evt.memory = u.evt.memory := by
    simp only [State.duringEvent]
    split
    · rfl
    · split
      · rw [State.endEvent_evt]; rfl
      · rfl
  simp only [State.evtValid]
  split
  case h_1 | h_5 => rfl
  case h_4 => rw [during]; rfl
  all_goals split
  case h_2.isTrue | h_3.isTrue => rw [State.openEvent_evt]; rfl
  all_goals rfl

/-! ## What the dispatch adds (R47, R92) -/

/-- Closed records take no dispatch result (R47). -/
theorem updateOpen_of_all_closed {history : List EventRecord} (closed : ∀ r ∈ history, r.ended.isSome = true)
    (f : EventRecord → EventRecord) : updateOpen f history = history := by
  induction history using List.reverseRecOn with
  | nil => rfl
  | append_singleton older r =>
    have ended : r.ended.isNone = false := Option.isNone_eq_false_iff.mpr (closed r (by simp))
    rw [updateOpen_concat, ended]
    rfl

/-- The dispatch result is counted into an open record as R47 says. -/
theorem State.passage_history_open {s : State} {t : Tick} {valid : Bool} {older : List EventRecord} {r : EventRecord}
    (history : (s.monitored t valid).evt.history = older ++ [r]) (isOpen : r.ended = none) :
    (s.passage t valid).evt.history = older ++ [resultAdded r (s.dispatched t valid)] := by
  rw [State.passage_evt, history]
  simp only [updateOpen_concat, isOpen]
  rfl

/-- With every record closed the dispatch leaves the EVT as it stands. -/
theorem State.passage_evt_closed {s : State} {t : Tick} {valid : Bool}
    (closed : ∀ r ∈ (s.monitored t valid).evt.history, r.ended.isSome = true) :
    (s.passage t valid).evt = (s.monitored t valid).evt := by
  rw [State.passage_evt, updateOpen_of_all_closed closed]

end Sys2Proof.Machine
end

section
/-! The statements about samples at the EVT (chapter 03): O13, O14 and O15. A command that brings a sample is the sample's
passage through a state u that differs from s in the tick count and the FMU alone; each statement is first proved of that
passage. -/

namespace Sys2Proof.Machine

/-! ## The passage of a sample, for the EVT, the orders and the notices -/

section
variable {u : State} {now : Tick} {valid : Bool}

/-- The dispatch record carries the sample's time (R8, R16). -/
theorem State.dispatched_tick : (u.dispatched now valid).tick = now := by
  obtain ⟨⟨tick, -, -⟩, -⟩ := u.dispatched_sample now valid
  obtain ⟨at_, -⟩ := u.fmu.sample_record now valid
  exact tick.trans at_

theorem State.passage_memory : (u.passage now valid).evt.memory = (u.monitored now valid).evt.memory := by
  rw [State.passage_evt]

/-- The dispatch adds no notice of the EVT's. -/
theorem State.passage_pendingEvent :
    (u.passage now valid).lif.pendingNotices.event = (u.monitored now valid).lif.pendingNotices.event :=
  State.dispatch_pendingEvent _ _

/-- What the dispatch makes of the states of the orders that the EVT's handling has left. -/
theorem State.passage_statuses {P : OrderStatus → Prop} (expired : P .expired)
    (selected : modeServes (u.monitored now valid).evt.mode = true → P .active) (exhausted : P (.suspended .exhausted))
    (done : ∀ cause, P (.done cause)) (h : ∀ o ∈ (u.monitored now valid).orl.orders, P o.status) :
    ∀ o ∈ (u.passage now valid).orl.orders, P o.status :=
  State.dispatch_statuses _ expired selected exhausted done h

/-- The EVT finds its notice and the mask as they were: the FMU's measuring touches neither. -/
theorem State.measure_eventNotice :
    (u.measure now valid).1.lif.pendingNotices.event = u.lif.pendingNotices.event ∧
      (u.measure now valid).1.lif.mask = u.lif.mask := by
  obtain ⟨m, lif⟩ := u.measure_lif now valid
  rw [lif]
  exact ⟨rfl, rfl⟩

/-! ## A sample that is classified alone (R38 to R42) -/

/-- A sample that opens no event outside EVENT leaves nothing of the EVT changed but the region memory (R42). -/
theorem State.passage_evt_of_remember {memory : Option Regions} (closed : ∀ r ∈ u.evt.history, r.ended.isSome = true)
    (remembered : u.monitored now valid = (u.measure now valid).1.remember memory) :
    (u.passage now valid).evt = { u.evt with memory := (u.passage now valid).evt.memory } := by
  have evt : (u.monitored now valid).evt = { u.evt with memory := memory } := by
    rw [remembered, State.remember, State.withEvt_evt, State.measure_evt]
  have kept : (u.passage now valid).evt = { u.evt with memory := memory } := by
    rw [State.passage_evt_closed (by rw [evt]; exact closed), evt]
  rw [kept]

/-- Outside EVENT nothing else of the EVT changes, unless a trigger meets GUARD or ARMED (R42). -/
theorem State.passage_evt_outsideEvent (inv : ModeInv u) (mode : u.evt.mode ≠ .event)
    (calm : ∀ df rocof, (u.dispatched now valid).state = .valid → (u.dispatched now valid).df = some df →
      (u.dispatched now valid).rocof = some rocof → u.evt.mode = .guard ∨ u.evt.mode = .armed →
        ¬ (triggersAt u.evt df rocof).anyHit) :
    (u.passage now valid).evt = { u.evt with memory := (u.passage now valid).evt.memory } := by
  obtain ⟨-, -, -, history⟩ := inv.outsideEvent mode
  have measured : (u.measure now valid).1.evt.mode ≠ .event := by rw [State.measure_evt]; exact mode
  cases state : (u.dispatched now valid).state with
  | lost =>
    exact State.passage_evt_of_remember history.all_closed
      ((State.monitored_of_lost state).trans (State.evtLost_outsideEvent measured))
  | holding => exact State.passage_evt_of_remember history.all_closed (State.monitored_of_holding state)
  | valid =>
    obtain ⟨df, rocof, hdf, hrocof⟩ := State.dispatched_present state
    refine State.passage_evt_of_remember history.all_closed
      ((State.monitored_of_valid state hdf hrocof).trans (State.evtValid_calm measured ?_))
    rw [State.measure_evt]
    exact calm df rocof state hdf hrocof

end

/-- Settles O13: the memory by the measurement state; the rest of the EVT by what the handling of a sample outside EVENT
leaves, and by the history, in which no record is open there. -/
theorem sampleClassified : Obligations.SampleClassified := by
  intro c s t d brings he latest
  obtain ⟨tick, f, now, valid, rfl⟩ := bringsSample_passage_withFmu brings he
  rw [State.passage_latest, Option.some.injEq] at latest
  subst latest
  refine ⟨fun lost => ?_, fun holding => ?_, fun df rocof isValid hdf hrocof => ?_, fun inv => ?_⟩
  · rw [State.passage_memory, State.monitored_of_lost lost, State.evtLost_memory]
  · rw [State.passage_memory, State.monitored_of_holding holding, State.measure_evt]
    rfl
  · rw [State.passage_memory, State.monitored_of_valid isValid hdf hrocof, State.evtValid_memory, State.measure_evt]
    rfl
  · exact State.passage_evt_outsideEvent (u := (s.withTick tick).withFmu f)
      (ControlFrame.modeInv (s := s) ⟨rfl, rfl⟩ inv)

/-! ## The opening of an event (R43, R44) -/

/-- The oldest of four records gives way to the new one (R44). -/
theorem appendNewest_four {α : Type} {l : List α} (h : l.length ≤ 4) (x : α) :
    appendNewest 4 l x = (if l.length = 4 then l.drop 1 else l) ++ [x] := by
  unfold appendNewest
  split
  · next full => rw [full, List.drop_append_of_le_length (by omega)]
  · next room => rw [show l.length + 1 - 4 = 0 by omega, List.drop_zero]

section
variable {u : State} {now : Tick} {valid : Bool} {df rocof : Int} {entry : HostMode}
  (isValid : (u.dispatched now valid).state = .valid) (hdf : (u.dispatched now valid).df = some df)
  (hrocof : (u.dispatched now valid).rocof = some rocof) (hit : (triggersAt u.evt df rocof).anyHit)
  (mode : (u.evt.mode = .guard ∧ entry = .guard) ∨ (u.evt.mode = .armed ∧ entry = .armed))
include isValid hdf hrocof hit mode

theorem State.monitored_opens :
    u.monitored now valid =
      ((u.measure now valid).1.remember (some (classify u.evt df rocof))).openEvent entry now df rocof
        (triggersAt u.evt df rocof) := by
  rw [State.monitored_of_valid isValid hdf hrocof, State.evtValid_opens] <;> rw [State.measure_evt]
  exacts [mode, hit]

/-- What is left of the EVT when it has opened an event (R43, R44). -/
theorem State.monitored_opens_evt (length : u.evt.history.length ≤ 4) :
    (u.monitored now valid).evt =
      { u.evt with
        mode := .event
        savedMode := some entry
        memory := some (classify u.evt df rocof)
        recovery := none
        eventNumber := nextEventNumber u.evt.eventNumber
        history := (if u.evt.history.length = 4 then u.evt.history.drop 1 else u.evt.history) ++
          [openRecord (nextEventNumber u.evt.eventNumber) (triggersAt u.evt df rocof) entry (u.plantTimeAt now) df
            rocof] } := by
  have plant : ((u.measure now valid).1.remember (some (classify u.evt df rocof))).plantTimeAt now =
      u.plantTimeAt now := u.measure_plantTimeAt now now valid
  rw [State.monitored_opens isValid hdf hrocof hit mode, State.openEvent_evt, plant, ← appendNewest_four length]
  simp only [State.remember, State.withEvt_evt, State.measure_evt]

/-- The dispatch of the same sample is counted into the record just opened (R47). -/
theorem State.passage_opens_evt (length : u.evt.history.length ≤ 4) :
    (u.passage now valid).evt =
      { u.evt with
        mode := .event
        savedMode := some entry
        memory := some (classify u.evt df rocof)
        recovery := none
        eventNumber := nextEventNumber u.evt.eventNumber
        history := (if u.evt.history.length = 4 then u.evt.history.drop 1 else u.evt.history) ++
          [resultAdded
            (openRecord (nextEventNumber u.evt.eventNumber) (triggersAt u.evt df rocof) entry (u.plantTimeAt now) df
              rocof)
            (u.dispatched now valid)] } := by
  rw [State.passage_evt, State.monitored_opens_evt isValid hdf hrocof hit mode length]
  simp only [updateOpen_concat]
  rfl

theorem State.passage_opens_pendingEvent :
    (u.passage now valid).lif.pendingNotices.event = (u.lif.pendingNotices.event || u.lif.mask.event) := by
  obtain ⟨pending, mask⟩ := u.measure_eventNotice (now := now) (valid := valid)
  rw [State.passage_pendingEvent, State.monitored_opens isValid hdf hrocof hit mode, State.openEvent_pendingEvent,
    State.remember, State.withEvt_lif, pending, mask]

/-- The dispatch activates no order in EVENT (R102, R107). -/
theorem State.passage_opens_notActive (length : u.evt.history.length ≤ 4) :
    ∀ o ∈ (u.passage now valid).orl.orders, o.status ≠ .active := by
  refine State.passage_statuses (P := (· ≠ .active)) nofun ?_ nofun nofun ?_
  · rw [State.monitored_opens_evt isValid hdf hrocof hit mode length]; exact nofun
  · rw [State.monitored_opens isValid hdf hrocof hit mode]; exact State.openEvent_notActive _ _ _ _ _ _

end

/-- Settles O14: what `openEvent` leaves of the EVT, the orders and the notices, and then the dispatch, which counts its
result into the record just opened. -/
theorem triggerOpensEvent : Obligations.TriggerOpensEvent := by
  intro c s t d df rocof entry brings inv he latest isValid hdf hrocof hit mode
  obtain ⟨tick, f, now, valid, rfl⟩ := bringsSample_passage_withFmu brings he
  rw [State.passage_latest, Option.some.injEq] at latest
  subst latest
  have evt := State.passage_opens_evt isValid hdf hrocof hit mode inv.length
  rw [State.dispatched_tick, evt]
  exact ⟨rfl, rfl, rfl, rfl, rfl, State.passage_opens_notActive isValid hdf hrocof hit mode inv.length,
    State.passage_opens_pendingEvent isValid hdf hrocof hit mode⟩

/-! ## A sample during an event (R45 to R51) -/

@[simp] theorem Dse.activatePending_curve (d : Dse) : d.activatePending.curve = d.pendingCurve.getD d.curve := by
  unfold Dse.activatePending
  split
  · next absent => rw [absent]; rfl
  · next present => rw [present]; rfl

/-- An event that is not ended by the stop input restores the saved mode (R51). -/
theorem modeAfter_of_saved {e : Evt} {saved : HostMode} (h : e.savedMode = some saved) {cause : EventEnd}
    (notStop : cause ≠ .stop) : modeAfter e cause = modeOfHost saved := by
  cases cause
  case stop => exact absurd rfl notStop
  all_goals simp only [modeAfter, h, Option.getD_some]

section
variable {u : State} {now : Tick} {valid : Bool} {closed : List EventRecord} {r : EventRecord}

/-- The event goes on when the EVT has followed the sample without closing the record. -/
theorem State.passage_goesOn {e : Evt} (followed : u.monitored now valid = (u.measure now valid).1.withEvt e)
    (mode : e.mode = .event ∧ e.savedMode = u.evt.savedMode) (record : e.history = closed ++ [r])
    (isOpen : r.ended = none) :
    EventGoesOn u (u.passage now valid) closed r e.recovery (u.dispatched now valid) := by
  have evt : (u.monitored now valid).evt = e := by rw [followed, State.withEvt_evt]
  have dse : (u.monitored now valid).dse = u.dse := by rw [followed, State.withEvt_dse, State.measure_dse]
  refine ⟨?_, ?_, ?_, ?_⟩
  · rw [State.passage_evt, evt]; exact mode
  · exact State.passage_history_open (by rw [evt, record]) isOpen
  · rw [State.passage_evt, evt]
  · rw [State.passage_dse, dse]; exact ⟨rfl, rfl⟩

/-- The event is over when the EVT has closed the record; the dispatch concerns neither it nor the curves. -/
theorem State.passage_eventOver {e : Evt} {cause : EventEnd} {plant : Nat}
    (ended : u.monitored now valid = ((u.measure now valid).1.withEvt e).endEvent cause plant)
    (older : ∀ x ∈ closed, x.ended.isSome = true) (record : e.history = closed ++ [r]) (isOpen : r.ended = none)
    {saved : HostMode} (savedMode : e.savedMode = some saved) (cause_ne : cause ≠ .stop) :
    EventOver u (u.passage now valid) closed r cause plant (modeOfHost saved) := by
  have history : (u.monitored now valid).evt.history = closed ++ [{ r with ended := some (plant, cause) }] := by
    rw [ended, State.endEvent_evt]
    simp only [State.withEvt_evt, record, updateOpen_concat, isOpen]
    rfl
  have evt : (u.passage now valid).evt = (u.monitored now valid).evt := by
    refine State.passage_evt_closed fun x listed => ?_
    rw [history] at listed
    obtain old | rfl := List.mem_append.mp listed |>.imp_right List.mem_singleton.mp
    · exact older x old
    · rfl
  have dse : (u.monitored now valid).dse = u.dse.activatePending := by
    rw [ended, State.endEvent_dse, State.withEvt_dse, State.measure_dse]
  obtain ⟨pending, mask⟩ := u.measure_eventNotice (now := now) (valid := valid)
  refine ⟨?_, ?_, ?_, ?_, ?_⟩
  · rw [evt, ended, State.endEvent_evt]; exact ⟨modeAfter_of_saved savedMode cause_ne, rfl, rfl⟩
  · rw [evt, history]
  · rw [State.passage_dse, dse]
    exact ⟨Dse.activatePending_curve _, Dse.activatePending_pendingCurve _⟩
  · refine State.passage_statuses (P := (· ≠ .suspended .event)) nofun (fun _ => nofun) nofun nofun ?_
    rw [ended]
    exact State.endEvent_notSuspended _ _ _
  · rw [State.passage_pendingEvent, ended, State.endEvent_pendingEvent, State.withEvt_lif, pending, mask]

/-! ### A HOLDING sample, and one in LOST (R38, R50) -/

theorem State.monitored_holds (holding : (u.dispatched now valid).state = .holding) :
    u.monitored now valid = (u.measure now valid).1.withEvt u.evt := by
  rw [State.monitored_of_holding holding, ← State.measure_evt u now valid]
  rfl

theorem State.monitored_loses (lost : (u.dispatched now valid).state = .lost) (mode : u.evt.mode = .event) :
    u.monitored now valid =
      ((u.measure now valid).1.withEvt { u.evt with memory := none }).endEvent .lost (u.plantTimeAt now) := by
  rw [State.monitored_of_lost lost, State.evtLost_event (by rw [State.measure_evt]; exact mode),
    State.measure_plantTimeAt, State.remember, State.measure_evt]

/-! ### A VALID sample (R45, R46, R48, R49) -/

/-- The open record once a VALID sample's deviation has been followed (R46). -/
def EventRecord.followed (r : EventRecord) (df : Int) : EventRecord :=
  { r with nadir := min r.nadir df, zenith := max r.zenith df }

theorem Evt.retrigger_follow_history {e : Evt} (history : e.history = closed ++ [r]) (isOpen : r.ended = none)
    (df : Int) : (e.retrigger.follow df).history =
      closed ++ [{ r.followed df with retriggers := min 255 (r.retriggers + 1) }] := by
  simp [Evt.retrigger, Evt.follow, history, isOpen, EventRecord.followed]

/-- The EVT in EVENT after a VALID sample that did not trigger, before the event ends if it does: classified, followed,
and tested for recovery (R40, R46, R48). -/
def Evt.tested (e : Evt) (t : Tick) (df rocof : Int) : Evt :=
  ({ e with memory := some (classify e df rocof) }.follow df).recoveryTest t df

theorem Evt.tested_history {e : Evt} (history : e.history = closed ++ [r]) (isOpen : r.ended = none) (t : Tick)
    (df rocof : Int) : (e.tested t df rocof).history = closed ++ [r.followed df] := by
  simp [Evt.tested, Evt.recoveryTest, Evt.follow, history, isOpen, EventRecord.followed]

/-- The recovery timer stops beyond the band, and within it starts or goes on (R48). -/
theorem Evt.tested_recovery (e : Evt) (t : Tick) (df rocof : Int) :
    (e.tested t df rocof).recovery = if df.natAbs ≤ e.band then some (e.recovery.getD t) else none := by
  unfold Evt.tested Evt.recoveryTest Evt.follow
  cases e.recovery <;> rfl

/-- The hold time has passed with the recovery timer running (R49). -/
theorem Evt.tested_recovered (e : Evt) (t : Tick) (df rocof : Int) :
    (e.tested t df rocof).recovered t = true ↔
      df.natAbs ≤ e.band ∧ e.hold * 10000 ≤ (t - e.recovery.getD t).toNat := by
  unfold Evt.recovered
  rw [Evt.tested_recovery]
  by_cases within : df.natAbs ≤ e.band
  · rw [if_pos within, and_iff_right within]; exact decide_eq_true_iff
  · rw [if_neg within]; exact iff_of_false nofun fun h => within h.1

section
variable {df rocof : Int} (isValid : (u.dispatched now valid).state = .valid)
  (hdf : (u.dispatched now valid).df = some df) (hrocof : (u.dispatched now valid).rocof = some rocof)
  (mode : u.evt.mode = .event)
include isValid hdf hrocof mode

theorem State.monitored_event :
    u.monitored now valid =
      ((u.measure now valid).1.remember (some (classify u.evt df rocof))).duringEvent now df
        (triggersAt u.evt df rocof).any := by
  rw [State.monitored_of_valid isValid hdf hrocof, State.evtValid_event] <;> rw [State.measure_evt]
  exact mode

/-- A retrigger (R45). -/
theorem State.monitored_retriggers (hit : (triggersAt u.evt df rocof).anyHit) :
    u.monitored now valid = (u.measure now valid).1.withEvt
      ({ u.evt with memory := some (classify u.evt df rocof) }.retrigger.follow df) := by
  rw [State.monitored_event isValid hdf hrocof mode, (Triggers.any_iff _).mpr hit, ← State.measure_evt u now valid]
  rfl

section
variable (calm : ¬ (triggersAt u.evt df rocof).anyHit)
include calm

/-- Without a trigger the recovery test is made (R48, R49). -/
theorem State.monitored_recoveryTest :
    u.monitored now valid =
      if (u.evt.tested now df rocof).recovered now then
        ((u.measure now valid).1.withEvt (u.evt.tested now df rocof)).endEvent .recovered (u.plantTimeAt now)
      else (u.measure now valid).1.withEvt (u.evt.tested now df rocof) := by
  rw [State.monitored_event isValid hdf hrocof mode, Triggers.any_eq_false calm, ← State.measure_evt u now valid,
    ← State.measure_plantTimeAt u now now valid]
  rfl

/-- Without a recovery the event goes on, the recovery timer as the test leaves it (R48). -/
theorem State.passage_notRecovered (history : u.evt.history = closed ++ [r]) (isOpen : r.ended = none)
    {recovery : Option Tick}
    (timer : (if df.natAbs ≤ u.evt.band then some (u.evt.recovery.getD now) else none) = recovery)
    (notYet : ¬ (df.natAbs ≤ u.evt.band ∧ u.evt.hold * 10000 ≤ (now - u.evt.recovery.getD now).toNat)) :
    EventGoesOn u (u.passage now valid) closed (r.followed df) recovery (u.dispatched now valid) := by
  have tested := State.monitored_recoveryTest isValid hdf hrocof mode calm
  rw [if_neg (mt (Evt.tested_recovered _ now df rocof).mp notYet)] at tested
  rw [← timer, ← Evt.tested_recovery u.evt now df rocof]
  exact State.passage_goesOn tested ⟨mode, rfl⟩ (Evt.tested_history history isOpen now df rocof) isOpen

/-- Once the hold time has passed within the band the event is over (R49). -/
theorem State.passage_recovered (history : u.evt.history = closed ++ [r]) (isOpen : r.ended = none)
    (older : ∀ x ∈ closed, x.ended.isSome = true) {saved : HostMode} (savedMode : u.evt.savedMode = some saved)
    (passed : df.natAbs ≤ u.evt.band ∧ u.evt.hold * 10000 ≤ (now - u.evt.recovery.getD now).toNat) :
    EventOver u (u.passage now valid) closed (r.followed df) .recovered (u.plantTimeAt now) (modeOfHost saved) := by
  have tested := State.monitored_recoveryTest isValid hdf hrocof mode calm
  rw [if_pos ((Evt.tested_recovered _ now df rocof).mpr passed)] at tested
  exact State.passage_eventOver tested older (Evt.tested_history history isOpen now df rocof) isOpen savedMode
    nofun

end

end

end

/-- What the statement says of the event is no matter of the tick count and the FMU. -/
theorem EventGoesOn.of_withFmu {s t : State} {tick : Tick} {f : Fmu} {closed : List EventRecord} {r : EventRecord}
    {recovery : Option Tick} {d : DispatchRecord}
    (h : EventGoesOn ((s.withTick tick).withFmu f) t closed r recovery d) : EventGoesOn s t closed r recovery d :=
  ⟨h.mode, h.record, h.timer, h.curve⟩

theorem EventOver.of_withFmu {s t : State} {tick at_ : Tick} {f : Fmu} {closed : List EventRecord} {r : EventRecord}
    {cause : EventEnd} {mode : Mode}
    (h : EventOver ((s.withTick tick).withFmu f) t closed r cause (((s.withTick tick).withFmu f).plantTimeAt at_) mode) :
    EventOver s t closed r cause (s.plantTimeAt at_) mode :=
  ⟨h.mode, h.record, h.curve, h.orders, h.notice⟩

/-- Settles O15, by the measurement state, the trigger and the band: the event goes on, or is over. -/
theorem eventRunsAndEnds : Obligations.EventRunsAndEnds := by
  intro c s t d closed r saved brings inv mode history savedMode he latest
  obtain ⟨tick, f, now, valid, rfl⟩ := bringsSample_passage_withFmu brings he
  rw [State.passage_latest, Option.some.injEq] at latest
  subst latest
  obtain ⟨-, older, newest⟩ := HistoryFits.concat_iff.mp (history ▸ inv.history)
  have isOpen : r.ended = none := by simpa [mode] using newest
  rw [State.dispatched_tick]
  refine ⟨fun holding => ?_, fun lost => ?_, fun df rocof isValid hdf hrocof => ⟨fun hit => ?_, fun calm beyond => ?_,
    fun calm within => ?_⟩⟩
  · exact .of_withFmu (State.passage_goesOn (State.monitored_holds holding) ⟨mode, rfl⟩ history isOpen)
  · exact .of_withFmu (State.passage_eventOver (State.monitored_loses lost mode) older history isOpen savedMode nofun)
  · exact .of_withFmu (State.passage_goesOn (State.monitored_retriggers isValid hdf hrocof mode hit) ⟨mode, rfl⟩
      (Evt.retrigger_follow_history history isOpen df) isOpen)
  · exact .of_withFmu (State.passage_notRecovered isValid hdf hrocof mode calm history isOpen
      (if_neg (Nat.not_le.mpr beyond)) fun h => Nat.not_le.mpr beyond h.1)
  · intro start
    by_cases passed : s.evt.hold * 10000 ≤ (now - start).toNat
    · rw [if_pos passed]
      exact .of_withFmu (State.passage_recovered isValid hdf hrocof mode calm history isOpen older savedMode
        ⟨within, passed⟩)
    · rw [if_neg passed]
      exact .of_withFmu (State.passage_notRecovered isValid hdf hrocof mode calm history isOpen (if_pos within)
        fun h => passed h.2)

end Sys2Proof.Machine
end

section
/-! SET MODE (R35): O31. The owner has one answer for a field that names no mode of the host's choice, and one for each of
the three situations of the bank: a mode of the host's choice, EVENT, HALTED. -/

namespace Sys2Proof.Machine

theorem hostModeOfCode_eq_none {v : Nat} (h : 2 < v) : hostModeOfCode v = none := by
  unfold hostModeOfCode
  split
  case h_4 => rfl
  all_goals omega

theorem hostModeOfCode_hostModeCode (m : HostMode) : hostModeOfCode (hostModeCode m) = some m := by cases m <;> rfl

section
variable {s : State} {p : List Byte}

theorem ownSetMode_badValue (unknown : hostModeOfCode (field p 0 1) = none) :
    ownSetMode s p = refuse s .badValue := by
  simp only [ownSetMode, unknown]

variable {wanted : HostMode} (known : hostModeOfCode (field p 0 1) = some wanted)
include known

/-- In IDLE, GUARD and ARMED the mode is set at once. -/
theorem ownSetMode_sets (mode : s.evt.mode = .idle ∨ s.evt.mode = .guard ∨ s.evt.mode = .armed) :
    ownSetMode s p = accept (s.withEvt { s.evt with mode := modeOfHost wanted }) false := by
  obtain mode | mode | mode := mode <;> simp only [ownSetMode, known, mode]

/-- In EVENT the saved mode is set. -/
theorem ownSetMode_saves (mode : s.evt.mode = .event) :
    ownSetMode s p = accept (s.withEvt { s.evt with savedMode := some wanted }) false := by
  simp only [ownSetMode, known, mode]

theorem ownSetMode_halted (mode : s.evt.mode = .halted) : ownSetMode s p = refuse s .halted := by
  simp only [ownSetMode, known, mode]

end

/-- Settles O31, by the four answers of the owner. -/
theorem setMode : Obligations.SetMode := by
  intro s tag p wanted asks
  rw [exec_setMode, State.taking_request asks rfl ownSetMode]
  refine ⟨fun unknown => ?_, fun code => ?_⟩
  · rw [ownSetMode_badValue (hostModeOfCode_eq_none unknown)]
    rfl
  · have known : hostModeOfCode (field p 0 1) = some wanted := by
      rw [← hostModeOfCode_hostModeCode wanted, code]
      cases wanted <;> rfl
    refine ⟨fun mode => ?_, fun mode => ?_, fun mode => ?_⟩
    · rw [ownSetMode_sets known mode]
      cases wanted <;> rfl
    · rw [ownSetMode_saves known mode]
      rfl
    · rw [ownSetMode_halted known mode]
      rfl

end Sys2Proof.Machine
end

section
/-! The bank stop input (R52, R53, R111, R140): O23. First one trip by the stop input and its repetition over the slots; then
what a stop assertion does after the EVT has halted the bank; then the halting itself, out of EVENT and in it. -/

namespace Sys2Proof.Machine

/-! ## Trips by the stop input (R139, R140) -/

/-- A noted slot joins the change set while the kind is enabled (R144). -/
theorem State.noteRotor_rsq (s : State) (i : Slot) :
    (s.noteRotor i).rsq =
      { s.rsq with changed := if s.lif.mask.rotor then insertAscending i s.rsq.changed else s.rsq.changed } := by
  have enabled : s.lif.mask.has .rotor = s.lif.mask.rotor := rfl
  unfold State.noteRotor
  rw [enabled]
  split
  · rw [State.addNotice_rsq, State.withRsq_rsq]
  · rfl

/-- ROTOR CHANGE is then pending. -/
theorem State.noteRotor_lif (s : State) (i : Slot) :
    (s.noteRotor i).lif = { s.lif with pendingNotices := { s.lif.pendingNotices with
      rotor := s.lif.pendingNotices.rotor || s.lif.mask.rotor } } := by
  have enabled : s.lif.mask.has .rotor = s.lif.mask.rotor := rfl
  unfold State.noteRotor
  rw [enabled]
  split
  · rw [State.addNotice_eq]; rfl
  · next masked => rw [Bool.eq_false_of_not_eq_true masked, Bool.or_false]

/-- From s to t trips have touched no block but the rotor records, the RSQ, the pending ROTOR CHANGE notice and the flag
ROTOR_TRIP (R139, R144). -/
structure TripFrame (s t : State) : Prop where
  bank : BankFrame s t
  rest : t.tickCount = s.tickCount ∧ t.rbi = s.rbi ∧ t.orl = s.orl
  lif : ∃ b, t.lif = { s.lif with pendingNotices := { s.lif.pendingNotices with rotor := b } }
  stu : ∃ b, t.stu = { s.stu with flags := { s.stu.flags with rotorTrip := b } }

/-- From s to t the stop input has tripped the slots of a set, and no other slot has been touched (R139, R140). -/
structure StopTrips (s t : State) (tripped : Slot → Prop) : Prop where
  record : ∀ i, tripped i → t.rotor i = trippedRecord (s.rotor i) .stop (s.rotor i).latched
  road : ∀ i, tripped i → offRoad t i
  kept : ∀ i, ¬ tripped i → t.rotor i = s.rotor i ∧ t.rsq.timer i = s.rsq.timer i
  spinUp : ∀ i ∈ t.rsq.spinUpQueue, i ∈ s.rsq.spinUpQueue
  sync : ∀ i ∈ t.rsq.syncQueue, i ∈ s.rsq.syncQueue
  unit : ∀ i, t.rsq.syncUnit = some i → s.rsq.syncUnit = some i
  changed : ∀ i, i ∈ t.rsq.changed ↔ i ∈ s.rsq.changed ∨ (s.lif.mask.rotor = true ∧ tripped i)
  mask : t.lif.mask = s.lif.mask
  notice : t.lif.pendingNotices.rotor = true ↔
    s.lif.pendingNotices.rotor = true ∨ (s.lif.mask.rotor = true ∧ ∃ i, tripped i)
  flag : t.stu.flags.rotorTrip = true ↔ s.stu.flags.rotorTrip = true ∨ ∃ i, tripped i

/-- A tripped record differs in its state, its cause, and what has been zeroed. -/
theorem State.rotor_tripOnly (s : State) (i j : Slot) (cause : RotorCause) :
    (s.tripOnly i cause).rotor j =
      if j = i then trippedRecord (s.rotor i) cause (s.rotor i).latched else s.rotor j := by
  have changed : (s.tripOnly i cause).rotor j =
      (((s.leaveRoad i).setRotor i ((s.leaveRoad i).rotor i).zeroed).changeRotor i .tripped (some cause)).rotor j := rfl
  rw [changed, State.rotor_changeRotor]
  split
  · rw [State.rotor_setRotor_self]; rfl
  · next other => rw [State.rotor_setRotor_ne _ other]; rfl

theorem State.tripOnly_rsq (s : State) (i : Slot) (cause : RotorCause) :
    (s.tripOnly i cause).rsq =
      { s.rsq.leave i with
        changed := if s.lif.mask.rotor then insertAscending i s.rsq.changed else s.rsq.changed } :=
  State.noteRotor_rsq _ i

theorem State.tripOnly_lif (s : State) (i : Slot) (cause : RotorCause) :
    (s.tripOnly i cause).lif = { s.lif with pendingNotices := { s.lif.pendingNotices with
      rotor := s.lif.pendingNotices.rotor || s.lif.mask.rotor } } :=
  State.noteRotor_lif _ i

theorem State.tripOnly_stu (s : State) (i : Slot) (cause : RotorCause) :
    (s.tripOnly i cause).stu = { s.stu with flags := { s.stu.flags with rotorTrip := true } } := by
  simp only [State.tripOnly, State.raise, State.withStu_stu, State.changeRotor_stu, State.setRotor_stu,
    State.leaveRoad_stu]
  rfl

/-- Two states agree in what `StopTrips` speaks of. -/
structure SameRoad (s s' : State) : Prop where
  rotors : s'.rotors = s.rotors
  rsq : s'.rsq = s.rsq
  mask : s'.lif.mask = s.lif.mask
  notice : s'.lif.pendingNotices.rotor = s.lif.pendingNotices.rotor
  flag : s'.stu.flags.rotorTrip = s.stu.flags.rotorTrip

namespace TripFrame

theorem refl (s : State) : TripFrame s s := ⟨.refl s, ⟨rfl, rfl, rfl⟩, ⟨_, rfl⟩, ⟨_, rfl⟩⟩

theorem trans {s t u : State} (h : TripFrame s t) (k : TripFrame t u) : TripFrame s u := by
  obtain ⟨_, hl⟩ := h.lif
  obtain ⟨b, kl⟩ := k.lif
  obtain ⟨_, hs⟩ := h.stu
  obtain ⟨c, ks⟩ := k.stu
  obtain ⟨tick, rbi, orl⟩ := h.rest
  obtain ⟨tick', rbi', orl'⟩ := k.rest
  exact ⟨h.bank.trans k.bank, ⟨tick'.trans tick, rbi'.trans rbi, orl'.trans orl⟩, ⟨b, by rw [kl, hl]⟩,
    ⟨c, by rw [ks, hs]⟩⟩

theorem stopTrip (s : State) (i : Slot) : TripFrame s (s.stopTrip i) := by
  unfold State.stopTrip
  split
  · exact ⟨s.tripOnly_bankFrame i _, ⟨by simp, by simp, by simp⟩, ⟨_, s.tripOnly_lif i _⟩, ⟨_, s.tripOnly_stu i _⟩⟩
  · exact refl s

theorem tripAll (s : State) : TripFrame s s.tripAll := by
  unfold State.tripAll
  generalize allSlots = slots
  induction slots generalizing s with
  | nil => exact refl s
  | cons i rest ih => exact (stopTrip s i).trans (ih _)

end TripFrame

namespace StopTrips

variable {s t u : State} {p q : Slot → Prop}

theorem congr (h : StopTrips s t p) (same : ∀ i, p i ↔ q i) : StopTrips s t q := by
  rwa [show q = p from funext fun i => propext (same i).symm]

theorem refl (s : State) : StopTrips s s fun _ => False where
  record := nofun
  road := nofun
  kept := fun _ _ => ⟨rfl, rfl⟩
  spinUp := fun _ h => h
  sync := fun _ h => h
  unit := fun _ h => h
  changed := by simp
  mask := rfl
  notice := by simp
  flag := by simp

/-- One slot. -/
theorem tripOnly (s : State) (i : Slot) : StopTrips s (s.tripOnly i .stop) fun j => j = i := by
  obtain ⟨spinUp, sync, unit, timer, -⟩ := s.rsq.leave_spec i
  have rsq := s.tripOnly_rsq i .stop
  have rotor (j : Slot) := s.rotor_tripOnly i j .stop
  refine ⟨?_, ?_, fun j other => ⟨?_, ?_⟩, ?_, ?_, ?_, fun j => ?_, ?_, ?_, ?_⟩
  · rintro j rfl; rw [rotor, if_pos rfl]
  · rintro j rfl
    rw [offRoad, rsq]
    exact ⟨fun h => ((spinUp j).mp h).2 rfl, fun h => ((sync j).mp h).2 rfl, fun h => ((unit j).mp h).2 rfl,
      (timer j).trans (if_pos rfl)⟩
  · rw [rotor, if_neg other]
  · rw [rsq]; exact (timer j).trans (if_neg other)
  · rw [rsq]; exact fun j h => ((spinUp j).mp h).1
  · rw [rsq]; exact fun j h => ((sync j).mp h).1
  · rw [rsq]; exact fun j h => ((unit j).mp h).1
  · rw [rsq]
    cases s.lif.mask.rotor
    · simp
    · simp [mem_insertAscending, or_comm]
  · rw [s.tripOnly_lif i]
  · rw [s.tripOnly_lif i]; simp
  · rw [s.tripOnly_stu i]; simp

/-- One set of slots after the other. -/
theorem trans (h : StopTrips s t p) (k : StopTrips t u q) (disjoint : ∀ i, p i → ¬ q i) :
    StopTrips s u fun i => p i ∨ q i := by
  refine ⟨fun i ti => ?_, fun i ti => ?_, fun i not => ?_, fun i hi => h.spinUp i (k.spinUp i hi),
    fun i hi => h.sync i (k.sync i hi), fun i hi => h.unit i (k.unit i hi), fun i => ?_, k.mask.trans h.mask, ?_, ?_⟩
  · obtain pi | qi := ti
    · obtain ⟨rotor, -⟩ := k.kept i (disjoint i pi)
      rw [rotor, h.record i pi]
    · obtain ⟨rotor, -⟩ := h.kept i fun pi => disjoint i pi qi
      rw [k.record i qi, rotor]
  · obtain pi | qi := ti
    · obtain ⟨-, timer⟩ := k.kept i (disjoint i pi)
      obtain ⟨noSpinUp, noSync, noUnit, stopped⟩ := h.road i pi
      exact ⟨mt (k.spinUp i) noSpinUp, mt (k.sync i) noSync, mt (k.unit i) noUnit, timer.trans stopped⟩
    · exact k.road i qi
  · obtain ⟨np, nq⟩ := not_or.mp not
    obtain ⟨rotor, timer⟩ := h.kept i np
    obtain ⟨rotor', timer'⟩ := k.kept i nq
    exact ⟨rotor'.trans rotor, timer'.trans timer⟩
  · rw [k.changed, h.changed, h.mask, and_or_left, or_assoc]
  · rw [k.notice, h.notice, h.mask, exists_or, and_or_left, or_assoc]
  · rw [k.flag, h.flag, exists_or, or_assoc]

theorem stopTrip (s : State) (i : Slot) :
    StopTrips s (s.stopTrip i) fun j => j = i ∧ movingState (s.rotor j).state = true := by
  unfold State.stopTrip
  split
  · next moving =>
    refine (tripOnly s i).congr fun j => ⟨?_, And.left⟩
    rintro rfl
    exact ⟨rfl, moving⟩
  · next still =>
    refine (refl s).congr fun j => ⟨False.elim, ?_⟩
    rintro ⟨rfl, moving⟩
    exact still moving

/-- The slots of a list, one after the other: exactly those that move are tripped, each once. -/
theorem foldl (s : State) (slots : List Slot) :
    StopTrips s (slots.foldl State.stopTrip s) fun j => j ∈ slots ∧ movingState (s.rotor j).state = true := by
  induction slots generalizing s with
  | nil => exact (refl s).congr fun j => by simp
  | cons i rest ih =>
    have first := stopTrip s i
    have still (j : Slot) (now : j = i ∧ movingState (s.rotor j).state = true) :
        movingState ((s.stopTrip i).rotor j).state = false := by rw [first.record j now]; rfl
    refine (first.trans (ih (s.stopTrip i)) fun j now later => ?_).congr fun j => ?_
    · rw [still j now] at later; cases later.2
    · by_cases now : j = i ∧ movingState (s.rotor j).state = true
      · exact iff_of_true (.inl now) ⟨List.mem_cons.mpr (.inl now.1), now.2⟩
      · obtain ⟨same, -⟩ := first.kept j now
        rw [same, List.mem_cons]
        tauto

/-- A stop assertion trips every slot that moves (R140). -/
theorem tripAll (s : State) : StopTrips s s.tripAll fun j => movingState (s.rotor j).state = true :=
  (foldl s allSlots).congr fun j => and_iff_right (mem_allSlots j)

/-- Trips are a matter of what `SameRoad` compares alone. -/
theorem of_sameRoad {s' t' : State} (h : StopTrips s t p) (hs : SameRoad s s') (ht : SameRoad t t') :
    StopTrips s' t' p := by
  have rotor := State.rotor_congr hs.rotors
  have rotor' := State.rotor_congr ht.rotors
  constructor
  case record => simpa only [rotor, rotor'] using h.record
  case kept => simpa only [rotor, rotor', hs.rsq, ht.rsq] using h.kept
  case road => simpa only [offRoad, ht.rsq] using h.road
  case mask => rw [ht.mask, hs.mask, h.mask]
  case notice => rw [ht.notice, hs.notice, hs.mask, h.notice]
  case flag => rw [ht.flag, hs.flag, h.flag]
  case changed => rw [ht.rsq, hs.rsq, hs.mask]; exact h.changed
  all_goals rw [ht.rsq, hs.rsq]
  exacts [h.spinUp, h.sync, h.unit]

/-- What the road of a moving rotor holds is emptied when every moving slot has been tripped (R140). -/
theorem road_empty (h : StopTrips s t fun j => movingState (s.rotor j).state = true) (inv : RoadInv s) :
    t.rsq.spinUpQueue = [] ∧ t.rsq.syncQueue = [] ∧ t.rsq.syncUnit = none := by
  have left (i : Slot) {st : RotorState} (state : (s.rotor i).state = st) (moving : movingState st = true) :
      offRoad t i := h.road i (state ▸ moving)
  refine ⟨List.eq_nil_iff_forall_not_mem.mpr fun i waits => ?_, List.eq_nil_iff_forall_not_mem.mpr fun i waits => ?_,
    Option.eq_none_iff_forall_ne_some.mpr fun i busy => ?_⟩
  · obtain ⟨off, -⟩ := left i ((inv.spinUpHolds i).mp (h.spinUp i waits)) rfl
    exact off waits
  · obtain ⟨-, off, -⟩ := left i ((inv.syncHolds i).mp (h.sync i waits)) rfl
    exact off waits
  · obtain ⟨-, -, off, -⟩ := left i ((inv.unit i).mp (h.unit i busy)) rfl
    exact off busy

end StopTrips

/-! ## A stop assertion (R52, R53, R111) -/

/-- What the RSQ and the ORL do once the EVT has halted the bank: every moving rotor is tripped, every order that has not
ended is cancelled (R111, R140). -/
def State.haltRest (s : State) (plant : Nat) : State := ((s.addNotice .halt).tripAll).cancelAll plant

/-- An order that a stop assertion meets: cancelled, if it has not ended (R111). -/
theorem Order.cancel_stop (plant : Nat) (o : Order) :
    o.cancel .stop plant =
      if o.status = .waiting ∨ o.status = .active ∨ o.status = .suspended .event ∨ o.status = .suspended .exhausted then
        { o with status := .cancelled .stop, ended := some plant }
      else o := by
  unfold Order.cancel
  cases status : o.status with
  | suspended cause => cases cause <;> rfl
  | waiting | active | done | expired | cancelled => rfl

/-- Whether the end of an event has released the order first makes no difference to its cancelling. -/
theorem Order.cancel_release (plant : Nat) (o : Order) : o.release.cancel .stop plant = o.cancel .stop plant := by
  unfold Order.release
  split
  · next suspended => simp only [Order.cancel, suspended]; rfl
  · rfl

/-- A cancelled order is noted, whether it has been released first or not. -/
theorem Order.enteredId_release_cancel (plant : Nat) (o : Order) :
    enteredId o.release (o.cancel .stop plant) = enteredId o (o.cancel .stop plant) := by
  unfold Order.release
  split
  · next suspended => simp only [enteredId, Order.cancel, suspended]; rfl
  · rfl

/-- s once the EVT has halted the bank: its own block, the DSE's curves, the states of the orders and the EVENT CHANGE
notice are as given (R51, R52). -/
def State.halting (s : State) (e : Evt) (d : Dse) (f : Order → Order) (event : Bool) : State :=
  { s with
    evt := e
    dse := d
    orl := { s.orl with orders := s.orl.orders.map f }
    lif := { s.lif with pendingNotices := { s.lif.pendingNotices with event := event } } }

theorem State.assertStop_outsideEvent {s : State} (mode : s.evt.mode ≠ .event) :
    s.assertStop =
      (s.halting { s.evt with mode := .halted, stopLevel := .asserted } s.dse id
        s.lif.pendingNotices.event).haltRest s.plantTime := by
  have halting : s.halting { s.evt with mode := .halted, stopLevel := .asserted } s.dse id s.lif.pendingNotices.event =
      s.withEvt { s.evt with mode := .halted, stopLevel := .asserted } := by rw [State.halting, List.map_id]; rfl
  rw [halting]
  simp only [State.assertStop, State.haltRest]
  split
  case h_1 event => exact absurd event mode
  case h_5 already => rw [← already]
  all_goals rfl

theorem State.assertStop_event {s : State} (mode : s.evt.mode = .event) :
    s.assertStop =
      (s.halting
        { s.evt with
          mode := .halted
          stopLevel := .asserted
          savedMode := none
          history := updateOpen (fun r => { r with ended := some (s.plantTime, .stop) }) s.evt.history
          recovery := none }
        s.dse.activatePending Order.release (s.lif.pendingNotices.event || s.lif.mask.event)).haltRest s.plantTime := by
  simp only [State.assertStop, mode, State.endEvent_eq]
  rfl

/-! ### What is left when the EVT has halted the bank -/

theorem State.addHaltNotice_lif (s : State) :
    (s.addNotice .halt).lif = { s.lif with pendingNotices := { s.lif.pendingNotices with
      halt := s.lif.pendingNotices.halt || s.lif.mask.halt } } := by
  rw [State.addNotice_eq]; rfl

/-- The blocks other than the rotors and the orders. -/
theorem State.haltRest_frame (u : State) (plant : Nat) :
    let t := u.haltRest plant
    (t.tickCount = u.tickCount ∧ t.fmu = u.fmu ∧ t.rbi = u.rbi ∧ t.supply = u.supply) ∧ (t.evt = u.evt ∧ t.dse = u.dse) ∧
      (∃ b, t.stu = { u.stu with flags := { u.stu.flags with rotorTrip := b } }) ∧
      ∃ b c, t.lif = { u.lif with pendingNotices := { u.lif.pendingNotices with
        rotor := b, order := c, halt := u.lif.pendingNotices.halt || u.lif.mask.halt } } := by
  have trips := TripFrame.tripAll (u.addNotice .halt)
  obtain ⟨tick, rbi, -⟩ := trips.rest
  obtain ⟨b, lif⟩ := trips.lif
  obtain ⟨c, stu⟩ := trips.stu
  simp only [State.haltRest, State.cancelAll, State.reviseOrders_tickCount, State.reviseOrders_fmu,
    State.reviseOrders_rbi, State.reviseOrders_supply, State.reviseOrders_evt, State.reviseOrders_dse,
    State.reviseOrders_stu, State.reviseOrders_lif, tick, rbi, lif, stu, trips.bank.fmu, trips.bank.supply,
    trips.bank.evt, trips.bank.dse, State.addHaltNotice_lif, State.addNotice_tickCount, State.addNotice_fmu,
    State.addNotice_rbi, State.addNotice_supply, State.addNotice_evt, State.addNotice_dse, State.addNotice_stu,
    and_self, true_and]
  exact ⟨⟨c, rfl⟩, b, _, rfl⟩

/-- The rotors. -/
theorem State.haltRest_stopTrips (u : State) (plant : Nat) :
    StopTrips u (u.haltRest plant) fun i => movingState (u.rotor i).state = true := by
  have noticed : SameRoad (u.addNotice .halt) u := by
    constructor <;> simp [State.addHaltNotice_lif]
  have revised : SameRoad (u.addNotice .halt).tripAll (u.haltRest plant) := by
    constructor <;> simp [State.haltRest, State.cancelAll, State.reviseOrders_lif]
  refine ((StopTrips.tripAll (u.addNotice .halt)).of_sameRoad noticed revised).congr fun i => ?_
  rw [State.rotor_congr noticed.rotors]

section
variable {s : State} {e : Evt} {d : Dse} {f : Order → Order} {event : Bool} {plant : Nat}
  (cancels : ∀ o, (f o).cancel .stop plant = o.cancel .stop plant)
include cancels

/-- The orders: every one that has not ended is cancelled (R111). -/
theorem State.halting_haltRest_orders :
    ((s.halting e d f event).haltRest plant).orl.orders = s.orl.orders.map (Order.cancel .stop plant) := by
  obtain ⟨-, -, orl⟩ := (TripFrame.tripAll ((s.halting e d f event).addNotice .halt)).rest
  rw [State.haltRest, State.cancelAll, State.reviseOrders_orders, orl, State.addNotice_orl]
  simp only [State.halting, List.map_map]
  exact List.map_congr_left fun o _ => cancels o

/-- Those orders are noted, as they stood before the EVT had halted the bank (R114). -/
theorem State.halting_haltRest_ordersNoted (distinct : (s.orl.orders.map fun o => o.id).Nodup)
    (enters : ∀ o, enteredId (f o) (o.cancel .stop plant) = enteredId o (o.cancel .stop plant)) :
    OrdersNoted s ((s.halting e d f event).haltRest plant) := by
  have trips := TripFrame.tripAll ((s.halting e d f event).addNotice .halt)
  obtain ⟨-, -, orl⟩ := trips.rest
  obtain ⟨b, lif⟩ := trips.lif
  rw [State.addNotice_orl] at orl
  rw [State.addHaltNotice_lif] at lif
  have orders := State.halting_haltRest_orders (s := s) (e := e) (d := d) (event := event) cancels
  rw [State.haltRest, State.cancelAll] at orders ⊢
  refine ordersNoted_reviseOrders ?_ ?_ ?_ orders (fun o => ?_) distinct fun id => ?_
  · rw [orl]; rfl
  · rw [lif]; rfl
  · rw [lif]; rfl
  · rw [Order.cancel_stop]
    split <;> rfl
  · rw [orl]
    simp [State.halting, cancels, enters]

end

/-- Every clause of the statement that does not depend on whether an event was open. -/
structure StopTaken (s t : State) (plant : Nat) : Prop where
  rest : t.tickCount = s.tickCount ∧ t.fmu = s.fmu ∧ t.rbi = s.rbi ∧ t.supply = s.supply
  trips : StopTrips s t fun i => movingState (s.rotor i).state = true
  stu : ∃ b, t.stu = { s.stu with flags := { s.stu.flags with rotorTrip := b } }
  lif : ∃ a b c, t.lif = { s.lif with pendingNotices := { s.lif.pendingNotices with
    event := a, rotor := b, order := c, halt := s.lif.pendingNotices.halt || s.lif.mask.halt } }
  orders : t.orl.orders = s.orl.orders.map (Order.cancel .stop plant)
  noted : OrderInv s → OrdersNoted s t

theorem State.halting_haltRest_stopTaken (s : State) (e : Evt) (d : Dse) {f : Order → Order} (event : Bool) {plant : Nat}
    (cancels : ∀ o, (f o).cancel .stop plant = o.cancel .stop plant)
    (enters : ∀ o, enteredId (f o) (o.cancel .stop plant) = enteredId o (o.cancel .stop plant)) :
    StopTaken s ((s.halting e d f event).haltRest plant) plant := by
  obtain ⟨rest, -, stu, b, c, lif⟩ := (s.halting e d f event).haltRest_frame plant
  have trips := (s.halting e d f event).haltRest_stopTrips plant
  exact ⟨rest, trips.of_sameRoad ⟨rfl, rfl, rfl, rfl, rfl⟩ ⟨rfl, rfl, rfl, rfl, rfl⟩, stu, ⟨event, b, c, lif⟩,
    State.halting_haltRest_orders cancels, fun inv => State.halting_haltRest_ordersNoted cancels inv.distinct enters⟩

theorem State.assertStop_stopTaken (s : State) : StopTaken s s.assertStop s.plantTime := by
  by_cases mode : s.evt.mode = .event
  · rw [State.assertStop_event mode]
    exact s.halting_haltRest_stopTaken _ _ _ (Order.cancel_release _) (Order.enteredId_release_cancel _)
  · rw [State.assertStop_outsideEvent mode]
    exact s.halting_haltRest_stopTaken _ _ _ (fun _ => rfl) fun _ => rfl

/-- Out of EVENT the EVT and the DSE are left but for the mode and the level, and the EVT adds no notice of its own. -/
theorem State.assertStop_evt_outsideEvent {s : State} (mode : s.evt.mode ≠ .event) :
    s.assertStop.evt = { s.evt with mode := .halted, stopLevel := .asserted } ∧ s.assertStop.dse = s.dse ∧
      s.assertStop.lif.pendingNotices.event = s.lif.pendingNotices.event := by
  rw [State.assertStop_outsideEvent mode]
  generalize hu : State.halting s _ _ _ _ = u
  obtain ⟨-, ⟨evt, dse⟩, -, _, _, lif⟩ := u.haltRest_frame s.plantTime
  rw [evt, dse, lif, ← hu]
  exact ⟨rfl, rfl, rfl⟩

/-- In EVENT the open event ends with the cause STOP (R51, R52). -/
theorem State.assertStop_evt_event {s : State} (mode : s.evt.mode = .event) :
    s.assertStop.evt =
        { s.evt with
          mode := .halted
          stopLevel := .asserted
          savedMode := none
          history := updateOpen (fun r => { r with ended := some (s.plantTime, .stop) }) s.evt.history
          recovery := none } ∧
      s.assertStop.dse = s.dse.activatePending ∧
      s.assertStop.lif.pendingNotices.event = (s.lif.pendingNotices.event || s.lif.mask.event) := by
  rw [State.assertStop_event mode]
  generalize hu : State.halting s _ _ _ _ = u
  obtain ⟨-, ⟨evt, dse⟩, -, _, _, lif⟩ := u.haltRest_frame s.plantTime
  rw [evt, dse, lif, ← hu]
  exact ⟨rfl, rfl, rfl⟩

/-- In every mode the bank is then HALTED, the level is taken, and the region memory is kept (R52). -/
theorem State.assertStop_halts (s : State) :
    s.assertStop.evt.mode = .halted ∧ s.assertStop.evt.stopLevel = .asserted ∧
      s.assertStop.evt.memory = s.evt.memory := by
  by_cases mode : s.evt.mode = .event
  · rw [(State.assertStop_evt_event mode).1]; exact ⟨rfl, rfl, rfl⟩
  · rw [(State.assertStop_evt_outsideEvent mode).1]; exact ⟨rfl, rfl, rfl⟩

theorem State.assertStop_eventOver {s : State} {closed : List EventRecord} {r : EventRecord}
    (mode : s.evt.mode = .event) (history : s.evt.history = closed ++ [r]) (isOpen : r.ended = none) :
    EventOver s s.assertStop closed r .stop s.plantTime .halted := by
  obtain ⟨evt, dse, notice⟩ := State.assertStop_evt_event mode
  have record : s.assertStop.evt.history = closed ++ [{ r with ended := some (s.plantTime, .stop) }] := by
    rw [evt]
    simp only [history, updateOpen_concat, isOpen]
    rfl
  refine ⟨by rw [evt]; exact ⟨rfl, rfl, rfl⟩, record, ?_, ?_, notice⟩
  · rw [dse]; exact ⟨Dse.activatePending_curve _, Dse.activatePending_pendingCurve _⟩
  · rw [s.assertStop_stopTaken.orders, List.forall_mem_map]
    intro o _ suspended
    rw [Order.cancel_stop] at suspended
    split at suspended
    · cases suspended
    · next ended => exact ended (.inr (.inr (.inl suspended)))

/-! ## The obligation -/

/-- A level is an arrival when it has held for 100 ticks and is not the one that the EVT has taken already (R201). -/
theorem State.stopArrives_iff (s : State) (level : StopLevel) (steady : Nat) :
    s.stopArrives level steady = true ↔ 100 ≤ steady ∧ s.evt.stopLevel ≠ level := by
  rw [State.stopArrives, Bool.and_eq_true, decide_eq_true_iff, bne_iff_ne]
  rfl

theorem State.not_stopArrives {s : State} {level : StopLevel} {steady : Nat}
    (h : steady < 100 ∨ s.evt.stopLevel = level) : ¬ s.stopArrives level steady = true := by
  rw [State.stopArrives_iff]
  rintro ⟨held, other⟩
  exact h.elim (Nat.not_lt.mpr held) other

theorem State.releaseStop_eq (s : State) :
    s.releaseStop = { s with
      evt := { s.evt with stopLevel := .released, mode := .idle }
      lif := { s.lif with pendingNotices := { s.lif.pendingNotices with
        halt := s.lif.pendingNotices.halt || s.lif.mask.halt } } } := by
  rw [State.releaseStop, State.addNotice_eq]
  rfl

/-- Settles O23: an assertion by what it does to the EVT in its mode and by `StopTaken`, which says the rest; a release by
`releaseStop_eq`. -/
theorem stopInputHaltsAndReleases : Obligations.StopInputHaltsAndReleases := by
  refine ⟨fun dt steady s up => ⟨fun noArrival => ?_, fun held level inv => ?_⟩,
    fun dt steady s up => ⟨fun noArrival => ?_, fun held level => ?_⟩⟩
  · rw [exec_stopAssertion, State.taking_up up, if_neg (State.not_stopArrives noArrival)]
    rfl
  · have arrives := (s.stopArrives_iff .asserted steady).mpr ⟨held, by rw [level]; nofun⟩
    have taken := (s.advance dt).assertStop_stopTaken
    obtain ⟨tick, fmu, rbi, supply⟩ := taken.rest
    obtain ⟨a, b, c, lif⟩ := taken.lif
    obtain ⟨flag, stu⟩ := taken.stu
    refine ⟨(s.advance dt).assertStop, ?_, tick, ⟨fmu, rbi, supply⟩, (s.advance dt).assertStop_halts,
      State.assertStop_evt_outsideEvent (s := s.advance dt), fun closed r mode history => ?_, ?_,
      fun i moving => ⟨taken.trips.record i moving, taken.trips.road i moving⟩, taken.trips.changed, taken.trips.notice,
      ?_, ?_, fun i still => ?_, fun road => ?_, taken.trips.flag, ?_, ?_⟩
    · rw [exec_stopAssertion, State.taking_up up, if_pos arrives]
    · obtain ⟨-, -, newest⟩ := HistoryFits.concat_iff.mp (history ▸ inv.history)
      have isOpen : r.ended = none := by simpa [mode] using newest
      obtain ⟨ended, record, curve, orders, notice⟩ :=
        State.assertStop_eventOver (s := s.advance dt) mode history isOpen
      exact ⟨ended, record, curve, orders, notice⟩
    · rw [lif]; rfl
    · rw [lif]; rfl
    · rw [stu]; rfl
    · exact taken.trips.kept i (ne_true_of_eq_false still)
    · have road' : RoadInv (s.advance dt) :=
        ⟨road.spinUpOnce, road.spinUpHolds, road.syncOnce, road.syncHolds, road.unit, road.four, road.timed,
          road.spinUpWaits, road.syncWaits, road.halted⟩
      exact taken.trips.road_empty road'
    · rw [taken.orders]
      exact List.map_congr_left fun o _ => Order.cancel_stop _ o
    · intro orders
      obtain ⟨set, once, notice⟩ := taken.noted
        ⟨orders.atMost, orders.distinct, orders.oneActive, orders.event, orders.halted, orders.records⟩
      exact ⟨set, once, notice⟩
  · rw [exec_stopRelease, State.taking_up up, if_neg (State.not_stopArrives noArrival)]
    rfl
  · have arrives := (s.stopArrives_iff .released steady).mpr ⟨held, by rw [level]; nofun⟩
    rw [exec_stopRelease, State.taking_up up, if_pos arrives, State.releaseStop_eq]
    rfl

end Sys2Proof.Machine
end

section
/-! The transmitter (R170 to R172): O28. What may be begun is decided by the arbiter alone; a notice that may not be begun
changes nothing, and one that may be begun is the same for all six kinds but for its payload and its change set. -/

namespace Sys2Proof.Machine

/-! ## Replies, and the end of a notice (R170, R171) -/

theorem State.beginReply_sends {s : State} {frame : List Byte} (free : s.lif.sending = none)
    (waits : s.lif.waiting = some frame) :
    s.beginReply = s.withLif { s.lif with sending := some ⟨frame, true⟩, waiting := none } := by
  simp only [State.beginReply, free, waits]

theorem State.beginReply_idle {s : State} (h : s.lif.sending ≠ none ∨ s.lif.waiting = none) : s.beginReply = s := by
  unfold State.beginReply
  split
  · next free waits =>
    obtain busy | absent := h
    · exact absurd free busy
    · rw [absent] at waits; cases waits
  · rfl

theorem State.endNotice_frees {s : State} {frame : List Byte} (sending : s.lif.sending = some ⟨frame, false⟩) :
    s.endNotice = s.withLif { s.lif with sending := none } := by
  simp only [State.endNotice, sending, Bool.false_eq_true, if_false]

theorem State.endNotice_reply {s : State} {frame : List Byte} (sending : s.lif.sending = some ⟨frame, true⟩) :
    s.endNotice = s := by
  simp only [State.endNotice, sending, if_true]

theorem State.endReply_notice {s : State} {frame : List Byte} (sending : s.lif.sending = some ⟨frame, false⟩)
    (line : StopLevel) : s.endReply line = s := by
  simp only [State.endReply, sending, Bool.false_eq_true, if_false]

/-! ## The arbiter (R170) -/

/-- The kinds are tried in their order. -/
theorem NoticeSet.lowest_eq (n : NoticeSet) :
    n.lowest =
      if n.start then some .start else if n.event then some .event else if n.rotor then some .rotor
      else if n.order then some .order else if n.measurement then some .measurement
      else if n.halt then some .halt else Option.none := by
  have tried (k : NoticeKind) (rest : List NoticeKind) :
      (k :: rest).find? n.has = if n.has k then some k else rest.find? n.has := by
    cases pending : n.has k
    · exact List.find?_cons_of_neg (by simp [pending])
    · exact List.find?_cons_of_pos pending
  simp only [NoticeSet.lowest, noticeKinds, tried, NoticeSet.has, List.find?_nil]
  rfl

/-- A kind is the lowest when it is pending and none before it is. -/
theorem NoticeSet.lowest_eq_some (n : NoticeSet) (k : NoticeKind) :
    n.lowest = some k ↔
      match k with
      | .start => n.start = true
      | .event => n.start = false ∧ n.event = true
      | .rotor => n.start = false ∧ n.event = false ∧ n.rotor = true
      | .order => n.start = false ∧ n.event = false ∧ n.rotor = false ∧ n.order = true
      | .measurement =>
        n.start = false ∧ n.event = false ∧ n.rotor = false ∧ n.order = false ∧ n.measurement = true
      | .halt =>
        n.start = false ∧ n.event = false ∧ n.rotor = false ∧ n.order = false ∧ n.measurement = false ∧
          n.halt = true := by
  rw [NoticeSet.lowest_eq]
  cases k <;> grind

theorem Lif.mayBegin_iff (l : Lif) (k : NoticeKind) :
    l.mayBegin k = true ↔ (l.sending = none ∧ l.waiting = none) ∧ l.pendingNotices.lowest = some k := by
  simp only [Lif.mayBegin, Bool.and_eq_true, Option.isNone_iff_eq_none, beq_iff_eq]

theorem State.beginNotice_begins {s : State} {k : NoticeKind} (sending : s.lif.sending = none)
    (waiting : s.lif.waiting = none) (lowest : s.lif.pendingNotices.lowest = some k) :
    s.beginNotice k =
      (s.emptyChangeSet k).withLif { s.lif with
        sending := some ⟨linkFrame (noticeKindByte k) 0#8 (s.noticePayload k), false⟩
        pendingNotices := s.lif.pendingNotices.put false k } :=
  if_pos ((s.lif.mayBegin_iff k).mpr ⟨⟨sending, waiting⟩, lowest⟩)

/-- A transmitter that is busy, or has a reply waiting, begins no notice. -/
theorem State.beginNotice_busy {s : State} (busy : s.lif.sending ≠ none ∨ s.lif.waiting ≠ none) (k : NoticeKind) :
    s.beginNotice k = s := by
  refine if_neg fun may => ?_
  obtain ⟨⟨sending, waiting⟩, -⟩ := (s.lif.mayBegin_iff k).mp may
  exact busy.elim (absurd sending) (absurd waiting)

theorem State.beginNotice_notLowest {s : State} {k : NoticeKind} (h : s.lif.pendingNotices.lowest ≠ some k) :
    s.beginNotice k = s :=
  if_neg fun may => h ((s.lif.mayBegin_iff k).mp may).2

/-- EVENT CHANGE carries the newest event record (R198). -/
theorem Evt.newestBytes_concat {e : Evt} {older : List EventRecord} {newest : EventRecord}
    (h : e.history = older ++ [newest]) : e.newestBytes = newest.bytes := by
  simp only [Evt.newestBytes, h, List.reverse_append, List.reverse_singleton, List.singleton_append]

/-- The six notices, begun each by its own command. -/
def noticeCommand : NoticeKind → Instr
  | .start => .start
  | .event => .eventChange
  | .rotor => .rotorChange
  | .order => .orderChange
  | .measurement => .measurementChange
  | .halt => .haltChange

theorem exec_noticeCommand {s : State} (up : s.supply = .up) (k : NoticeKind) :
    exec (noticeCommand k) s = .next (s.beginNotice k) := by
  rw [← State.taking_up up fun s => s.beginNotice k]
  cases k <;> rfl

/-! ## The obligation -/

/-- The replies and the end of a notice (R170, R171). -/
theorem transmitterFrames (dt : Nat) (line : StopLevel) (s : State) (up : s.supply = .up) :
    let now := s.tickCount + BitVec.ofNat 64 dt
    (∀ frame, s.lif.sending = none → s.lif.waiting = some frame →
      exec .replySend s = .next { s with lif := { s.lif with sending := some ⟨frame, true⟩, waiting := none } }) ∧
    (s.lif.sending ≠ none ∨ s.lif.waiting = none → exec .replySend s = .next s) ∧
    (∀ frame, s.lif.sending = some ⟨frame, false⟩ →
      exec (.noticeFrameEnd dt) s = .next { s with tickCount := now, lif := { s.lif with sending := none } } ∧
        exec (.requestSlotRelease dt line) s = .next { s with tickCount := now }) ∧
    ∀ frame, s.lif.sending = some ⟨frame, true⟩ → exec (.noticeFrameEnd dt) s = .next { s with tickCount := now } := by
  rw [exec_replySend, exec_noticeFrameEnd, exec_requestSlotRelease]
  simp only [State.taking_up up]
  refine ⟨fun frame free waits => ?_, fun idle => ?_, fun frame sending => ⟨?_, ?_⟩, fun frame sending => ?_⟩
  · rw [State.beginReply_sends free waits]; rfl
  · rw [State.beginReply_idle idle]
  · rw [State.endNotice_frees (s := s.advance dt) sending]; rfl
  · rw [State.endReply_notice (s := s.advance dt) sending]; rfl
  · rw [State.endNotice_reply (s := s.advance dt) sending]; rfl

/-- Settles O28: the frames of the transmitter, and the six notices by the arbiter's order; the codes are those of the
tables. -/
theorem transmitterSendsRepliesAndNotices : Obligations.TransmitterSendsRepliesAndNotices := by
  refine ⟨transmitterFrames, fun s up => ?_, ?_, ?_, ?_, ?_, ?_, ?_, ?_⟩
  case refine_1 =>
    have runs := exec_noticeCommand up
    have idle {k : NoticeKind} (h : s.lif.pendingNotices.lowest ≠ some k) :
        exec (noticeCommand k) s = .next s := by rw [runs, State.beginNotice_notLowest h]
    intro p
    refine ⟨fun sending waiting => ?_, fun busy => ?_, ?_⟩
    · have begins {k : NoticeKind} (h : p.lowest = some k) :=
        (runs k).trans (congrArg Host.Outcome.next (State.beginNotice_begins sending waiting h))
      refine ⟨fun start => begins ((p.lowest_eq_some .start).mpr start), fun start event older newest history => ?_,
        fun start event rotor => begins ((p.lowest_eq_some .rotor).mpr ⟨start, event, rotor⟩),
        fun start event rotor order => begins ((p.lowest_eq_some .order).mpr ⟨start, event, rotor, order⟩),
        fun start event rotor order measurement =>
          begins ((p.lowest_eq_some .measurement).mpr ⟨start, event, rotor, order, measurement⟩),
        fun start event rotor order measurement halt =>
          begins ((p.lowest_eq_some .halt).mpr ⟨start, event, rotor, order, measurement, halt⟩)⟩
      rw [← Evt.newestBytes_concat history]
      exact begins ((p.lowest_eq_some .event).mpr ⟨start, event⟩)
    · have none_begun (k : NoticeKind) := (runs k).trans (congrArg Host.Outcome.next (State.beginNotice_busy busy k))
      exact ⟨none_begun .start, none_begun .event, none_begun .rotor, none_begun .order, none_begun .measurement,
        none_begun .halt⟩
    · refine ⟨fun h => idle (k := .start) ?_, fun h => idle (k := .event) ?_, fun h => idle (k := .rotor) ?_,
        fun h => idle (k := .order) ?_, fun h => idle (k := .measurement) ?_, fun h => idle (k := .halt) ?_⟩ <;>
        rw [ne_eq, NoticeSet.lowest_eq_some] <;> grind
  · intro c; cases c <;> rfl
  · intro m; cases m <;> rfl
  · intro m; cases m <;> rfl
  · intro l; cases l <;> rfl
  · intro st; cases st <;> rfl
  · rintro (_ | c)
    · rfl
    · cases c <;> rfl
  · intro o
    cases o with
    | waiting | active | expired => rfl
    | suspended cause | done cause | cancelled cause => cases cause <;> rfl

end Sys2Proof.Machine
end

section
/-! What a sample's passage writes into the rotor records (R66, R74, R89): the derived values, the shares and what the
setpoint counts, in one equation. -/

namespace Sys2Proof.Machine

/-- The EVT's handling of a sample touches no rotor record (R92). -/
theorem State.monitored_rotor (s : State) (t : Tick) (valid : Bool) (i : Slot) :
    (s.monitored t valid).rotor i = s.rotor i := by
  have measured : (s.measure t valid).1.rotors = s.rotors := by simp [State.measure]
  have frame := (State.monitor_monitored (s.measure t valid).1 (s.measure t valid).2).roadFrame
  exact State.rotor_congr (frame.rotors.trans measured) i

/-- A dispatch recomputes the derived values of every record, and writes the shares of its own dispatch record (R66,
R89). -/
theorem State.computeDispatch_rotor (s : State) (sm : Sample) (i : Slot) :
    (s.computeDispatch sm).1.rotor i =
      { (s.rotor i).derive with shares := (s.computeDispatch sm).2.slots[i] } := by
  have derived {u v : State} (rotors : v.rotors = (u.mapRotors fun _ r => r.derive).rotors) :
      v.rotor i = (u.rotor i).derive := by
    rw [State.rotor_congr rotors, State.rotor_mapRotors]
  simp only [State.computeDispatch, makeRecord]
  rw [State.rotor_congr (State.withDse_rotors _ _), State.rotor_mapRotors]
  rw [derived ((State.demandRequest_rotors _ _).trans (State.raiseIf_rotors _ _ _)),
    State.rotor_congr (State.raiseIf_rotors s _ _)]

/-- Of the four consumers of a dispatch result the RTB alone writes the records (R74, R92). -/
theorem State.consume_rotor (s : State) (d : DispatchRecord) (i : Slot) :
    (s.consume d).rotor i = (s.rotor i).countSetpoint d.dt := by
  have counted (u : State) : (u.countThroughput d).rotor i = (u.rotor i).countSetpoint d.dt := by
    rw [State.countThroughput, State.rotor_congr (State.raiseIf_rotors _ _ _), State.rotor_mapRotors]
  have accounted : ((s.takeSetpoints d).accountOrder d).rotor i = s.rotor i := State.rotor_congr (by simp) i
  rw [State.consume, State.rotor_congr (State.countEvent_rotors _ _), counted, accounted]

/-- Every record after a sample's passage (R66, R74, R89). -/
theorem State.passage_rotor (s : State) (t : Tick) (valid : Bool) (i : Slot) :
    (s.passage t valid).rotor i =
      { (s.rotor i).derive with shares := (s.dispatched t valid).slots[i] }.countSetpoint
        (s.dispatched t valid).dt := by
  have computed := State.computeDispatch_rotor (s.monitored t valid) (s.measure t valid).2 i
  rw [State.monitored_rotor] at computed
  exact (State.consume_rotor _ _ i).trans (congrArg (RotorRecord.countSetpoint _) computed)

/-- A dispatch gives a slot that is not ONLINE no share and the setpoint 0 (R71, R89). -/
theorem State.computeDispatch_slots_of_not_online (s : State) (sm : Sample) {i : Slot}
    (idle : (s.rotor i).state ≠ .online) : (s.computeDispatch sm).2.slots[i] = Shares.zero := by
  have state {u v : State} (rotors : v.rotors = (u.mapRotors fun _ r => r.derive).rotors) :
      (v.rotor i).state = (u.rotor i).state := by
    rw [State.rotor_congr rotors, State.rotor_mapRotors, RotorRecord.derive_state]
  simp only [State.computeDispatch, makeRecord, Fin.getElem_fin, Vector.getElem_ofFn]
  refine if_neg ?_
  rw [state ((State.demandRequest_rotors _ _).trans (State.raiseIf_rotors _ _ _)),
    State.rotor_congr (State.raiseIf_rotors s _ _)]
  exact idle

theorem State.dispatched_slots_of_not_online {s : State} (t : Tick) (valid : Bool) {i : Slot}
    (idle : (s.rotor i).state ≠ .online) : (s.dispatched t valid).slots[i] = Shares.zero :=
  State.computeDispatch_slots_of_not_online (s.monitored t valid) _ (by rwa [State.monitored_rotor])

end Sys2Proof.Machine
end

section
/-! The ranges and relations of every rotor record (R58, R71, R134, R135) through the lifecycle moves. The invariant
carried along the way (`TableFits`) also says that what waits in the two queues may still be handed the sync unit, since
the head of a queue is moved without a look at its state (R130, R133). What is handed on ends a command's work at the
RSQ, so only the records are claimed after it. -/

namespace Sys2Proof.Machine

/-! ## One record -/

/-- A record moved to a state, with the cause where the move names one and its own where it does not (R121). -/
def RotorRecord.moveTo (r : RotorRecord) (st : RotorState) (cause : Option RotorCause) : RotorRecord :=
  { r with state := st, cause := cause.or r.cause }

theorem State.rotor_changeRotor_moveTo (s : State) (i j : Slot) (st : RotorState) (cause : Option RotorCause) :
    (s.changeRotor i st cause).rotor j = if j = i then (s.rotor i).moveTo st cause else s.rotor j :=
  s.rotor_changeRotor i j st cause

namespace RecordInv

variable {r : RotorRecord}

/-- A record without shares and limits may take any state but ONLINE, if its attempts allow it (R71, R134). -/
theorem moveTo (h : RecordInv r) (zero : r.shares = Shares.zero ∧ r.ld = 0 ∧ r.la = 0) (st : RotorState)
    (idle : st ≠ .online) (attempts : beforeSync st = true → r.attempts ≤ 2) (cause : Option RotorCause) :
    RecordInv (r.moveTo st cause) where
  shares := fun _ => zero
  attempts := h.attempts
  onTheWay := attempts
  online := fun online => absurd online idle
  late := h.late
  counted := h.counted
  residues := h.residues

theorem zeroed (h : RecordInv r) : RecordInv r.zeroed :=
  ⟨fun _ => ⟨rfl, rfl, rfl⟩, h.attempts, h.onTheWay, h.online, h.late, h.counted, h.residues⟩

/-- With no attempts behind it a rotor may be in any state. -/
theorem noAttempts (h : RecordInv r) : RecordInv { r with attempts := 0 } :=
  ⟨h.shares, Nat.zero_le _, fun _ => Nat.zero_le _, fun _ => rfl, h.late, h.counted, h.residues⟩

theorem withLatched (h : RecordInv r) (code : FaultCode) : RecordInv { r with latched := code } :=
  ⟨h.shares, h.attempts, h.onTheWay, h.online, h.late, h.counted, h.residues⟩

theorem tripped (h : RecordInv r) (cause : RotorCause) (code : FaultCode) :
    RecordInv (trippedRecord r cause code) :=
  (h.zeroed.withLatched code).moveTo ⟨rfl, rfl, rfl⟩ .tripped nofun nofun (some cause)

/-- The late count saturates (R154). -/
theorem countLate (h : RecordInv r) : RecordInv r.countLate :=
  ⟨h.shares, h.attempts, h.onTheWay, h.online, Nat.min_le_left _ _, h.counted, h.residues⟩

theorem takeReport (h : RecordInv r) (m : ModuleReport) : RecordInv (r.takeReport m) :=
  ⟨h.shares, h.attempts, h.onTheWay, h.online, Nat.zero_le _, h.counted, h.residues⟩

theorem takeAck (h : RecordInv r) (ack : Bool) (offered : Option Limits) : RecordInv (r.takeAck ack offered) := by
  unfold RotorRecord.takeAck
  split
  · exact ⟨h.shares, h.attempts, h.onTheWay, h.online, h.late, h.counted, h.residues⟩
  · exact h

/-- The options of ROTOR STATUS set both totals to 0, or leave them (R76). -/
theorem applyOptions (h : RecordInv r) (acknowledge clear : Bool) : RecordInv (r.applyOptions acknowledge clear) := by
  refine ⟨h.shares, h.attempts, h.onTheWay, h.online, h.late, ?_, ?_⟩
  all_goals cases clear
  case refine_1.false => exact h.counted
  case refine_2.false => exact h.residues
  all_goals exact ⟨Nat.zero_le _, Nat.zero_le _⟩

/-- The derived values of a rotor that is not ONLINE include the limits 0 (R66, R71). -/
theorem derive (h : RecordInv r) : RecordInv r.derive := by
  unfold RotorRecord.derive
  split
  · exact ⟨fun idle => ⟨(h.shares idle).1, rfl, rfl⟩, h.attempts, h.onTheWay, h.online, h.late, h.counted, h.residues⟩
  · split
    · next online =>
      exact ⟨fun idle => absurd online idle, h.attempts, h.onTheWay, h.online, h.late, h.counted, h.residues⟩
    · exact ⟨fun idle => ⟨(h.shares idle).1, rfl, rfl⟩, h.attempts, h.onTheWay, h.online, h.late, h.counted,
        h.residues⟩

theorem withShares (h : RecordInv r) {shares : Shares} (zero : r.state ≠ .online → shares = Shares.zero) :
    RecordInv { r with shares := shares } :=
  ⟨fun idle => ⟨zero idle, (h.shares idle).2⟩, h.attempts, h.onTheWay, h.online, h.late, h.counted, h.residues⟩

/-- The counters saturate (R74, R75). -/
theorem countSetpoint (h : RecordInv r) (dt : Nat) : RecordInv (r.countSetpoint dt) := by
  have counted {e : Energy} (range : e.kJ ≤ 4294967295 ∧ e.residue ≤ 9999999) (b : Prop) [Decidable b] (units : Nat) :
      (if b then e.count units else e).kJ ≤ 4294967295 ∧ (if b then e.count units else e).residue ≤ 9999999 := by
    split
    · exact e.count_range units
    · exact range
  unfold RotorRecord.countSetpoint
  split
  · have discharged := counted ⟨h.counted.1, h.residues.1⟩ (0 < r.shares.n) (r.shares.n.natAbs * dt)
    have absorbed := counted ⟨h.counted.2, h.residues.2⟩ (r.shares.n < 0) (r.shares.n.natAbs * dt)
    exact ⟨h.shares, h.attempts, h.onTheWay, h.online, h.late, ⟨discharged.1, absorbed.1⟩,
      ⟨discharged.2, absorbed.2⟩⟩
  · exact h

end RecordInv

/-- A record as ENROL fills it has all else at its start (R125). -/
theorem recordInv_enrolled (group : Fin 4) (roles : Roles) (e : EnrolLimits) :
    RecordInv (enrolledRecord group roles e) :=
  ⟨fun _ => ⟨rfl, rfl, rfl⟩, Nat.zero_le _, fun _ => Nat.zero_le _, nofun, Nat.zero_le _, recordInv_empty.counted,
    recordInv_empty.residues⟩

/-! ## Every record and the queues -/

/-- Every record keeps its ranges and relations, and only rotors that may still be handed the sync unit wait in the
queues. -/
structure TableFits (s : State) : Prop where
  records : TableInv s
  spinUp : ∀ i ∈ s.rsq.spinUpQueue, beforeSync (s.rotor i).state = true
  sync : ∀ i ∈ s.rsq.syncQueue, beforeSync (s.rotor i).state = true

theorem TableInv.tableFits {s : State} (h : TableInv s) (road : RoadInv s) : TableFits s where
  records := h
  spinUp := fun i waits => by rw [(road.spinUpHolds i).mp waits]; rfl
  sync := fun i waits => by rw [(road.syncHolds i).mp waits]; rfl

theorem TableInv.of_rotors {s t : State} (h : TableInv s) (rotors : t.rotors = s.rotors) : TableInv t :=
  fun i => State.rotor_congr rotors i ▸ h i

theorem RoadFrame.tableInv {s t : State} (frame : RoadFrame s t) (h : TableInv s) : TableInv t :=
  h.of_rotors frame.rotors

theorem RoadFrame.tableFits {s t : State} (frame : RoadFrame s t) (h : TableFits s) : TableFits t := by
  have rotor := State.rotor_congr frame.rotors
  refine ⟨frame.tableInv h.records, fun i waits => ?_, fun i waits => ?_⟩ <;> rw [rotor]
  · exact h.spinUp i (frame.spinUp ▸ waits)
  · exact h.sync i (frame.sync ▸ waits)

theorem TableInv.setRotor {s : State} (h : TableInv s) (i : Slot) {r : RotorRecord} (fits : RecordInv r) :
    TableInv (s.setRotor i r) := by
  intro j
  rw [State.rotor_setRotor]
  split
  · exact fits
  · exact h j

/-- A change of state keeps every other record. -/
theorem TableInv.changeRotor {s : State} (h : TableInv s) {i : Slot} {st : RotorState} {cause : Option RotorCause}
    (fits : RecordInv ((s.rotor i).moveTo st cause)) :
    TableInv (s.changeRotor i st cause) := by
  intro j
  rw [State.rotor_changeRotor_moveTo]
  split
  · exact fits
  · exact h j

/-- Of the RSQ a change of state writes the ROTOR CHANGE set alone (R144). -/
theorem State.changeRotor_rsq (s : State) (i : Slot) (st : RotorState) (cause : Option RotorCause) :
    (s.changeRotor i st cause).rsq =
      { s.rsq with changed := if s.lif.mask.rotor then insertAscending i s.rsq.changed else s.rsq.changed } :=
  State.noteRotor_rsq _ i

theorem beforeSync_ne_online {st : RotorState} (h : beforeSync st = true) : st ≠ .online := by
  rintro rfl
  cases h

namespace TableFits

variable {s : State} {i : Slot}

/-- A record rewritten in its ranges, its state as before. -/
theorem rewrite (h : TableFits s) {r : RotorRecord} (fits : RecordInv r) (state : r.state = (s.rotor i).state) :
    TableFits (s.setRotor i r) := by
  have kept (j : Slot) : ((s.setRotor i r).rotor j).state = (s.rotor j).state := by
    rw [State.rotor_setRotor]
    split
    · next same => rw [state, same]
    · rfl
  refine ⟨h.records.setRotor i fits, fun j waits => ?_, fun j waits => ?_⟩ <;> rw [kept]
  · exact h.spinUp j waits
  · exact h.sync j waits

/-- A slot changes its state: the other slots that wait may still be handed the sync unit, and so may this one if it
waits. -/
theorem changeRotor (records : TableInv s)
    (others : ∀ j, j ∈ s.rsq.spinUpQueue ∨ j ∈ s.rsq.syncQueue → j ≠ i → beforeSync (s.rotor j).state = true)
    {st : RotorState} {cause : Option RotorCause}
    (fits : RecordInv ((s.rotor i).moveTo st cause))
    (waits : i ∈ s.rsq.spinUpQueue ∨ i ∈ s.rsq.syncQueue → beforeSync st = true) :
    TableFits (s.changeRotor i st cause) := by
  have ready (j : Slot) (listed : j ∈ s.rsq.spinUpQueue ∨ j ∈ s.rsq.syncQueue) :
      beforeSync ((s.changeRotor i st cause).rotor j).state = true := by
    rw [State.rotor_changeRotor_moveTo]
    split
    · next same => exact waits (same ▸ listed)
    · next other => exact others j listed other
  refine ⟨records.changeRotor fits, fun j hj => ready j (.inl ?_), fun j hj => ready j (.inr ?_)⟩ <;>
    rwa [State.changeRotor_rsq] at hj

theorem leaveRoad (h : TableFits s) (i : Slot) : TableFits (s.leaveRoad i) := by
  obtain ⟨spinUp, sync, -⟩ := s.rsq.leave_spec i
  exact ⟨h.records, fun j waits => h.spinUp j ((spinUp j).mp waits).1, fun j waits => h.sync j ((sync j).mp waits).1⟩

/-- Every slot that waits may still be handed the sync unit. -/
theorem waits_beforeSync (h : TableFits s) (j : Slot) (waits : j ∈ s.rsq.spinUpQueue ∨ j ∈ s.rsq.syncQueue) :
    beforeSync (s.rotor j).state = true := waits.elim (h.spinUp j) (h.sync j)

/-- A slot that has left the road waits in no queue. -/
theorem not_waits_leaveRoad (s : State) (i : Slot) :
    ¬ (i ∈ (s.leaveRoad i).rsq.spinUpQueue ∨ i ∈ (s.leaveRoad i).rsq.syncQueue) := by
  obtain ⟨spinUp, sync, -⟩ := s.rsq.leave_spec i
  rintro (waits | waits)
  · exact ((spinUp i).mp waits).2 rfl
  · exact ((sync i).mp waits).2 rfl

/-! ### Admission and hand-over (R130, R133) -/

theorem admitHead (h : TableFits s) {rest : List Slot} (queue : s.rsq.spinUpQueue = i :: rest) :
    TableFits (s.admitHead i rest) := by
  have ready : beforeSync (s.rotor i).state = true := h.spinUp i (queue ▸ List.mem_cons_self)
  have record := h.records i
  unfold State.admitHead
  apply TableFits.changeRotor
  case fits =>
    exact record.moveTo (record.shares (beforeSync_ne_online ready)) .accelerating nofun (fun _ => record.onTheWay ready) none
  case records => exact h.records
  case waits => exact fun _ => rfl
  case others =>
    refine fun j waits _ => h.waits_beforeSync j (waits.imp_left fun listed => ?_)
    exact queue ▸ List.mem_cons_of_mem i listed

theorem admitAll (fuel : Nat) {s : State} (h : TableFits s) : TableFits (State.admitAll fuel s) := by
  induction fuel generalizing s with
  | zero => exact h
  | succ fuel ih =>
    obtain same | ⟨m, i, rest, fuel_eq, queue, -, admitted⟩ := State.admit_cases (fuel + 1) s
    · rw [same]; exact h
    · rw [admitted, ← Nat.succ.inj fuel_eq]
      exact ih (h.admitHead queue)

/-- The head of the sync queue is handed the unit with its third attempt at most (R133, R134). -/
theorem handOver (h : TableFits s) : TableInv s.handOver := by
  obtain ⟨same, -⟩ | ⟨i, rest, -, queue, handed⟩ := s.handOver_cases
  · rw [same]; exact h.records
  · intro j
    rw [handed, State.rotor_handHead]
    split
    · have ready : beforeSync (s.rotor i).state = true := h.sync i (queue ▸ List.mem_cons_self)
      have record := h.records i
      have attempts := record.onTheWay ready
      exact ⟨fun _ => record.shares (beforeSync_ne_online ready), Nat.succ_le_succ attempts, nofun, nofun, record.late,
        record.counted, record.residues⟩
    · exact h.records j

theorem handOn (h : TableFits s) : TableInv s.handOn := (h.admitAll spinUpSlots).handOver

/-! ### Moves (R127 to R141) -/

/-- A slot that has left the road, its record rewritten, moves to a state off both queues (R130, R132). -/
theorem movedOff (h : TableFits s) {r : RotorRecord} (fits : RecordInv r)
    {st : RotorState} {cause : Option RotorCause}
    (moved : RecordInv (r.moveTo st cause)) :
    TableFits (((s.leaveRoad i).setRotor i r).changeRotor i st cause) := by
  have left := h.leaveRoad i
  refine TableFits.changeRotor (left.records.setRotor i fits) (fun j waits other => ?_) ?_ fun waits =>
    absurd waits (not_waits_leaveRoad s i)
  · rw [State.rotor_setRotor_ne _ other]
    exact left.waits_beforeSync j waits
  · rwa [State.rotor_setRotor_self]

section
variable (h : TableFits s)
include h

/-- A slot that joins the tail of a queue, whichever it is, waits there in its new state (R130, R132). -/
theorem joined {q : Rsq}
    (queues : ∀ j, j ∈ q.spinUpQueue ∨ j ∈ q.syncQueue → j ≠ i →
      j ∈ (s.leaveRoad i).rsq.spinUpQueue ∨ j ∈ (s.leaveRoad i).rsq.syncQueue)
    (idle : (s.rotor i).state ≠ .online) (attempts : (s.rotor i).attempts ≤ 2) {st : RotorState}
    (ready : beforeSync st = true) : TableInv (((s.leaveRoad i).withRsq q).changeRotor i st none).handOn := by
  apply TableFits.handOn
  apply TableFits.changeRotor
  case fits =>
    exact (h.records i).moveTo ((h.records i).shares idle) st (beforeSync_ne_online ready) (fun _ => attempts) none
  case records => exact h.records
  case waits => exact fun _ => ready
  case others => exact fun j waits other => (h.leaveRoad i).waits_beforeSync j (queues j waits other)

theorem joinSpinUp (idle : (s.rotor i).state ≠ .online) (attempts : (s.rotor i).attempts ≤ 2) :
    TableInv (s.joinSpinUp i) := by
  unfold State.joinSpinUp
  refine h.joined ?_ idle attempts rfl
  refine fun j waits other => waits.imp_left fun listed => ?_
  exact (List.mem_append.mp listed).resolve_right fun last => other (List.mem_singleton.mp last)

theorem joinSync (idle : (s.rotor i).state ≠ .online) (attempts : (s.rotor i).attempts ≤ 2) :
    TableInv (s.joinSync i) := by
  unfold State.joinSync
  refine h.joined ?_ idle attempts rfl
  refine fun j waits other => waits.imp_right fun listed => ?_
  exact (List.mem_append.mp listed).resolve_right fun last => other (List.mem_singleton.mp last)

theorem brake (cause : RotorCause) : TableInv (s.brake i cause) := by
  have record := h.records i
  simp only [State.brake]
  split
  · exact (h.movedOff record.zeroed
      (record.zeroed.moveTo ⟨rfl, rfl, rfl⟩ .decelerating nofun nofun (some cause))).handOn
  · next idle =>
    exact (h.movedOff record
      (record.moveTo (record.shares idle) .decelerating nofun nofun (some cause))).handOn

theorem settle (idle : (s.rotor i).state ≠ .online) (cause : Option RotorCause) : TableInv (s.settle i cause) :=
  (h.movedOff (h.records i).noAttempts
    ((h.records i).noAttempts.moveTo ((h.records i).shares idle) .parked nofun (fun _ => Nat.zero_le _) cause)).handOn

/-- A SYNCING rotor that is locked is ONLINE, its attempts 0 (R134, R135). -/
theorem locked :
    TableInv (((s.leaveRoad i).setAttempts i 0).changeRotor i .online none).handOn := by
  have record := h.records i
  refine (h.movedOff (cause := none) record.noAttempts ?_).handOn
  exact ⟨fun idle => absurd rfl idle, Nat.zero_le _, nofun, fun _ => rfl, record.late, record.counted, record.residues⟩

theorem trip (cause : RotorCause) : TableInv (s.trip i cause) := by
  refine TableFits.handOn ((State.raise_roadFrame _ _).tableFits ?_)
  exact h.movedOff (h.records i).zeroed
    ((h.records i).zeroed.moveTo ⟨rfl, rfl, rfl⟩ .tripped nofun nofun (some cause))

theorem tripFault (code : FaultCode) : TableInv (s.tripFault i code) :=
  TableFits.trip (h.rewrite ((h.records i).withLatched code) rfl) .fault

/-! ### Replies, late polls and timers (R122 to R134) -/

theorem probeReply (probing : (s.rotor i).state = .probing) : TableInv (s.probeReply i) := by
  have idle : (s.rotor i).state ≠ .online := probing ▸ nofun
  have attempts : (s.rotor i).attempts ≤ 2 := (h.records i).onTheWay (probing ▸ rfl)
  simp only [State.probeReply]
  split
  · exact h.tripFault _
  · split
    · exact h.records.changeRotor
        ((h.records i).moveTo ((h.records i).shares idle) .parked nofun (fun _ => attempts) none)
    · split
      · exact h.trip .stop
      · split
        · exact h.joinSync idle attempts
        · exact h.joinSpinUp idle attempts

theorem progress : TableInv (s.progress i) := by
  have joins {P : Prop} {st : RotorState} (state : (s.rotor i).state = st) (ready : beforeSync st = true)
      (use : (s.rotor i).state ≠ .online → (s.rotor i).attempts ≤ 2 → P) : P :=
    use (state ▸ beforeSync_ne_online ready) ((h.records i).onTheWay (state ▸ ready))
  simp only [State.progress]
  split
  case h_4 state => split; exacts [joins state rfl h.joinSpinUp, h.records]
  case h_6 state => split; exacts [joins state rfl h.joinSync, h.records]
  case h_7 state => split; exacts [joins state rfl h.joinSpinUp, h.records]
  case h_8 => split; exacts [h.locked, h.records]
  case h_10 state => split; exacts [h.settle (state ▸ nofun) none, h.records]
  all_goals exact h.records

theorem replyTests : TableInv (s.replyTests i) := by
  simp only [State.replyTests]
  split
  · exact h.tripFault _
  · split
    · exact h.trip .moduleRestart
    · exact h.progress

theorem sequenceReply (i : Slot) : TableInv (s.sequenceReply i) := by
  unfold State.sequenceReply
  split
  case h_1 => exact h.records
  case h_2 probing => exact h.probeReply probing
  case h_11 => exact h.records
  all_goals exact h.replyTests

theorem lateTrip : TableInv (s.lateTrip i) := by
  have counted : TableFits (s.setRotor i (s.rotor i).countLate) := h.rewrite (h.records i).countLate rfl
  simp only [State.lateTrip]
  split
  · exact counted.trip .lost
  · exact counted.records

theorem sequenceLate (i : Slot) : TableInv (s.sequenceLate i) := by
  have failed : RecordInv { RotorRecord.empty with cause := some .noModule, probeNoModule := true } :=
    ⟨recordInv_empty.shares, recordInv_empty.attempts, recordInv_empty.onTheWay, recordInv_empty.online,
      recordInv_empty.late, recordInv_empty.counted, recordInv_empty.residues⟩
  have counted : TableInv (s.setRotor i (s.rotor i).countLate) := h.records.setRotor i (h.records i).countLate
  unfold State.sequenceLate
  split
  case h_1 => exact h.records
  case h_2 => exact (State.noteRotor_roadFrame _ i).tableInv ((h.leaveRoad i).records.setRotor i failed)
  case h_3 =>
    dsimp only
    split
    · unfold State.rewriteLost
      split
      · exact counted
      · refine (State.noteRotor_roadFrame _ i).tableInv (counted.setRotor i ?_)
        have record := counted i
        exact ⟨record.shares, record.attempts, record.onTheWay, record.online, record.late, record.counted,
          record.residues⟩
    · exact counted
  all_goals exact h.lateTrip

/-- A failed attempt below the third rejoins the sync queue, the third is the last (R134). -/
theorem syncFails (syncing : (s.rotor i).state = .syncing) : TableInv (s.syncFails i) := by
  unfold State.syncFails
  split
  · next below => exact h.joinSync (syncing ▸ nofun) (Nat.lt_succ_iff.mp below)
  · exact h.brake .syncFail

end

end TableFits

end Sys2Proof.Machine
end

section
/-! Every command keeps the ranges and relations of the rotor records. This settles O53. -/

namespace Sys2Proof.Machine

namespace TableFits

variable {s : State}

/-! ## The rotor bus and the rotor timers (chapters 07 and 08) -/

/-- The end of a poll, whatever follows it, and the round that goes on (R153, R154, R156). -/
theorem afterPoll {abandoned : Bool} {f : State → State} (h : TableFits s)
    (act : ∀ u, TableFits u → TableInv (f u)) :
    TableInv (State.continueRound
      (if abandoned then s.withRbi { s.rbi with inFlight := none }
        else f (s.withRbi { s.rbi with inFlight := none }))) := by
  refine (State.continueRound_roadFrame _).tableInv ?_
  split
  · exact h.records
  · exact act _ ⟨h.records, h.spinUp, h.sync⟩

theorem busBytes (h : TableFits s) (bytes : List Byte) : TableInv (s.busBytes bytes) := by
  obtain ⟨-, held⟩ | ⟨-, -, held⟩ | ⟨frame, -, -, held⟩ := s.busBytes_cases bytes <;> rw [held]
  case inl | inr.inl => exact h.records
  unfold State.busFrame
  split
  · next p m _ _ =>
    split
    · refine TableFits.afterPoll (f := fun u => u.deliver p m) ⟨h.records, h.spinUp, h.sync⟩ fun u hu => ?_
      have reported := ((hu.records p.slot).takeReport m).takeAck m.flags.limitsAck p.offered
      exact (hu.rewrite reported (RotorRecord.takeAck_state _ _ _)).sequenceReply p.slot
    · exact h.records
  · exact h.records

theorem windowCloses (h : TableFits s) : TableInv s.windowCloses := by
  unfold State.windowCloses
  split
  · exact h.records
  · next p _ =>
    exact ((s.advanceTo_roadFrame _).tableFits h).afterPoll (f := fun u => u.sequenceLate p.slot) fun u hu =>
      hu.sequenceLate p.slot

theorem timerExpires (h : TableFits s) {i : Slot} {st : RotorState} {act : State → State}
    (kept : ∀ u, TableFits u → (u.rotor i).state = st → TableInv (act u)) : TableInv (s.timerExpires i st act) := by
  unfold State.timerExpires
  split
  · exact h.records
  · next t _ =>
    split
    · next state =>
      refine kept _ ((s.advanceTo_roadFrame t).tableFits h) ?_
      rw [State.rotor_congr (State.advanceTo_rotors s t), state]
    · exact h.records

end TableFits

namespace TableInv

variable {s : State}

theorem pollNext (h : TableInv s) : TableInv s.pollNext := by
  refine h.of_rotors ?_
  unfold State.pollNext
  split
  · unfold State.takeTurn
    split
    · dsimp only
      split
      · split <;> simp
      · simp
    · split <;> simp
    · simp
  · rfl

/-! ## Resets, the stop line and samples (R6, R52, R53, R184) -/

theorem takeReset (s : State) (cause : ResetCause) (t : Tick) (line : StopLevel) :
    TableInv (s.takeReset cause t line) := by
  intro i
  have rotor : (s.takeReset cause t line).rotor i = (State.blocksReset cause t s.pending).rotor i := by
    rw [State.takeReset_eq]; rfl
  rw [rotor, State.rotor_blocksReset]
  exact recordInv_empty

theorem endReply (h : TableInv s) (line : StopLevel) : TableInv (s.endReply line) := by
  unfold State.endReply
  split
  · split
    · split
      · exact takeReset s _ _ line
      · exact h
    · exact h
  · exact h

/-- A stop assertion trips the moving rotors and touches no other (R140). -/
theorem assertStop (h : TableInv s) : TableInv s.assertStop := by
  have trips := s.assertStop_stopTaken.trips
  intro i
  by_cases moving : movingState (s.rotor i).state = true
  · rw [trips.record i moving]
    exact (h i).tripped _ _
  · rw [(trips.kept i moving).1]
    exact h i

theorem passage (h : TableInv s) (t : Tick) (valid : Bool) : TableInv (s.passage t valid) := by
  intro i
  rw [State.passage_rotor]
  refine RecordInv.countSetpoint ((h i).derive.withShares fun idle => ?_) _
  rw [RotorRecord.derive_state] at idle
  exact State.dispatched_slots_of_not_online t valid idle

theorem edge (h : TableInv s) : TableInv s.edge := by
  have recorded (u : Fmu) : TableInv (s.withFmu u) := h
  cases last : s.fmu.lastEdge with
  | none => rw [State.edge_first last]; exact recorded _
  | some last' => rw [State.edge_next last]; exact (recorded _).passage _ _

theorem missingEdge (h : TableInv s) : TableInv s.missingEdge := by
  have later : TableInv (s.advanceTo s.fmu.expiry) := h.of_rotors (State.advanceTo_rotors s _)
  have recorded (u : Fmu) : TableInv ((s.advanceTo s.fmu.expiry).withFmu u) := later
  exact (recorded _).passage _ _

/-! ## The owners of the requests -/

theorem ownEnrol (h : TableInv s) (p : List Byte) : TableInv (ownEnrol s p).state := by
  unfold Machine.ownEnrol
  split
  · exact h
  · next i _ =>
    split
    · exact h
    · split
      · exact h
      · split
        · next group roles _ _ =>
          dsimp only
          split
          · exact h
          · refine TableInv.of_rotors ((State.noteRotor_roadFrame _ i).tableInv ?_) rfl
            exact h.setRotor i (recordInv_enrolled group roles _)
        · exact h

theorem ownRelease (h : TableInv s) (p : List Byte) : TableInv (ownRelease s p).state := by
  unfold Machine.ownRelease
  split
  · exact h
  · next i _ =>
    split
    · exact ((State.noteRotor_roadFrame _ i).tableInv (h.setRotor i recordInv_empty)).of_rotors rfl
    · exact h

/-- A PARKED rotor has no attempts behind it (R134). -/
theorem ownSpinUp (h : TableInv s) (p : List Byte) : TableInv (ownSpinUp s p).state := by
  have lifted {i : Slot} (state : (s.rotor i).state = .parked) : TableInv (s.startLift i) := by
    unfold State.startLift
    apply TableInv.changeRotor
    case h => exact h
    case fits =>
      exact (h i).moveTo ((h i).shares (state ▸ nofun)) .lifting nofun (fun _ => (h i).onTheWay (state ▸ rfl)) _
  unfold Machine.ownSpinUp
  split
  · exact h
  · split
    · exact h
    · split
      · exact h
      · next state => exact lifted (not_not.mp state)

theorem ownSetRotorLimits (h : TableInv s) (p : List Byte) : TableInv (ownSetRotorLimits s p).state := by
  unfold Machine.ownSetRotorLimits
  split
  · exact h
  · next i _ =>
    split
    · exact h
    · exact h.setRotor i
        ⟨(h i).shares, (h i).attempts, (h i).onTheWay, (h i).online, (h i).late, (h i).counted, (h i).residues⟩

theorem ownSetRotorRole (h : TableInv s) (p : List Byte) : TableInv (ownSetRotorRole s p).state := by
  unfold Machine.ownSetRotorRole
  split
  · exact h
  · next i _ =>
    split
    · exact h
    · split
      · exact h.setRotor i
          ⟨(h i).shares, (h i).attempts, (h i).onTheWay, (h i).online, (h i).late, (h i).counted, (h i).residues⟩
      · exact h

theorem afterRotorStatus (h : TableInv s) (p : List Byte) : TableInv (afterRotorStatus s p) := by
  unfold Machine.afterRotorStatus
  split
  · exact h
  · next i _ =>
    split
    · exact h.setRotor i ((h i).applyOptions _ _)
    · exact h

end TableInv

theorem TableFits.ownPark {s : State} (h : TableFits s) (p : List Byte) : TableInv (ownPark s p).state := by
  unfold Machine.ownPark
  split
  · exact h.records
  · split
    case h_4 state =>
      split
      · exact h.settle (state ▸ nofun) _
      · exact h.brake _
    case h_9 state =>
      split
      · exact h.records
      · exact h.brake _
    case h_5 | h_6 | h_7 | h_8 => exact h.brake _
    all_goals exact h.records

theorem TableFits.ownResetFault {s : State} (h : TableFits s) (p : List Byte) :
    TableInv (ownResetFault s p).state := by
  unfold Machine.ownResetFault
  split
  · exact h.records
  · next i _ =>
    split
    · next may =>
      simp only [mayReset, Bool.and_eq_true, beq_iff_eq] at may
      obtain ⟨⟨⟨tripped, -⟩, -⟩, -⟩ := may
      have cleared := h.rewrite ((h.records i).withLatched .none) rfl
      refine cleared.settle ?_ _
      rw [State.rotor_setRotor_self, tripped]
      exact nofun
    · exact h.records

/-! ## Every command -/

namespace TableInv

variable {s : State}

section
variable {c : Instr} {t : State} {f : State → State} {k : RequestKind} {suits : List Byte → Bool}
  {owner : State → List Byte → Answer} {after_ : State → List Byte → State}

theorem taking (h : TableInv s) (meaning : exec c s = s.taking f) (he : exec c s = .next t) (kept : TableInv (f s)) :
    TableInv t := by
  rw [meaning] at he
  cases up : s.supply with
  | up => rw [State.taking_up up] at he; cases he; exact kept
  | down => rw [State.taking_down up] at he; cases he; exact h

theorem framed (h : TableInv s) (meaning : exec c s = s.taking f) (he : exec c s = .next t)
    (frame : RoadFrame s (f s)) : TableInv t := h.taking meaning he (frame.tableInv h)

theorem request (h : TableInv s) (meaning : exec c s = s.taking fun s => s.takeRequest k suits owner after_)
    (he : exec c s = .next t) (owned : ∀ p, TableInv (owner s p).state)
    (followed : ∀ u p, TableInv u → TableInv (after_ u p)) : TableInv t := by
  refine h.taking meaning he ?_
  obtain same | ⟨r, -, -, -, -, answered⟩ := s.takeRequest_cases k suits owner after_
  · rw [same]; exact h
  · rw [answered]
    exact followed _ _ ((State.formReply_roadFrame _ _ _ _).tableInv (owned r.payload))

theorem keptRequest (h : TableInv s) (meaning : exec c s = s.taking fun s => s.takeRequest k suits owner nothingAfter)
    (he : exec c s = .next t) (owned : ∀ p, RoadFrame s (owner s p).state) : TableInv t :=
  h.request meaning he (fun p => (owned p).tableInv h) fun _ _ kept => kept

end

end TableInv

/-- Every command keeps the ranges and relations of the records. -/
theorem exec_tableInv (c : Instr) {s t : State} (road : RoadInv s) (h : TableInv s) (he : exec c s = .next t) :
    TableInv t := by
  have fits := h.tableFits road
  have later (dt : Nat) : TableInv (s.advance dt) := (s.advance_roadFrame dt).tableInv h
  have laterFits (dt : Nat) : TableFits (s.advance dt) := (s.advance_roadFrame dt).tableFits fits
  cases c with
  | zeroCrossingEdge dt => exact h.taking (exec_zeroCrossingEdge dt s) he (later dt).edge
  | missingEdgeTimeout => exact h.taking (exec_missingEdgeTimeout s) he h.missingEdge
  | stopAssertion dt steady =>
    refine h.taking (exec_stopAssertion dt steady s) he ?_
    split
    · exact (later dt).assertStop
    · exact later dt
  | stopRelease dt steady =>
    refine h.taking (exec_stopRelease dt steady s) he ?_
    split
    · exact (later dt).of_rotors (by simp [State.releaseStop])
    · exact later dt
  | powerOn line => cases he; exact TableInv.takeReset s _ _ line
  | supplyDip line => cases he; exact TableInv.takeReset s _ _ line
  | frameCompleted => exact h.framed (exec_frameCompleted s) he s.completeFrame_roadFrame
  | gapTimerExpiry => exact h.framed (exec_gapTimerExpiry s) he s.gapExpires_roadFrame
  | replySend => exact h.framed (exec_replySend s) he s.beginReply_roadFrame
  | requestSlotRelease dt line => exact h.taking (exec_requestSlotRelease dt line s) he ((later dt).endReply line)
  | start => exact h.framed (exec_start s) he (s.beginNotice_roadFrame _)
  | eventChange => exact h.framed (exec_eventChange s) he (s.beginNotice_roadFrame _)
  | rotorChange => exact h.framed (exec_rotorChange s) he (s.beginNotice_roadFrame _)
  | orderChange => exact h.framed (exec_orderChange s) he (s.beginNotice_roadFrame _)
  | measurementChange => exact h.framed (exec_measurementChange s) he (s.beginNotice_roadFrame _)
  | haltChange => exact h.framed (exec_haltChange s) he (s.beginNotice_roadFrame _)
  | identify => exact h.keptRequest (exec_identify s) he fun _ => .refl s
  | status => exact h.keptRequest (exec_status s) he fun _ => .refl s
  | clearSummary => exact h.keptRequest (exec_clearSummary s) he fun _ => ⟨rfl, rfl, rfl, rfl⟩
  | setClock => exact h.keptRequest (exec_setClock s) he fun _ => s.withStu_roadFrame _
  | setMode => exact h.keptRequest (exec_setMode s) he (ownSetMode_roadFrame s)
  | setMeasurement => exact h.keptRequest (exec_setMeasurement s) he (ownSetMeasurement_roadFrame s)
  | setEvent => exact h.keptRequest (exec_setEvent s) he (ownSetEvent_roadFrame s)
  | setBankLimits => exact h.keptRequest (exec_setBankLimits s) he (ownSetBankLimits_roadFrame s)
  | setCurve => exact h.keptRequest (exec_setCurve s) he (ownSetCurve_roadFrame s)
  | readCurve => exact h.keptRequest (exec_readCurve s) he fun _ => .refl s
  | readEvents => exact h.keptRequest (exec_readEvents s) he fun _ => .refl s
  | setNotices => exact h.keptRequest (exec_setNotices s) he (ownSetNotices_roadFrame s)
  | restart => exact h.keptRequest (exec_restart s) he (ownRestart_roadFrame s)
  | snapshotPart0 => exact h.keptRequest (exec_snapshotPart0 s) he (ownSnapshotPart0_roadFrame s)
  | snapshotPart1 => exact h.keptRequest (exec_snapshotPart1 s) he (ownSnapshotPart1_roadFrame s)
  | enrol => exact h.request (exec_enrol s) he h.ownEnrol fun _ _ kept => kept
  | release => exact h.request (exec_release s) he h.ownRelease fun _ _ kept => kept
  | spinUp => exact h.request (exec_spinUp s) he h.ownSpinUp fun _ _ kept => kept
  | park => exact h.request (exec_park s) he fits.ownPark fun _ _ kept => kept
  | resetFault => exact h.request (exec_resetFault s) he fits.ownResetFault fun _ _ kept => kept
  | setRotorLimits => exact h.request (exec_setRotorLimits s) he h.ownSetRotorLimits fun _ _ kept => kept
  | setRotorRole => exact h.request (exec_setRotorRole s) he h.ownSetRotorRole fun _ _ kept => kept
  | rotorStatus =>
    exact h.request (exec_rotorStatus s) he (fun p => (ownRotorStatus_roadFrame s p).tableInv h) fun _ p kept =>
      kept.afterRotorStatus p
  | placeOrder => exact h.keptRequest (exec_placeOrder s) he (ownPlaceOrder_roadFrame s)
  | cancelOrder => exact h.keptRequest (exec_cancelOrder s) he (ownCancelOrder_roadFrame s)
  | resumeOrder => exact h.keptRequest (exec_resumeOrder s) he (ownResumeOrder_roadFrame s)
  | orderStatus =>
    exact h.request (exec_orderStatus s) he (fun p => (ownOrderStatus_roadFrame s p).tableInv h) fun u p kept =>
      (afterOrderStatus_roadFrame u p).tableInv kept
  | listOrders => exact h.keptRequest (exec_listOrders s) he fun _ => .refl s
  | poll dt => exact h.taking (exec_poll dt s) he (later dt).pollNext
  | moduleReply dt bytes => exact h.taking (exec_moduleReply dt bytes s) he ((laterFits dt).busBytes bytes)
  | replyWindowClose => exact h.taking (exec_replyWindowClose s) he fits.windowCloses
  | liftTimerExpiry i =>
    exact h.taking (exec_liftTimerExpiry i s) he <|
      fits.timerExpires fun _ hu _ => hu.trip .liftTimeout
  | spinupTimerExpiry i =>
    exact h.taking (exec_spinupTimerExpiry i s) he <|
      fits.timerExpires fun _ hu _ => hu.brake .spinupTimeout
  | syncTimerExpiry i =>
    exact h.taking (exec_syncTimerExpiry i s) he <|
      fits.timerExpires fun _ hu syncing => hu.syncFails syncing
  | linkByteReceived dt byte broken =>
    exact h.taking (exec_linkByteReceived dt byte broken s) he
      ((State.takeByte_roadFrame _ byte broken).tableInv (later dt))
  | noticeFrameEnd dt =>
    exact h.taking (exec_noticeFrameEnd dt s) he ((State.endNotice_roadFrame _).tableInv (later dt))
  | supplyFall dt => exact h.framed (exec_supplyFall dt s) he ⟨rfl, rfl, rfl, rfl⟩

/-- Every step keeps the ranges and relations of the records. -/
theorem step_tableInv {s t : State} (road : RoadInv s) (h : TableInv s) (stepped : step s = .next t) : TableInv t := by
  cases waiting : s.pending with
  | nil => simp only [step, waiting] at stepped; cases stepped; exact h
  | cons c rest =>
    simp only [step, waiting] at stepped
    exact exec_tableInv c (road.withPending rest) (h.of_rotors rfl) stepped

/-- Settles O53, by what every command does to one record; where a queue's head is moved, `TableFits` says what state it
is in. -/
theorem stepKeepsTableInv : Obligations.StepKeepsTableInv := fun _ _ road h stepped => step_tableInv road h stepped

end Sys2Proof.Machine
end

section
/-! The requests that write one slot's record: ENROL (R59, R125), O36; SET ROTOR LIMITS and SET ROTOR ROLE (R61, R72),
O40. The codes of a payload first, then one answer of the owner a case. -/

namespace Sys2Proof.Machine

/-! ## The slot, the group and the roles that a payload names (R189) -/

theorem slotOfCode_of_namesNoSlot {p : List Byte} (h : namesNoSlot p) : slotOfCode (field p 0 1) = none :=
  dif_neg (Nat.not_lt.mpr h)

theorem slotOfCode_of_namesSlot {p : List Byte} {i : Slot} (h : namesSlot p i) : slotOfCode (field p 0 1) = some i := by
  rw [show field p 0 1 = i.val from h]
  exact dif_pos i.isLt

/-- A one-byte field is the byte that stands there. -/
theorem byteOf_field {p : List Byte} {k : Nat} {b : Byte} (h : field p k 1 = b.toNat) : byteOf (field p k 1) = b := by
  rw [h]
  simp [byteOf]

theorem groupOfCode_val (g : Fin 4) : groupOfCode g.val = some g := dif_pos g.isLt

theorem groupOfCode_eq_none {v : Nat} (h : 3 < v) : groupOfCode v = none := dif_neg (Nat.not_lt.mpr h)

/-- The roles of a byte, one a bit (R189). -/
def rolesOfBits (b : Byte) : Roles := ⟨b.getLsbD 0, b.getLsbD 1, b.getLsbD 2, b.getLsbD 3⟩

theorem rolesOfByte_eq_some {b : Byte} (h : b.toNat < 16) : rolesOfByte b = some (rolesOfBits b) := if_pos h

theorem rolesOfByte_eq_none {p : List Byte} {k : Nat} (h : 15 < field p k 1) :
    rolesOfByte (byteOf (field p k 1)) = none := by
  have fits : field p k 1 < 256 := field_lt p k 1
  refine if_neg ?_
  rw [byteOf_toNat fits]
  omega

/-- Group and roles are both known, or one of them is not. -/
theorem codes_unknown {p : List Byte} (h : 3 < field p 1 1 ∨ 15 < field p 2 1) :
    groupOfCode (field p 1 1) = none ∨ rolesOfByte (byteOf (field p 2 1)) = none :=
  h.imp groupOfCode_eq_none rolesOfByte_eq_none

/-! ## SET ROTOR LIMITS (R72) -/

section
variable {s : State} {p : List Byte} {i : Slot}

theorem ownSetRotorLimits_badValue (unnamed : namesNoSlot p) : ownSetRotorLimits s p = refuse s .badValue := by
  simp only [ownSetRotorLimits, slotOfCode_of_namesNoSlot unnamed]

theorem ownSetRotorLimits_offline (named : namesSlot p i) (offline : (s.rotor i).state = .offline) :
    ownSetRotorLimits s p = refuse s .wrongState := by
  simp only [ownSetRotorLimits, slotOfCode_of_namesSlot named, if_pos offline]

/-- The pair is staged as clamped, the rating rounded down; the code says whether either was changed. -/
theorem ownSetRotorLimits_accepts (named : namesSlot p i) (enrolled : (s.rotor i).state ≠ .offline) :
    ownSetRotorLimits s p =
      ⟨s.setRotor i { s.rotor i with staged := some (stagedPair p) },
        if (stagedPair p).rating = field p 1 2 ∧ (stagedPair p).derate = field p 3 1 then .ok else .clamped, []⟩ := by
  simp only [ownSetRotorLimits, slotOfCode_of_namesSlot named, if_neg enrolled, accept]
  congr 1
  apply acceptedCode_eq_ite
  simp only [Bool.or_eq_false_iff, bne_eq_false_iff_eq]

/-! ## SET ROTOR ROLE (R61) -/

theorem ownSetRotorRole_badSlot (unnamed : namesNoSlot p) : ownSetRotorRole s p = refuse s .badValue := by
  simp only [ownSetRotorRole, slotOfCode_of_namesNoSlot unnamed]

theorem ownSetRotorRole_offline (named : namesSlot p i) (offline : (s.rotor i).state = .offline) :
    ownSetRotorRole s p = refuse s .wrongState := by
  simp only [ownSetRotorRole, slotOfCode_of_namesSlot named, if_pos offline]

theorem ownSetRotorRole_unknown (named : namesSlot p i) (enrolled : (s.rotor i).state ≠ .offline)
    (unknown : 3 < field p 1 1 ∨ 15 < field p 2 1) : ownSetRotorRole s p = refuse s .badValue := by
  simp only [ownSetRotorRole, slotOfCode_of_namesSlot named, if_neg enrolled]
  obtain group | roles := codes_unknown unknown
  · simp only [group]
  · rw [roles]
    cases groupOfCode (field p 1 1) <;> rfl

theorem ownSetRotorRole_accepts (named : namesSlot p i) (enrolled : (s.rotor i).state ≠ .offline) {group : Fin 4}
    {roles : Byte} (g : field p 1 1 = group.val) (r : field p 2 1 = roles.toNat) (known : roles.toNat < 16) :
    ownSetRotorRole s p = accept (s.setRotor i { s.rotor i with group := group, roles := rolesOfBits roles }) false := by
  simp only [ownSetRotorRole, slotOfCode_of_namesSlot named, if_neg enrolled, byteOf_field r,
    rolesOfByte_eq_some known, g, groupOfCode_val]

/-! ## ENROL (R59, R125) -/

theorem ownEnrol_badSlot (unnamed : namesNoSlot p) : ownEnrol s p = refuse s .badValue := by
  simp only [ownEnrol, slotOfCode_of_namesNoSlot unnamed]

theorem ownEnrol_halted (named : namesSlot p i) (halted : s.evt.mode = .halted) : ownEnrol s p = refuse s .halted := by
  simp only [ownEnrol, slotOfCode_of_namesSlot named, if_pos halted]

theorem ownEnrol_occupied (named : namesSlot p i) (running : s.evt.mode ≠ .halted)
    (enrolled : (s.rotor i).state ≠ .offline) : ownEnrol s p = refuse s .occupied := by
  simp only [ownEnrol, slotOfCode_of_namesSlot named, if_neg running, if_pos enrolled]

variable (named : namesSlot p i) (running : s.evt.mode ≠ .halted) (offline : (s.rotor i).state = .offline)
include named running offline

theorem ownEnrol_unknown (unknown : 3 < field p 1 1 ∨ 15 < field p 2 1) : ownEnrol s p = refuse s .badValue := by
  simp only [ownEnrol, slotOfCode_of_namesSlot named, if_neg running, offline, ne_eq, not_true_eq_false, if_false]
  obtain group | roles := codes_unknown unknown
  · simp only [group]
  · rw [roles]
    cases groupOfCode (field p 1 1) <;> rfl

variable {group : Fin 4} {roles : Byte} (g : field p 1 1 = group.val) (r : field p 2 1 = roles.toNat)
  (known : roles.toNat < 16)
include g r known

theorem ownEnrol_inconsistent (crossed : speedsConsistent (sentLimits p).clamp = false) :
    ownEnrol s p = refuse s .inconsistent := by
  simp only [ownEnrol, slotOfCode_of_namesSlot named, if_neg running, offline, ne_eq, not_true_eq_false, if_false,
    byteOf_field r, rolesOfByte_eq_some known, g, groupOfCode_val, if_pos crossed]

theorem ownEnrol_accepts (consistent : speedsConsistent (sentLimits p).clamp = true) :
    ownEnrol s p = accept (s.enrol i (enrolledRecord group (rolesOfBits roles) (sentLimits p).clamp))
      ((sentLimits p).clamp != sentLimits p) := by
  simp only [ownEnrol, slotOfCode_of_namesSlot named, if_neg running, offline, ne_eq, not_true_eq_false, if_false,
    byteOf_field r, rolesOfByte_eq_some known, g, groupOfCode_val, consistent, Bool.true_eq_false]

end

/-- An accepted ENROL writes one record, has the change noted and the probe wait; nothing else changes (R125, R144,
R155). -/
theorem State.enrol_eq (s : State) (i : Slot) (r : RotorRecord) :
    s.enrol i r = { s with
      rotors := (s.enrol i r).rotors
      rsq := { s.rsq with changed := (s.enrol i r).rsq.changed }
      rbi := { s.rbi with pendingProbes := insertAscending i s.rbi.pendingProbes }
      lif := (s.enrol i r).lif } := by
  simp only [State.enrol, State.noteRotor, State.addNotice_eq]
  split <;> rfl

theorem State.enrol_noted (s : State) (i : Slot) (r : RotorRecord) : rotorNoted s (s.enrol i r) i :=
  ⟨congrArg Rsq.changed (State.noteRotor_rsq (s.setRotor i r) i), State.noteRotor_lif (s.setRotor i r) i⟩

theorem State.rotor_enrol (s : State) (i j : Slot) (r : RotorRecord) :
    (s.enrol i r).rotor j = if j = i then r else s.rotor j :=
  (State.rotor_congr (State.noteRotor_rotors (s.setRotor i r) i) j).trans (State.rotor_setRotor s i j r)

/-- The limits sent are their own clamps exactly when each lies within its range. -/
theorem sentLimits_clamp_eq_iff (p : List Byte) :
    ((sentLimits p).clamp != sentLimits p) = false ↔
      (10 ≤ field p 3 2 ∧ field p 3 2 ≤ 500) ∧ (1000 ≤ field p 5 4 ∧ field p 5 4 ≤ 400000) ∧
        max 1000 (min 60000 (field p 9 2)) = field p 9 2 ∧ max 1000 (min 60000 (field p 11 2)) = field p 11 2 ∧
        max 1000 (min 60000 (field p 13 2)) = field p 13 2 ∧ (40 ≤ field p 15 1 ∧ field p 15 1 ≤ 120) := by
  simp only [bne_eq_false_iff_eq, EnrolLimits.clamp, sentLimits, EnrolLimits.mk.injEq,
    clampNat_eq_self_iff (show 10 ≤ 500 by decide), clampNat_eq_self_iff (show 1000 ≤ 400000 by decide),
    clampNat_eq_self_iff (show 40 ≤ 120 by decide)]
  rfl

/-! ## The obligations -/

/-- Settles O36, by the six answers of the owner. -/
theorem enrolFillsRecord : Obligations.EnrolFillsRecord := by
  intro s tag p i asks
  rw [exec_enrol, State.taking_request asks rfl ownEnrol]
  refine ⟨fun unnamed => ?_, fun named => ⟨fun halted => ?_, fun running enrolled => ?_, fun running offline => ?_⟩⟩
  · rw [ownEnrol_badSlot unnamed]
    rfl
  · rw [ownEnrol_halted named halted]
    rfl
  · rw [ownEnrol_occupied named running enrolled]
    rfl
  · intro smin sbase smax
    have consistent_iff : speedsConsistent (sentLimits p).clamp = true ↔
        smin < sbase ∧ sbase ≤ smax ∧ smin + 1000 ≤ smax := decide_eq_true_iff
    refine ⟨fun unknown => ?_, fun group roles g r known => ⟨fun crossed => ?_, fun below atMost apart => ?_⟩⟩
    · rw [ownEnrol_unknown named running offline unknown]
      rfl
    · have inconsistent := Bool.eq_false_of_not_eq_true (mt consistent_iff.mp crossed)
      rw [ownEnrol_inconsistent named running offline g r known inconsistent]
      rfl
    · have consistent := consistent_iff.mpr ⟨below, atMost, apart⟩
      rw [ownEnrol_accepts named running offline g r known consistent, accept,
        acceptedCode_eq_ite (sentLimits_clamp_eq_iff p)]
      refine ⟨_, rfl, ?_, s.enrol_noted i _, fun j other => ?_, ?_⟩
      · exact s.enrol_eq i _
      · rw [State.rotor_enrol, if_neg other]
      · rw [State.rotor_enrol, if_pos rfl]
        rfl

/-- Settles O40, by the answers of the two owners. -/
theorem setRotorLimitsAndRole : Obligations.SetRotorLimitsAndRole := by
  refine ⟨fun s tag p i asks => ?_, fun s tag p i asks => ?_⟩
  · rw [exec_setRotorLimits, State.taking_request asks rfl ownSetRotorLimits]
    intro rating derate
    have pair : stagedPair p = ⟨rating, derate⟩ :=
      congrArg (Limits.mk · (clampNat 40 120 (field p 3 1))) (Nat.mul_comm 2 _)
    refine ⟨fun unnamed => ?_, fun named offline => ?_, fun named enrolled => ?_⟩
    · rw [ownSetRotorLimits_badValue unnamed]
      rfl
    · rw [ownSetRotorLimits_offline named offline]
      rfl
    · rw [ownSetRotorLimits_accepts named enrolled, pair]
      rfl
  · rw [exec_setRotorRole, State.taking_request asks rfl ownSetRotorRole]
    refine ⟨fun unnamed => ?_, fun named offline => ?_, fun named enrolled unknown => ?_,
      fun group roles named enrolled g r known => ?_⟩
    · rw [ownSetRotorRole_badSlot unnamed]
      rfl
    · rw [ownSetRotorRole_offline named offline]
      rfl
    · rw [ownSetRotorRole_unknown named enrolled unknown]
      rfl
    · rw [ownSetRotorRole_accepts named enrolled g r known]
      rfl

end Sys2Proof.Machine
end

section
/-! ROTOR STATUS (R58, R76, R192, R196): O41. The rotor snapshot record and the body around it are read off their parts, as
the bank header is; the options act on the record in the state that holds the reply. -/

namespace Sys2Proof.Machine

/-! ## The bytes of the snapshot record (R189, R196) -/

theorem rolesByte_bits (r : Roles) :
    (rolesByte r).getLsbD 0 = r.discharge ∧ (rolesByte r).getLsbD 1 = r.absorb ∧
      (rolesByte r).getLsbD 2 = r.frequency ∧ (rolesByte r).getLsbD 3 = r.order ∧ (rolesByte r).toNat < 16 := by
  obtain ⟨discharge, absorb, frequency, order⟩ := r
  revert discharge absorb frequency order
  decide

theorem moduleFlagsByte_bits (m : ModuleFlags) :
    (moduleFlagsByte m).getLsbD 0 = m.levitated ∧ (moduleFlagsByte m).getLsbD 1 = m.atRest ∧
      (moduleFlagsByte m).getLsbD 2 = m.locked ∧ (moduleFlagsByte m).getLsbD 3 = m.powerCycled ∧
      (moduleFlagsByte m).getLsbD 4 = m.limitsAck ∧ (moduleFlagsByte m).toNat < 32 := by
  obtain ⟨levitated, atRest, locked, powerCycled, limitsAck⟩ := m
  revert levitated atRest locked powerCycled limitsAck
  decide

/-- The marks of the record's offset 11. -/
def RotorRecord.marksByte (r : RotorRecord) : Byte :=
  byteOf (bitAt 0 r.derated + bitAt 1 r.review + bitAt 2 r.staged.isSome + bitAt 3 r.probeNoModule)

theorem RotorRecord.marksByte_bits (r : RotorRecord) :
    r.marksByte.getLsbD 0 = r.derated ∧ r.marksByte.getLsbD 1 = r.review ∧ r.marksByte.getLsbD 2 = r.staged.isSome ∧
      r.marksByte.getLsbD 3 = r.probeNoModule ∧ r.marksByte.toNat < 16 :=
  rolesByte_bits ⟨r.derated, r.review, r.staged.isSome, r.probeNoModule⟩

/-! ## The snapshot record (R196) -/

/-- The record's parts, in order. -/
def RotorRecord.snapshotParts (r : RotorRecord) : List (List Byte) :=
  [[byteOf (rotorStateCode r.state), byteOf (rotorCauseCode r.cause), byteOf r.group.val], [rolesByte r.roles],
    beBytes 2 r.speed, beIntBytes 1 r.temperature, [moduleFlagsByte r.flags],
    [byteOf (faultCodeCode r.faultCode), byteOf (faultCodeCode r.latched)], [byteOf (r.lateCount + 16 * r.attempts)],
    [r.marksByte], beBytes 2 r.soc, beBytes 2 r.ld, beBytes 2 r.la, beIntBytes 2 r.shares.f, beIntBytes 2 r.shares.o,
    beIntBytes 2 r.shares.n]

theorem RotorRecord.snapshot_eq (r : RotorRecord) : r.snapshot = r.snapshotParts.flatten := by
  simp [RotorRecord.snapshot, RotorRecord.snapshotParts, RotorRecord.marksByte]

theorem RotorRecord.snapshotParts_lengths (r : RotorRecord) :
    r.snapshotParts.map List.length = [3, 1, 2, 1, 1, 2, 1, 1, 2, 2, 2, 2, 2, 2] := by
  simp [RotorRecord.snapshotParts]

theorem RotorRecord.snapshot_length (r : RotorRecord) : r.snapshot.length = 24 := by
  rw [RotorRecord.snapshot_eq]
  exact flatten_length r.snapshotParts_lengths

/-- The rotor snapshot record is laid out as R196 has it. -/
theorem RotorRecord.snapshot_laidOut (r : RotorRecord) : snapshotLaidOut r r.snapshot := by
  refine ⟨r.snapshot_length, ?_⟩
  rw [RotorRecord.snapshot_eq]
  have part := @flatten_part _ _ _ r.snapshotParts_lengths
  refine ⟨part 0 rfl rfl rfl,
    ⟨_, getElem?_of_part (part 1 rfl rfl rfl) (i := 0) Nat.one_pos, rolesByte_bits r.roles⟩,
    part 2 rfl rfl rfl, part 3 rfl rfl rfl,
    ⟨_, getElem?_of_part (part 4 rfl rfl rfl) (i := 0) Nat.one_pos, moduleFlagsByte_bits r.flags⟩,
    part 5 rfl rfl rfl, fun late attempts => ?_,
    ⟨_, getElem?_of_part (part 7 rfl rfl rfl) (i := 0) Nat.one_pos, r.marksByte_bits⟩,
    part 8 rfl rfl rfl, part 9 rfl rfl rfl, part 10 rfl rfl rfl, part 11 rfl rfl rfl, part 12 rfl rfl rfl,
    part 13 rfl rfl rfl⟩
  refine ⟨_, getElem?_of_part (part 6 rfl rfl rfl) (i := 0) Nat.one_pos, ?_⟩
  rw [byteOf_toNat (by omega)]
  omega

/-! ## The body of ROTOR STATUS (R192) -/

/-- The staged pair of the body, zeros without one. -/
def RotorRecord.stagedBytes (r : RotorRecord) : List Byte :=
  match r.staged with
  | none => [0#8, 0#8, 0#8]
  | some l => beBytes 2 l.rating ++ beBytes 1 l.derate

theorem RotorRecord.stagedBytes_length (r : RotorRecord) : r.stagedBytes.length = 3 := by
  unfold RotorRecord.stagedBytes
  split <;> simp

/-- The body's parts, in order. -/
def RotorRecord.statusParts (r : RotorRecord) : List (List Byte) :=
  [r.snapshot, beBytes 2 r.limits.rating, beBytes 4 r.eCap, beBytes 2 r.smin, beBytes 2 r.sbase, beBytes 2 r.smax,
    beBytes 1 r.limits.derate, r.stagedBytes, beIntBytes 2 r.actualPower, beBytes 4 r.discharged.kJ,
    beBytes 4 r.absorbed.kJ]

theorem RotorRecord.statusBody_eq (r : RotorRecord) : r.statusBody = r.statusParts.flatten := by
  have none_staged : zeros 3 = [0#8, 0#8, 0#8] := rfl
  cases staged : r.staged <;>
    simp [RotorRecord.statusBody, RotorRecord.statusParts, RotorRecord.stagedBytes, staged, none_staged]

theorem RotorRecord.statusParts_lengths (r : RotorRecord) :
    r.statusParts.map List.length = [24, 2, 4, 2, 2, 2, 1, 3, 2, 4, 4] := by
  simp [RotorRecord.statusParts, RotorRecord.snapshot_length, RotorRecord.stagedBytes_length]

/-! ## The owner and the options (R76) -/

section
variable {s : State} {p : List Byte} {i : Slot}

theorem ownRotorStatus_badSlot (unnamed : namesNoSlot p) : ownRotorStatus s p = refuse s .badValue := by
  simp only [ownRotorStatus, slotOfCode_of_namesNoSlot unnamed]

theorem afterRotorStatus_badSlot (unnamed : namesNoSlot p) : afterRotorStatus s p = s := by
  simp only [afterRotorStatus, slotOfCode_of_namesNoSlot unnamed]

variable (named : namesSlot p i)
include named

theorem ownRotorStatus_unknown (unknown : 3 < field p 1 1) : ownRotorStatus s p = refuse s .badValue := by
  have refused : optionsKnown p = false := decide_eq_false (Nat.not_lt.mpr unknown)
  simp only [ownRotorStatus, slotOfCode_of_namesSlot named, refused, Bool.false_eq_true, if_false]

theorem afterRotorStatus_unknown (unknown : 3 < field p 1 1) : afterRotorStatus s p = s := by
  have refused : optionsKnown p = false := decide_eq_false (Nat.not_lt.mpr unknown)
  simp only [afterRotorStatus, slotOfCode_of_namesSlot named, refused, Bool.false_and, Bool.false_eq_true, if_false]

variable {options : Byte} (sent : field p 1 1 = options.toNat) (known : options.toNat < 4)
include sent known

theorem ownRotorStatus_reports : ownRotorStatus s p = report s (s.rotor i).statusBody := by
  have granted : optionsKnown p = true := decide_eq_true (sent ▸ known)
  simp only [ownRotorStatus, slotOfCode_of_namesSlot named, granted, if_true]

/-- The options act on an enrolled slot alone. -/
theorem afterRotorStatus_options :
    afterRotorStatus s p =
      if (s.rotor i).state = .offline then s
      else s.setRotor i ((s.rotor i).applyOptions (options.getLsbD 0) (options.getLsbD 1)) := by
  have granted : optionsKnown p = true := decide_eq_true (sent ▸ known)
  simp only [afterRotorStatus, slotOfCode_of_namesSlot named, granted, Bool.true_and, byteOf_field sent,
    RotorRecord.enrolled, bne_iff_ne, ite_not]

end

theorem RotorRecord.applyOptions_eq (r : RotorRecord) (acknowledge clear : Bool) :
    r.applyOptions acknowledge clear = { r with
      review := if acknowledge then false else r.review
      discharged := if clear then ⟨0, 0⟩ else r.discharged
      absorbed := if clear then ⟨0, 0⟩ else r.absorbed } := by
  cases acknowledge <;> simp [RotorRecord.applyOptions, Energy.zero]

/-! ## The obligation -/

/-- ROTOR STATUS in the slot: the owner's answer, and then the options (R76, R165). -/
theorem State.taking_rotorStatus {s : State} {tag : Byte} {p : List Byte} (asks : s.asks .rotorStatus tag p) :
    exec .rotorStatus s = .next (afterRotorStatus ((ownRotorStatus s p).state.formReply
      ⟨requestKindByte .rotorStatus, tag, p, false⟩ (ownRotorStatus s p).code (ownRotorStatus s p).body) p) := by
  obtain ⟨up, slot⟩ := asks
  rw [exec_rotorStatus, State.taking_up up, State.takeRequest_slot slot anyPayload rfl]

/-- Settles O41, by the owner's three answers and the parts of the body. -/
theorem rotorStatusReportsThenClears : Obligations.RotorStatusReportsThenClears := by
  intro s tag p i asks
  rw [State.taking_rotorStatus asks]
  refine ⟨fun unnamed => ?_, fun named unknown => ?_, fun options named sent known => ?_⟩
  · rw [ownRotorStatus_badSlot unnamed, afterRotorStatus_badSlot unnamed]
    rfl
  · rw [ownRotorStatus_unknown named unknown, afterRotorStatus_unknown named unknown]
    rfl
  · intro r
    have part := @flatten_part _ _ _ r.statusParts_lengths
    have record : r.statusParts.flatten.take 24 = r.snapshot := part 0 rfl rfl rfl
    refine ⟨r.statusParts.flatten, _, rfl, ?_, flatten_length r.statusParts_lengths,
      record.symm ▸ r.snapshot_laidOut, part 1 rfl rfl rfl, part 2 rfl rfl rfl, part 3 rfl rfl rfl,
      part 4 rfl rfl rfl, part 5 rfl rfl rfl, part 6 rfl rfl rfl, ?_, part 8 rfl rfl rfl, part 9 rfl rfl rfl,
      part 10 rfl rfl rfl⟩
    · rw [ownRotorStatus_reports named sent known, afterRotorStatus_options named sent known,
        RotorRecord.applyOptions_eq, ← r.statusBody_eq]
      exact apply_ite Host.Outcome.next (r.state = .offline) _ _
    · refine (part 7 rfl rfl rfl : _ = r.stagedBytes).trans ?_
      unfold RotorRecord.stagedBytes
      cases r.staged <;> rfl

end Sys2Proof.Machine
end

section
/-! The derived values (R66 to R70): O16. What a dispatch derives, value by value; the shares and the energy counters that a
sample's passage writes besides leave them as derived. -/

namespace Sys2Proof.Machine

namespace RotorRecord

variable (r : RotorRecord)

theorem derive_soc : r.derive.soc = if r.state = .offline then 0 else socOf r := by
  unfold derive
  split
  · rfl
  · split <;> rfl

theorem derive_derated : r.derive.derated = if r.state = .offline then false else isHot r := by
  unfold derive
  split
  · rfl
  · split <;> rfl

theorem derive_ld :
    r.derive.ld = if r.state = .online then
      halveIf (isHot r) (if socOf r = 0 ∨ r.roles.discharge = false then 0 else speedLimit r) else 0 := by
  unfold derive
  split
  · next offline => rw [offline]; rfl
  · split <;> rfl

theorem derive_la :
    r.derive.la = if r.state = .online then
      halveIf (isHot r) (if socOf r = 1000 ∨ r.roles.absorb = false then 0 else speedLimit r) else 0 := by
  unfold derive
  split
  · next offline => rw [offline]; rfl
  · split <;> rfl

/-- Of a record the counting writes the two energy counters (R74). -/
theorem countSetpoint_eq (dt : Nat) :
    r.countSetpoint dt = { r with
      discharged := (r.countSetpoint dt).discharged, absorbed := (r.countSetpoint dt).absorbed } := by
  unfold countSetpoint
  split <;> rfl

end RotorRecord

/-- A sample's passage leaves every record its derived values. -/
theorem State.passage_derived (s : State) (t : Tick) (valid : Bool) (i : Slot) :
    ((s.passage t valid).rotor i).soc = (s.rotor i).derive.soc ∧
      ((s.passage t valid).rotor i).derated = (s.rotor i).derive.derated ∧
      ((s.passage t valid).rotor i).ld = (s.rotor i).derive.ld ∧
      ((s.passage t valid).rotor i).la = (s.rotor i).derive.la := by
  rw [State.passage_rotor, RotorRecord.countSetpoint_eq]
  exact ⟨rfl, rfl, rfl, rfl⟩

/-- The state of charge, as the clamped quotient it is (R67). -/
theorem socOf_cast (r : RotorRecord) :
    (socOf r : Int) = max 0 (min 1000
      ((1000 * ((r.speed : Int) ^ 2 - (r.smin : Int) ^ 2)).tdiv ((r.smax : Int) ^ 2 - (r.smin : Int) ^ 2))) :=
  Int.toNat_of_nonneg clampInt_lower

theorem halveIf_zero (hot : Bool) : halveIf hot 0 = 0 := by cases hot <;> rfl

/-- Settles O16: the derived values are those of `RotorRecord.derive`, each by its equation. -/
theorem derivedValues : Obligations.DerivedValues := by
  intro c s t i brings he r soc limit hot
  obtain ⟨tick, f, now, valid, rfl⟩ := bringsSample_passage_withFmu brings he
  obtain ⟨soc_eq, derated_eq, ld_eq, la_eq⟩ := ((s.withTick tick).withFmu f).passage_derived now valid i
  rw [show ((s.withTick tick).withFmu f).rotor i = r from rfl] at soc_eq derated_eq ld_eq la_eq
  rw [soc_eq, derated_eq, ld_eq, la_eq, r.derive_soc, r.derive_derated, r.derive_ld, r.derive_la]
  have hot_iff : isHot r = true ↔ hot := decide_eq_true_iff
  have halved (v : Nat) : halveIf (isHot r) v = if hot then v / 2 else v := by
    simp only [halveIf, hot_iff]
  have cast : (socOf r : Int) = soc := socOf_cast r
  have empty_iff : socOf r = 0 ↔ soc = 0 := by omega
  have full_iff : socOf r = 1000 ↔ soc = 1000 := by omega
  refine ⟨fun offline => ?_, fun enrolled => ?_, fun idle => ?_, fun online => ?_⟩
  · exact ⟨if_pos offline, if_pos offline⟩
  · rw [if_neg enrolled, if_neg enrolled]
    exact ⟨cast, hot_iff⟩
  · exact ⟨if_neg idle, if_neg idle⟩
  · rw [if_pos online, if_pos online]
    refine ⟨fun none_left => ?_, fun some_left may => ?_, fun full => ?_, fun room may => ?_⟩
    · rw [if_pos (none_left.imp_left empty_iff.mpr), halveIf_zero]
    · rw [if_neg (not_or.mpr ⟨mt empty_iff.mp some_left, may ▸ nofun⟩)]
      exact halved _
    · rw [if_pos (full.imp_left full_iff.mpr), halveIf_zero]
    · rw [if_neg (not_or.mpr ⟨mt full_iff.mp room, may ▸ nofun⟩)]
      exact halved _

end Sys2Proof.Machine
end

section
/-! What a sample's passage leaves unchanged, what it counts into the energy counters, and what the RBI makes of it (R61,
R66, R71, R74, R75, R92, R147, R148): O8. One equation or frame a block, each of them of the passage through any state. -/

namespace Sys2Proof.Machine

/-! ## The rotor records (R66, R74, R89) -/

theorem RotorRecord.derive_eq (r : RotorRecord) :
    r.derive = { r with
      soc := r.derive.soc, ld := r.derive.ld, la := r.derive.la, derated := r.derive.derated } := by
  unfold RotorRecord.derive
  split
  · rfl
  · split <;> rfl

/-- The setpoint of an enrolled rotor is counted into the total of its sign (R74). -/
theorem RotorRecord.countSetpoint_totals (r : RotorRecord) (dt : Nat) :
    r.countSetpoint dt = { r with
      discharged := if r.state = .offline then r.discharged else dischargedAfter r.discharged r.shares.n dt
      absorbed := if r.state = .offline then r.absorbed else absorbedAfter r.absorbed r.shares.n dt } := by
  by_cases offline : r.state = .offline
  · have idle : ¬ r.enrolled = true := by rw [RotorRecord.enrolled, offline]; decide
    rw [if_pos offline, if_pos offline, RotorRecord.countSetpoint, if_neg idle]
  · simp only [RotorRecord.countSetpoint, RotorRecord.enrolled, bne_iff_ne, if_pos offline, if_neg offline, ne_eq]
    rfl

/-- A counter of a rotor passes its largest value when the total of the setpoint's sign does (R75). -/
theorem RotorRecord.counterPasses_iff (r : RotorRecord) (dt : Nat) :
    r.counterPasses dt = true ↔ r.state ≠ .offline ∧
      ((0 < r.shares.n ∧
          4294967295 < r.discharged.kJ + (r.shares.n.natAbs * dt + r.discharged.residue) / 10000000) ∨
        (r.shares.n < 0 ∧
          4294967295 < r.absorbed.kJ + (r.shares.n.natAbs * dt + r.absorbed.residue) / 10000000)) := by
  simp only [RotorRecord.counterPasses, RotorRecord.enrolled, Energy.passes, Bool.and_eq_true, Bool.or_eq_true,
    bne_iff_ne, decide_eq_true_eq]
  rfl

/-- The record as the dispatch leaves it for the RTB's counting (R66, R89). -/
def State.dispatchedRecord (s : State) (t : Tick) (valid : Bool) (i : Slot) : RotorRecord :=
  { (s.rotor i).derive with shares := (s.dispatched t valid).slots[i] }

theorem State.dispatchedRecord_eq (s : State) (t : Tick) (valid : Bool) (i : Slot) :
    s.dispatchedRecord t valid i = { s.rotor i with
      soc := (s.rotor i).derive.soc
      ld := (s.rotor i).derive.ld
      la := (s.rotor i).derive.la
      derated := (s.rotor i).derive.derated
      shares := (s.dispatched t valid).slots[i] } := by
  rw [State.dispatchedRecord, RotorRecord.derive_eq]

/-- The state of a dispatch that the consumers of its result find (R78, R92). -/
def State.computed (s : State) (t : Tick) (valid : Bool) : State :=
  ((s.monitored t valid).computeDispatch (s.measure t valid).2).1

theorem State.computed_rotor (s : State) (t : Tick) (valid : Bool) (i : Slot) :
    (s.computed t valid).rotor i = s.dispatchedRecord t valid i := by
  rw [State.computed, State.computeDispatch_rotor, State.monitored_rotor]
  rfl

/-- What a sample's passage leaves of a record: the derived values, the shares and the totals are written, all else
stays (R66, R74, R89). -/
theorem State.passage_record (s : State) (t : Tick) (valid : Bool) :
    let d := s.dispatched t valid
    ∃ soc ld la : Slot → Nat, ∃ derated : Slot → Bool, ∀ i,
      ((s.passage t valid).rotor i).shares = d.slots[i] ∧
      (s.passage t valid).rotor i = { s.rotor i with
        soc := soc i
        ld := ld i
        la := la i
        derated := derated i
        shares := d.slots[i]
        discharged :=
          if (s.rotor i).state = .offline then (s.rotor i).discharged
          else dischargedAfter (s.rotor i).discharged d.slots[i].n d.dt
        absorbed :=
          if (s.rotor i).state = .offline then (s.rotor i).absorbed
          else absorbedAfter (s.rotor i).absorbed d.slots[i].n d.dt } := by
  intro d
  have record (i : Slot) : (s.passage t valid).rotor i = (s.dispatchedRecord t valid i).countSetpoint d.dt :=
    s.passage_rotor t valid i
  refine ⟨fun i => (s.rotor i).derive.soc, fun i => (s.rotor i).derive.ld, fun i => (s.rotor i).derive.la,
    fun i => (s.rotor i).derive.derated, fun i => ?_⟩
  rw [record, RotorRecord.countSetpoint_totals, State.dispatchedRecord_eq]
  exact ⟨rfl, rfl⟩

/-! ## The summary flags (R24, R75, R83) -/

theorem State.raiseIf_saturated_stu (s : State) (b : Bool) :
    (s.raiseIf b .saturated).stu =
      { s.stu with flags := { s.stu.flags with saturated := s.stu.flags.saturated || b } } := by
  cases b <;> simp [State.raiseIf, State.raise, Summary.raise]

theorem State.raiseIf_unserved_stu (s : State) (b : Bool) :
    (s.raiseIf b .unserved).stu =
      { s.stu with flags := { s.stu.flags with unserved := s.stu.flags.unserved || b } } := by
  cases b <;> simp [State.raiseIf, State.raise, Summary.raise]

theorem State.raiseIf_counter_stu (s : State) (b : Bool) :
    (s.raiseIf b .counter).stu =
      { s.stu with flags := { s.stu.flags with counter := s.stu.flags.counter || b } } := by
  cases b <;> simp [State.raiseIf, State.raise, Summary.raise]

/-- A dispatch sets SATURATED by its mark and UNSERVED by what it leaves unserved. -/
theorem State.computeDispatch_stu (s : State) (sm : Sample) :
    (s.computeDispatch sm).1.stu = { s.stu with flags := { s.stu.flags with
      saturated := s.stu.flags.saturated || (s.computeDispatch sm).2.saturated
      unserved := s.stu.flags.unserved || decide (0 < (s.computeDispatch sm).2.fUnserved) } } := by
  simp [State.computeDispatch, makeRecord, State.raiseIf_unserved_stu, State.raiseIf_saturated_stu]

/-- Of the STU a sample's passage writes three flags: SATURATED, UNSERVED and COUNTER (R24, R75, R83). -/
theorem State.passage_stu (s : State) (t : Tick) (valid : Bool) :
    (s.passage t valid).stu = { s.stu with flags := { s.stu.flags with
      saturated := s.stu.flags.saturated || (s.dispatched t valid).saturated
      unserved := s.stu.flags.unserved || decide (0 < (s.dispatched t valid).fUnserved)
      counter := s.stu.flags.counter ||
        allSlots.any fun i => (s.dispatchedRecord t valid i).counterPasses (s.dispatched t valid).dt } } := by
  have monitored : (s.monitored t valid).stu = s.stu :=
    (State.monitor_monitored _ _).stu.trans (s.measure_stu t valid)
  have counted : (s.passage t valid).stu = { (s.computed t valid).stu with
      flags := { (s.computed t valid).stu.flags with
        counter := (s.computed t valid).stu.flags.counter ||
          allSlots.any fun i => ((s.computed t valid).rotor i).counterPasses (s.dispatched t valid).dt } } := by
    simp [State.passage, State.dispatch, State.consume, State.countThroughput, State.raiseIf_counter_stu,
      State.computed, State.dispatched, State.monitored, State.rotor]
  rw [counted, funext (s.computed_rotor t valid), State.computed, State.computeDispatch_stu, monitored]
  rfl

/-- COUNTER is set where it was, and where the setpoint of an enrolled rotor would carry a counter past its largest value
(R75). -/
theorem State.passage_counter_iff (s : State) (t : Tick) (valid : Bool) :
    let d := s.dispatched t valid
    (s.passage t valid).stu.flags.counter = true ↔ s.stu.flags.counter = true ∨
      ∃ i, (s.rotor i).state ≠ .offline ∧
        ((0 < d.slots[i].n ∧ 4294967295 < (s.rotor i).discharged.kJ +
            (d.slots[i].n.natAbs * d.dt + (s.rotor i).discharged.residue) / 10000000) ∨
          (d.slots[i].n < 0 ∧ 4294967295 < (s.rotor i).absorbed.kJ +
            (d.slots[i].n.natAbs * d.dt + (s.rotor i).absorbed.residue) / 10000000)) := by
  simp only [State.passage_stu, Bool.or_eq_true, List.any_eq_true, allSlots, List.mem_finRange, true_and,
    RotorRecord.counterPasses_iff, State.dispatchedRecord_eq]

/-! ## The LIF, the EVT and the DSE (R92) -/

/-- Of the LIF a sample's passage adds three notices at most. -/
theorem State.passage_lif (s : State) (t : Tick) (valid : Bool) :
    (s.passage t valid).lif = { s.lif with pendingNotices := { s.lif.pendingNotices with
      event := (s.passage t valid).lif.pendingNotices.event
      order := (s.passage t valid).lif.pendingNotices.order
      measurement := (s.passage t valid).lif.pendingNotices.measurement } } := by
  obtain ⟨e, o, passed⟩ := (s.passage_sampleFrame t valid).lif
  obtain ⟨m, measured⟩ := s.measure_lif t valid
  rw [passed, measured]

/-- Of the EVT the handling of a sample writes none of the host's settings and not the stop level. -/
theorem Monitored.evtSettings {s t : State} (monitored : Monitored s t) :
    t.evt = { s.evt with
      mode := t.evt.mode, savedMode := t.evt.savedMode, memory := t.evt.memory, recovery := t.evt.recovery,
      history := t.evt.history, eventNumber := t.evt.eventNumber } := by
  cases monitored with
  | followed follows calm =>
    obtain ⟨memory, recovery, change, -, rfl⟩ := follows
    rfl
  | opened mode =>
    rw [State.openEvent_evt]
    rfl
  | ended follows mode cause_ne =>
    obtain ⟨memory, recovery, change, -, rfl⟩ := follows
    rw [State.endEvent_evt]
    rfl

/-- Of the DSE the end of an event brings the curve held back into force, and nothing else is written (R28, R29). -/
theorem Monitored.dseSettings {s t : State} (monitored : Monitored s t) :
    t.dse = { s.dse with curve := t.dse.curve, pendingCurve := t.dse.pendingCurve } := by
  cases monitored with
  | followed follows calm => rfl
  | opened mode => simp [State.openEvent]
  | ended follows mode cause_ne =>
    rw [State.endEvent_dse]
    unfold Dse.activatePending
    split <;> rfl

theorem State.passage_evtSettings (s : State) (t : Tick) (valid : Bool) :
    (s.passage t valid).evt = { s.evt with
      mode := (s.passage t valid).evt.mode, savedMode := (s.passage t valid).evt.savedMode
      memory := (s.passage t valid).evt.memory, recovery := (s.passage t valid).evt.recovery
      history := (s.passage t valid).evt.history, eventNumber := (s.passage t valid).evt.eventNumber } := by
  have settings := (State.monitor_monitored (s.measure t valid).1 (s.measure t valid).2).evtSettings
  rw [State.measure_evt] at settings
  rw [State.passage_evt, State.monitored, settings]

theorem State.passage_dseSettings (s : State) (t : Tick) (valid : Bool) :
    (s.passage t valid).dse = { s.dse with
      curve := (s.passage t valid).dse.curve, pendingCurve := (s.passage t valid).dse.pendingCurve
      latest := (s.passage t valid).dse.latest } := by
  have settings := (State.monitor_monitored (s.measure t valid).1 (s.measure t valid).2).dseSettings
  rw [State.measure_dse] at settings
  rw [State.passage_dse, State.monitored, settings]

/-! ## The RBI (R147, R148) -/

theorem polledState_eq (st : RotorState) : polledState st = (st != .offline && st != .probing) := by
  cases st <;> rfl

/-- A round that begins is composed from the rotor states and the pending probes as they stand (R148). -/
theorem State.beginRound_rbi (s : State) (setpoints : Vector Int 16) :
    (s.beginRound setpoints).rbi = roundBegun s.rbi s.rotor setpoints := by
  simp only [State.beginRound, roundBegun, polledState_eq, State.withRbi_rbi, Bool.and_eq_true, List.isEmpty_iff]

/-- A round is composed by the states alone. -/
theorem roundBegun_congr {rotor rotor' : Slot → RotorRecord} (states : ∀ i, (rotor i).state = (rotor' i).state) (b : Rbi)
    (setpoints : Vector Int 16) : roundBegun b rotor setpoints = roundBegun b rotor' setpoints := by
  simp only [roundBegun, states]

theorem Monitored.rbi {s t : State} (monitored : Monitored s t) : t.rbi = s.rbi := by
  cases monitored with
  | followed follows calm => rfl
  | opened mode => simp [State.openEvent]
  | ended follows mode cause_ne => rw [State.endEvent_eq]; rfl

theorem State.monitored_rbi (s : State) (t : Tick) (valid : Bool) : (s.monitored t valid).rbi = s.rbi :=
  (State.monitor_monitored _ _).rbi.trans (by simp [State.measure])

/-- The consumers of a dispatch result find the RBI as the sample found it. -/
theorem State.computed_rbi (s : State) (t : Tick) (valid : Bool) : (s.computed t valid).rbi = s.rbi := by
  rw [← s.monitored_rbi t valid]
  simp [State.computed, State.computeDispatch]

theorem State.passage_rbi (s : State) (t : Tick) (valid : Bool) :
    (s.passage t valid).rbi = ((s.computed t valid).takeSetpoints (s.dispatched t valid)).rbi := by
  simp [State.passage, State.dispatch, State.consume, State.computed, State.dispatched, State.monitored]

/-- With no round in progress one begins with the dispatch's setpoints, and with one they become the pending result. -/
theorem State.passage_rbi_round (s : State) (t : Tick) (valid : Bool) :
    (s.rbi.round = none →
      (s.passage t valid).rbi =
        roundBegun s.rbi s.rotor (Vector.ofFn fun i : Fin 16 => (s.dispatched t valid).slots[i].n)) ∧
    (s.rbi.round ≠ none →
      (s.passage t valid).rbi =
        { s.rbi with pendingResult := some (Vector.ofFn fun i : Fin 16 => (s.dispatched t valid).slots[i].n) }) := by
  have states (i : Slot) : ((s.computed t valid).rotor i).state = (s.rotor i).state := by
    rw [State.computed_rotor]
    exact (s.rotor i).derive_state
  have taken := (s.computed t valid).takeSetpoints_cases (s.dispatched t valid)
  rw [s.computed_rbi] at taken
  rw [State.passage_rbi]
  obtain ⟨idle, begun⟩ | ⟨busy, held⟩ := taken
  · refine ⟨fun _ => ?_, fun busy => absurd idle busy⟩
    rw [begun, State.beginRound_rbi, s.computed_rbi, roundBegun_congr states]
    rfl
  · refine ⟨fun idle => absurd idle busy, fun _ => ?_⟩
    rw [held, State.withRbi_rbi]
    rfl

/-! ## The obligation -/

/-- Settles O8, block by block, each by what a sample's passage makes of it. -/
theorem sampleFrameAndThroughput : Obligations.SampleFrameAndThroughput := by
  intro c s t d brings he latest
  obtain ⟨tick, f, now, valid, rfl⟩ := bringsSample_passage_withFmu brings he
  rw [State.passage_latest, Option.some.injEq] at latest
  subst latest
  have frame := ((s.withTick tick).withFmu f).passage_sampleFrame now valid
  refine ⟨⟨?_, ?_, ?_⟩, ?_, ?_, ?_, State.passage_lif _ now valid, State.passage_evtSettings _ now valid,
    State.passage_dseSettings _ now valid, State.passage_rbi_round ((s.withTick tick).withFmu f) now valid⟩
  · exact frame.supply.trans (by simp [State.measure])
  · exact frame.rsq.trans (by simp [State.measure])
  · exact frame.pending.trans (by simp [State.measure])
  · exact State.passage_record _ now valid
  · exact State.passage_counter_iff _ now valid
  · rw [State.passage_stu]
    rfl

end Sys2Proof.Machine
end

section
/-! The share procedure (R79, R80) and the frequency pass (R81 to R83): O19. What the two passes hand out in all, and to whom;
then the pass's eligible rotors, and the dispatch record's figures by them. -/

namespace Sys2Proof.Machine

/-! ## What the share procedure hands out (R79, R80) -/

/-- What the first pass leaves of the rooms of the rotors. -/
def spareRoom (target total : Nat) (cs : List Candidate) : Nat :=
  (cs.map fun c => c.room - proportion target total c).sum

theorem proportion_le_room (target total : Nat) (c : Candidate) : proportion target total c ≤ c.room :=
  Nat.min_le_left _ _

/-- The second pass hands out what the first has left, or all the room that is left. -/
theorem servedOf_sweep (target total : Nat) (remainder : Nat) (cs : List Candidate) :
    servedOf (sweep target total remainder cs) =
      (cs.map (proportion target total)).sum + min remainder (spareRoom target total cs) := by
  induction cs generalizing remainder with
  | nil => simp [sweep, servedOf, spareRoom]
  | cons c rest ih =>
    have rest_served := ih (remainder - min remainder (c.room - proportion target total c))
    simp only [servedOf, spareRoom] at rest_served ⊢
    simp only [sweep, List.map_cons, List.sum_cons, rest_served]
    omega

/-- The proportions of the first pass, each truncated, add up to the target at most. -/
theorem sum_proportion_le (target : Nat) (cs : List Candidate) :
    (cs.map (proportion target (totalWeight cs))).sum ≤ target := by
  have scaled (total : Nat) (l : List Candidate) :
      (l.map (proportion target total)).sum * total ≤ target * totalWeight l := by
    induction l with
    | nil => simp [totalWeight]
    | cons c rest ih =>
      have share : proportion target total c * total ≤ target * c.weight :=
        (Nat.mul_le_mul_right _ (Nat.min_le_right _ _)).trans (Nat.div_mul_le_self _ _)
      simp only [totalWeight, List.map_cons, List.sum_cons, Nat.add_mul, Nat.mul_add] at ih ⊢
      exact Nat.add_le_add share ih
  obtain weightless | positive := Nat.eq_zero_or_pos (totalWeight cs)
  · have nothing (c : Candidate) : proportion target 0 c = 0 := by simp [proportion]
    rw [weightless, List.map_congr_left fun c _ => nothing c]
    simp
  · exact Nat.le_of_mul_le_mul_right (scaled _ cs) positive

/-- The first pass and the room it leaves make up the rooms. -/
theorem sum_proportion_add_spareRoom (target total : Nat) (cs : List Candidate) :
    (cs.map (proportion target total)).sum + spareRoom target total cs = (cs.map fun c => c.room).sum := by
  induction cs with
  | nil => rfl
  | cons c rest ih =>
    have within := proportion_le_room target total c
    simp only [spareRoom, List.map_cons, List.sum_cons] at ih ⊢
    omega

/-- What is served is the target, or all the room there is where that is less (R80). -/
theorem servedOf_shareOut (target : Nat) (cs : List Candidate) :
    servedOf (shareOut target cs) = min target (cs.map fun c => c.room).sum := by
  have atMost := sum_proportion_le target cs
  have rooms := sum_proportion_add_spareRoom target (totalWeight cs) cs
  rw [shareOut, servedOf_sweep]
  omega

/-- Each eligible rotor has one share, in the order of the slots. -/
theorem slots_shareOut (target : Nat) (cs : List Candidate) :
    (shareOut target cs).map (fun x => x.slot) = cs.map fun c => c.slot := by
  have swept (total : Nat) (remainder : Nat) (l : List Candidate) :
      (sweep target total remainder l).map (fun x => x.slot) = l.map fun c => c.slot := by
    induction l generalizing remainder with
    | nil => rfl
    | cons c rest ih => simp [sweep, ih]
  exact swept _ _ _

/-- A share is found by its slot where no slot has two. -/
theorem shareOf_of_mem {shares : List Share} (once : (shares.map fun x => x.slot).Nodup) {x : Share} (mem : x ∈ shares) :
    shareOf shares x.slot = x.amount := by
  have found : shares.find? (fun y => y.slot == x.slot) = some x := by
    induction shares with
    | nil => cases mem
    | cons y rest ih =>
      obtain ⟨apart, distinct⟩ := List.nodup_cons.mp once
      obtain rfl | later := List.mem_cons.mp mem
      · exact List.find?_cons_of_pos (beq_self_eq_true _)
      · have other : y.slot ≠ x.slot := fun same => apart (List.mem_map.mpr ⟨x, later, same.symm⟩)
        rw [List.find?_cons_of_neg (by simpa using other)]
        exact ih distinct later
  rw [shareOf, found]
  rfl

/-- A slot without a share has 0 of the pass. -/
theorem shareOf_of_not_mem {shares : List Share} {i : Slot} (absent : i ∉ shares.map fun x => x.slot) :
    shareOf shares i = 0 := by
  have missing : shares.find? (fun x => x.slot == i) = none := by
    rw [List.find?_eq_none]
    intro x mem same
    exact absent (beq_iff_eq.mp same ▸ List.mem_map_of_mem mem)
  rw [shareOf, missing]
  rfl

/-! ## The eligible rotors of the frequency pass (R70, R81) -/

/-- The weight of a rotor in the direction of F (R70). -/
def frequencyWeight (f : Int) (r : RotorRecord) : Nat :=
  if 0 < f then r.eCap * r.soc / 1000 else r.eCap * (1000 - r.soc) / 1000

/-- The room that the pass has of a rotor: its limit in the direction of F where it is eligible, else none (R81). -/
def frequencyRoom (f : Int) (r : RotorRecord) : Nat :=
  if r.state = .online ∧ r.roles.frequency = true ∧ 0 < frequencyWeight f r then if 0 < f then r.ld else r.la else 0

theorem frequencyCandidate_eq (f : Int) (i : Slot) (r : RotorRecord) :
    frequencyCandidate (decide (0 < f)) i r =
      if 0 < frequencyRoom f r then some ⟨i, frequencyWeight f r, frequencyRoom f r⟩ else none := by
  have weight : (if 0 < f then dischargeWeight r else absorbWeight r) = frequencyWeight f r := rfl
  simp only [frequencyCandidate, decide_eq_true_eq, weight]
  by_cases takesPart : r.state = .online ∧ r.roles.frequency = true ∧ 0 < frequencyWeight f r
  · have room : frequencyRoom f r = if 0 < f then r.ld else r.la := if_pos takesPart
    obtain ⟨online, role, weighs⟩ := takesPart
    simp only [room, online, role, weighs, true_and, and_true]
  · have passedOver : ¬ (r.state = .online ∧ r.roles.frequency = true ∧ 0 < (if 0 < f then r.ld else r.la) ∧
        0 < frequencyWeight f r) := fun ⟨online, role, _, weighs⟩ => takesPart ⟨online, role, weighs⟩
    have empty : frequencyRoom f r = 0 := if_neg takesPart
    rw [if_neg passedOver, empty, if_neg (Nat.lt_irrefl 0)]

/-- The eligible rotors, ascending, each with its weight and its room (R81). -/
def frequencyEligible (f : Int) (rotor : Slot → RotorRecord) : List Candidate :=
  (allSlots.filter fun i => 0 < frequencyRoom f (rotor i)).map fun i =>
    ⟨i, frequencyWeight f (rotor i), frequencyRoom f (rotor i)⟩

theorem State.frequencyCandidates_eq (s : State) (f : Int) :
    s.frequencyCandidates (decide (0 < f)) = frequencyEligible f s.rotor := by
  rw [frequencyEligible, ← List.filterMap_eq_map, List.filterMap_filter, State.frequencyCandidates]
  refine List.filterMap_congr fun i _ => ?_
  simp only [frequencyCandidate_eq, decide_eq_true_eq, Function.comp]

/-- The rooms of the eligible rotors are all the room there is. -/
theorem sum_room_frequencyEligible (f : Int) (rotor : Slot → RotorRecord) :
    ((frequencyEligible f rotor).map fun c => c.room).sum = (allSlots.map fun i => frequencyRoom f (rotor i)).sum := by
  have kept (room : Slot → Nat) (l : List Slot) : ((l.filter fun i => 0 < room i).map room).sum = (l.map room).sum := by
    induction l with
    | nil => rfl
    | cons i rest ih =>
      obtain empty | positive := Nat.eq_zero_or_pos (room i)
      · simpa [empty] using ih
      · simpa [positive] using ih
  rw [frequencyEligible, List.map_map]
  exact kept _ _

theorem slots_frequencyEligible (f : Int) (rotor : Slot → RotorRecord) :
    (frequencyEligible f rotor).map (fun c => c.slot) = allSlots.filter fun i => 0 < frequencyRoom f (rotor i) := by
  rw [frequencyEligible, List.map_map]
  exact List.map_id _

/-! ## The pass (R81 to R83) -/

/-- The shares of the frequency pass by the rotor records; with F = 0 there are none. -/
def frequencyShares (f : Int) (rotor : Slot → RotorRecord) : List Share :=
  if f = 0 then [] else shareOut f.natAbs (frequencyEligible f rotor)

theorem State.frequencyPass_eq (s : State) (f : Int) : s.frequencyPass f = frequencyShares f s.rotor := by
  rw [State.frequencyPass, frequencyShares, State.frequencyCandidates_eq]

section
variable (f : Int) (rotor : Slot → RotorRecord)

/-- The pass serves the demand, or all the room its eligible rotors have. -/
theorem servedOf_frequencyShares :
    servedOf (frequencyShares f rotor) = min f.natAbs (allSlots.map fun i => frequencyRoom f (rotor i)).sum := by
  unfold frequencyShares
  split
  · next zero => simp [zero, servedOf]
  · rw [servedOf_shareOut, sum_room_frequencyEligible]

/-- A slot without room has no share. -/
theorem shareOf_frequencyShares_of_room_zero {i : Slot} (empty : frequencyRoom f (rotor i) = 0) :
    shareOf (frequencyShares f rotor) i = 0 := by
  apply shareOf_of_not_mem
  unfold frequencyShares
  split
  · exact List.not_mem_nil
  · rw [slots_shareOut, slots_frequencyEligible, List.mem_filter, empty]
    simp

/-- A slot has the share that the share procedure gives it; of a demand of 0 that is 0. -/
theorem shareOf_frequencyShares_of_mem {x : Share} (mem : x ∈ shareOut f.natAbs (frequencyEligible f rotor)) :
    shareOf (frequencyShares f rotor) x.slot = x.amount := by
  unfold frequencyShares
  split
  · next zero =>
    have atMost : x.amount ≤ servedOf (shareOut f.natAbs (frequencyEligible f rotor)) :=
      List.le_sum_of_mem (List.mem_map_of_mem mem)
    rw [servedOf_shareOut, zero, Int.natAbs_zero, Nat.zero_min] at atMost
    exact (Nat.le_zero.mp atMost).symm
  · refine shareOf_of_mem ?_ mem
    rw [slots_shareOut, slots_frequencyEligible]
    exact (List.nodup_finRange 16).filter _

end

/-! ## The dispatch record's figures (R82, R83, R89) -/

/-- The frequency figures of a dispatch, by the derived records. -/
theorem State.computeDispatch_frequency (s : State) (sm : Sample) :
    let d := (s.computeDispatch sm).2
    let shares := frequencyShares d.demand fun i => (s.rotor i).derive
    d.fServed = servedOf shares ∧ d.fUnserved = d.demand.natAbs - d.fServed ∧
      ∀ i, d.slots[i].f = if (s.rotor i).state = .online then withSignOf d.demand (shareOf shares i) else 0 := by
  have records (b : Bool) :
      ((s.raiseIf b .saturated).mapRotors fun _ r => r.derive).rotor = fun i => (s.rotor i).derive := by
    funext i
    rw [State.rotor_mapRotors, State.rotor_congr (State.raiseIf_rotors s b _)]
  have state (b b' : Bool) (plant : Nat) (i : Slot) :
      (((((s.raiseIf b .saturated).mapRotors fun _ r => r.derive).raiseIf b' .unserved).demandRequest plant).rotor
        i).state = (s.rotor i).state := by
    rw [State.rotor_congr ((State.demandRequest_rotors _ _).trans (State.raiseIf_rotors _ _ _)), records,
      RotorRecord.derive_state]
  simp only [State.computeDispatch, makeRecord, State.frequencyPass_eq, records, state, Fin.getElem_fin,
    Vector.getElem_ofFn, Fin.eta, true_and]
  intro i
  split <;> rfl

/-- The figures of the dispatch that a sample brings. -/
theorem State.dispatched_frequency (s : State) (t : Tick) (valid : Bool) :
    let d := s.dispatched t valid
    let shares := frequencyShares d.demand (s.dispatchedRecord t valid)
    d.fServed = servedOf shares ∧ d.fUnserved = d.demand.natAbs - d.fServed ∧
      ∀ i, d.slots[i].f = if (s.rotor i).state = .online then withSignOf d.demand (shareOf shares i) else 0 := by
  have figures := (s.monitored t valid).computeDispatch_frequency (s.measure t valid).2
  simp only [State.monitored_rotor] at figures
  exact figures

/-- A demand's shares and rooms are of the values that the RTB's counting leaves as they are. -/
theorem State.frequencyRoom_passage (f : Int) (s : State) (t : Tick) (valid : Bool) (i : Slot) :
    frequencyWeight f ((s.passage t valid).rotor i) = frequencyWeight f (s.dispatchedRecord t valid i) ∧
      frequencyRoom f ((s.passage t valid).rotor i) = frequencyRoom f (s.dispatchedRecord t valid i) := by
  have record : (s.passage t valid).rotor i =
      (s.dispatchedRecord t valid i).countSetpoint (s.dispatched t valid).dt := s.passage_rotor t valid i
  rw [record, RotorRecord.countSetpoint_eq]
  exact ⟨rfl, rfl⟩

/-- The figures of the pass by the records as the sample leaves them. -/
theorem State.passage_frequency (s : State) (t : Tick) (valid : Bool) :
    let d := s.dispatched t valid
    let rotor := (s.passage t valid).rotor
    d.fServed = min d.demand.natAbs (allSlots.map fun i => frequencyRoom d.demand (rotor i)).sum ∧
      d.fUnserved = d.demand.natAbs - d.fServed ∧
      (∀ i, frequencyRoom d.demand (rotor i) = 0 → d.slots[i].f = 0) ∧
      ∀ x ∈ shareOut d.demand.natAbs (frequencyEligible d.demand rotor),
        d.slots[x.slot].f = withSignOf d.demand x.amount := by
  intro d rotor
  have rooms : (fun i => frequencyRoom d.demand (rotor i)) =
      fun i => frequencyRoom d.demand (s.dispatchedRecord t valid i) :=
    funext fun i => (s.frequencyRoom_passage d.demand t valid i).2
  have eligible : frequencyEligible d.demand rotor = frequencyEligible d.demand (s.dispatchedRecord t valid) := by
    simp only [frequencyEligible, rotor, State.frequencyRoom_passage]
  obtain ⟨served, unserved, shares⟩ := s.dispatched_frequency t valid
  refine ⟨?_, unserved, fun i empty => ?_, fun x mem => ?_⟩
  · rw [served, servedOf_frequencyShares, rooms]
  · rw [shares, shareOf_frequencyShares_of_room_zero _ _ ((congrFun rooms i).symm.trans empty)]
    split
    · exact ite_self _
    · rfl
  · rw [eligible] at mem
    have online : (s.rotor x.slot).state = .online := by
      have listed := List.mem_map_of_mem (f := fun x => x.slot) mem
      rw [slots_shareOut, slots_frequencyEligible, List.mem_filter, decide_eq_true_eq] at listed
      by_contra idle
      refine absurd listed.2 (Nat.not_lt.mpr (Nat.le_of_eq (if_neg fun takesPart => idle ?_)))
      exact (s.rotor x.slot).derive_state.symm.trans takesPart.1
    rw [shares, if_pos online, shareOf_frequencyShares_of_mem _ _ mem]

/-! ## The obligation -/

/-- Settles O19: the figures of the pass, and the flag UNSERVED by what it leaves unserved. -/
theorem frequencyPassServes : Obligations.FrequencyPassServes := by
  intro c s t d brings he latest
  obtain ⟨tick, u, now, valid, rfl⟩ := bringsSample_passage_withFmu brings he
  rw [State.passage_latest, Option.some.injEq] at latest
  subst latest
  obtain ⟨served, unserved, empty, share⟩ := ((s.withTick tick).withFmu u).passage_frequency now valid
  refine ⟨served, unserved, empty, share, ?_⟩
  rw [State.passage_stu]
  rfl

end Sys2Proof.Machine
end

section
/-! Reply frames of the rotor bus (R62, R199): O46. A number laid out in bytes is read back from them; a frame's fields are
then its parts; and the twelve bytes of a frame are found behind any bytes that are not 0xB2. -/

namespace Sys2Proof.Machine

/-! ## Numbers in bytes (R189) -/

/-- The last n bytes of a number are read back as its remainder. -/
theorem beNat_beBytes (n v : Nat) : beNat (beBytes n v) = v % 256 ^ n := by
  have folded (acc : Nat) :
      (beBytes n v).foldl (fun acc b => acc * 256 + b.toNat) acc = acc * 256 ^ n + v % 256 ^ n := by
    induction n generalizing acc with
    | zero => simp [beBytes, Nat.mod_one]
    | succ n ih =>
      have digits : v % 256 ^ (n + 1) = v % 256 ^ n + 256 ^ n * (v / 256 ^ n % 256) := by
        rw [Nat.pow_succ, Nat.mod_mul]
      rw [beBytes, List.foldl_cons, ih, digits, BitVec.toNat_ofNat, Nat.pow_succ]
      ring
  rw [beNat, folded, Nat.zero_mul, Nat.zero_add]

/-- A signed number in the range of n bytes is read back from them. -/
theorem beInt_beIntBytes {n : Nat} {v : Int} (lower : -(256 ^ n : Nat) ≤ 2 * v) (upper : 2 * v < (256 ^ n : Nat)) :
    beInt (beIntBytes n v) = v := by
  have positive : 0 < 256 ^ n := Nat.pow_pos (by decide)
  rw [beInt, beIntBytes_length, beIntBytes, beNat_beBytes]
  generalize 256 ^ n = m at *
  obtain below | above := lt_or_ge v 0
  · have wrapped : v % (m : Int) = v + m := by
      rw [← Int.add_emod_right, Int.emod_eq_of_lt (by omega) (by omega)]
    rw [wrapped, Nat.mod_eq_of_lt (by omega), if_neg (by omega)]
    omega
  · rw [Int.emod_eq_of_lt above (by omega), Nat.mod_eq_of_lt (by omega), if_pos (by omega)]
    omega

theorem beNat_singleton (b : Byte) : beNat [b] = b.toNat := by simp [beNat]

/-! ## The bytes of a frame among those received (R199) -/

/-- Bytes before the first 0xB2 are discarded. -/
theorem replyBytesFrom_junk {junk : List Byte} (clear : ∀ b ∈ junk, b ≠ 0xB2#8) (rest : List Byte) :
    replyBytesFrom (junk ++ 0xB2#8 :: rest) = 0xB2#8 :: rest := by
  rw [replyBytesFrom, List.dropWhile_append_of_pos fun b mem => bne_iff_ne.mpr (clear b mem)]
  exact List.dropWhile_cons_of_neg (by decide)

/-- Bytes without a 0xB2 are all discarded. -/
theorem replyBytesFrom_clear {bytes : List Byte} (clear : ∀ b ∈ bytes, b ≠ 0xB2#8) : replyBytesFrom bytes = [] :=
  List.dropWhile_eq_nil_iff.mpr fun b mem => bne_iff_ne.mpr (clear b mem)

/-- Twelve bytes from a 0xB2 on are the frame, whatever follows them. -/
theorem assembleReply_frame {junk : List Byte} (clear : ∀ b ∈ junk, b ≠ 0xB2#8) {rest : List Byte}
    (length : rest.length = 11) (extra : List Byte) :
    assembleReply (junk ++ (0xB2#8 :: rest ++ extra)) = some (0xB2#8 :: rest) := by
  have twelve : (0xB2#8 :: rest).length = 12 := by rw [List.length_cons, length]
  have frame : (0xB2#8 :: rest ++ extra).take 12 = 0xB2#8 :: rest := List.take_left' twelve
  rw [List.cons_append] at frame
  rw [assembleReply, List.cons_append, replyBytesFrom_junk clear, frame, if_pos twelve]

/-! ## The reading of a frame (R62, R199) -/

/-- A fault code above 5 is read as INTERNAL (R62). -/
theorem faultCodeOfByte_eq (fault : Byte) :
    faultCodeOfByte fault =
      if fault = 0#8 then .none else if fault = 1#8 then .overspeed else if fault = 2#8 then .bearing
      else if fault = 3#8 then .thermal else if fault = 4#8 then .converter else .internal := by
  have byte {b : Byte} (code : fault.toNat = b.toNat) : fault = b := BitVec.eq_of_toNat_eq code
  unfold faultCodeOfByte
  split
  · next code => rw [byte (b := 0#8) code]; rfl
  · next code => rw [byte (b := 1#8) code]; rfl
  · next code => rw [byte (b := 2#8) code]; rfl
  · next code => rw [byte (b := 3#8) code]; rfl
  · next code => rw [byte (b := 4#8) code]; rfl
  · next h0 h1 h2 h3 h4 =>
    have other {b : Byte} (code : fault.toNat ≠ b.toNat) : fault ≠ b := fun same => code (same ▸ rfl)
    rw [if_neg (other (b := 0#8) h0), if_neg (other (b := 1#8) h1), if_neg (other (b := 2#8) h2),
      if_neg (other (b := 3#8) h3), if_neg (other (b := 4#8) h4)]

theorem slotOfCode_val (i : Slot) : slotOfCode i.val = some i := dif_pos i.isLt

/-- The body of a reply frame by R199, in parts. -/
def replyParts (slot : Slot) (tag flags fault : Byte) (speed : Nat) (power temperature : Int) : List (List Byte) :=
  [[0xB2#8], [byteOf slot.val], [tag], beBytes 2 speed, beIntBytes 2 power, beIntBytes 1 temperature, [flags], [fault]]

/-- A frame whose check agrees is read by its parts. -/
theorem readReply_parts (slot : Slot) (tag flags fault : Byte) {speed : Nat} {power temperature : Int}
    (hspeed : speed < 65536) (lowPower : -32768 ≤ power) (highPower : power ≤ 32767)
    (lowTemperature : -128 ≤ temperature) (highTemperature : temperature ≤ 127) :
    let body := (replyParts slot tag flags fault speed power temperature).flatten
    readReply (body ++ crcBytes body) = some
      { slot := slot
        tag := tag
        speed := speed
        actualPower := power
        temperature := temperature
        flags := moduleFlagsOfByte flags
        faultCode := faultCodeOfByte fault } := by
  intro body
  have lengths : (replyParts slot tag flags fault speed power temperature ++ [crcBytes body]).map List.length =
      [1, 1, 1, 2, 2, 1, 1, 1, 2] := by simp [replyParts]
  have frame : body ++ crcBytes body =
      (replyParts slot tag flags fault speed power temperature ++ [crcBytes body]).flatten := by simp [body]
  have ten : body.length = 10 := flatten_length (lengths := [1, 1, 1, 2, 2, 1, 1, 1]) (by simp [replyParts])
  have part := @flatten_part _ _ _ lengths
  have slot_read : field (body ++ crcBytes body) 1 1 = slot.val := by
    rw [frame]
    exact (congrArg beNat (part 1 rfl rfl rfl)).trans ((beNat_singleton _).trans (byteOf_toNat (by omega)))
  have tag_read : byteOf (field (body ++ crcBytes body) 2 1) = tag := by
    rw [frame]
    exact byteOf_field ((congrArg beNat (part 2 rfl rfl rfl)).trans (beNat_singleton _))
  have speed_read : field (body ++ crcBytes body) 3 2 = speed := by
    rw [frame]
    exact (congrArg beNat (part 3 rfl rfl rfl)).trans ((beNat_beBytes _ _).trans (Nat.mod_eq_of_lt hspeed))
  have power_read : signedField (body ++ crcBytes body) 5 2 = power := by
    rw [frame]
    exact (congrArg beInt (part 4 rfl rfl rfl)).trans (beInt_beIntBytes (by norm_num; omega) (by norm_num; omega))
  have temperature_read : signedField (body ++ crcBytes body) 7 1 = temperature := by
    rw [frame]
    exact (congrArg beInt (part 5 rfl rfl rfl)).trans (beInt_beIntBytes (by norm_num; omega) (by norm_num; omega))
  have flags_read : byteOf (field (body ++ crcBytes body) 8 1) = flags := by
    rw [frame]
    exact byteOf_field ((congrArg beNat (part 6 rfl rfl rfl)).trans (beNat_singleton _))
  have fault_read : byteOf (field (body ++ crcBytes body) 9 1) = fault := by
    rw [frame]
    exact byteOf_field ((congrArg beNat (part 7 rfl rfl rfl)).trans (beNat_singleton _))
  have passes : (body ++ crcBytes body).length = 12 ∧ (body ++ crcBytes body).take 1 = [0xB2#8] ∧
      (body ++ crcBytes body).drop 10 = crcBytes ((body ++ crcBytes body).take 10) := by
    refine ⟨by simp [ten], rfl, ?_⟩
    rw [List.take_left' ten, List.drop_left' ten]
  simp only [readReply, slot_read, slotOfCode_val, if_pos passes, tag_read, speed_read, power_read, temperature_read,
    flags_read, fault_read]

/-- A frame with a slot byte above 15, or a check that differs, is no report. -/
theorem readReply_eq_none {slot tag : Byte} {rest check : List Byte} (length : rest.length = 7)
    (bad : 15 < slot.toNat ∨ check ≠ crcBytes ([0xB2#8, slot, tag] ++ rest)) :
    readReply ([0xB2#8, slot, tag] ++ rest ++ check) = none := by
  have ten : ([0xB2#8, slot, tag] ++ rest).length = 10 := by simp [length]
  have slot_read : field ([0xB2#8, slot, tag] ++ rest ++ check) 1 1 = slot.toNat := beNat_singleton slot
  unfold readReply
  split
  · rfl
  · next i named =>
    refine if_neg fun ⟨_, _, agrees⟩ => ?_
    rw [List.take_left' ten, List.drop_left' ten] at agrees
    obtain high | differs := bad
    · rw [slot_read, slotOfCode, dif_neg (Nat.not_lt.mpr high)] at named
      cases named
    · exact differs agrees

/-! ## The obligation -/

/-- Settles O46: the frame is found behind the bytes that are not 0xB2, and read by its parts. -/
theorem replyFrameIsRead : Obligations.ReplyFrameIsRead := by
  refine ⟨?_, ?_, fun bytes h => ?_, fun junk rest clear short => ?_⟩
  · intro junk extra slot tag flags fault speed power temperature clear hspeed lowPower highPower lowTemperature
      highTemperature body
    have body_eq : body = (replyParts slot tag flags fault speed power temperature).flatten := by
      simp [body, replyParts]
    have found : assembleReply (junk ++ body ++ crcBytes body ++ extra) = some (body ++ crcBytes body) := by
      rw [List.append_assoc, List.append_assoc, ← List.append_assoc body]
      exact assembleReply_frame clear (by simp) extra
    rw [found, Option.bind_some, body_eq,
      readReply_parts slot tag flags fault hspeed lowPower highPower lowTemperature highTemperature, faultCodeOfByte_eq]
    rfl
  · intro junk extra slot tag rest check clear bad length length_check
    have found : assembleReply (junk ++ [0xB2#8, slot, tag] ++ rest ++ check ++ extra) =
        some ([0xB2#8, slot, tag] ++ rest ++ check) := by
      have twelve : (slot :: tag :: (rest ++ check)).length = 11 := by simp [length, length_check]
      simpa only [List.append_assoc, List.cons_append, List.nil_append] using assembleReply_frame clear twelve extra
    rw [found, Option.bind_some, readReply_eq_none length bad]
  · rw [assembleReply_none]
    obtain short | clear := h
    · exact ((List.dropWhile_sublist _).length_le).trans_lt short
    · rw [replyBytesFrom_clear clear]
      decide
  · rw [assembleReply_none, replyBytesFrom_junk clear, List.length_cons]
    omega

end Sys2Proof.Machine
end

section
/-! Admission and hand-over as one operation (R124, R130, R133, R144): which slots a state hands on to (`State.admits`,
`State.handsUnitTo`), and what each slot's record and timer, the queues, the unit and the ROTOR CHANGE set are
afterwards. -/

namespace Sys2Proof.Machine

/-! ## Counting the rotors that accelerate (R130) -/

/-- The rotors that accelerate, but for one slot. -/
def State.acceleratingBut (s : State) (i : Slot) : List Slot :=
  allSlots.filter fun j => j != i && (s.rotor j).state == .accelerating

theorem State.accelerating_length (s : State) (i : Slot) :
    s.accelerating.length = (s.acceleratingBut i).length + if (s.rotor i).state = .accelerating then 1 else 0 := by
  have once : s.accelerating.Nodup := (List.nodup_finRange 16).filter _
  have others : s.acceleratingBut i = s.accelerating.erase i := by
    rw [once.erase_eq_filter, State.accelerating, List.filter_filter]
    rfl
  rw [others, List.length_erase]
  by_cases counted : (s.rotor i).state = .accelerating
  · have mem : i ∈ s.accelerating := (s.mem_accelerating i).mpr counted
    have positive : 0 < s.accelerating.length := List.length_pos_of_mem mem
    rw [if_pos mem, if_pos counted]
    omega
  · rw [if_neg (mt (s.mem_accelerating i).mp counted), if_neg counted]
    rfl

theorem State.acceleratingBut_congr {s t : State} {i : Slot} (others : ∀ j, j ≠ i → t.rotor j = s.rotor j) :
    t.acceleratingBut i = s.acceleratingBut i := by
  refine List.filter_congr fun j _ => ?_
  by_cases same : j = i
  · simp [same]
  · rw [others j same]

/-! ## The blocks that a change of a rotor's state leaves (R92, R144) -/

/-- From s to t nothing is written but the rotor records, the RSQ and the LIF. -/
def RoadOnly (s t : State) : Prop := t = { s with rotors := t.rotors, rsq := t.rsq, lif := t.lif }

theorem RoadOnly.trans {s t u : State} (h : RoadOnly s t) (k : RoadOnly t u) : RoadOnly s u := by
  unfold RoadOnly at *
  rw [k, h]

/-- The LIF with ROTOR CHANGE pending where it was, and where the kind is enabled (R144). -/
def Lif.rotorNoted (l : Lif) : Lif :=
  { l with pendingNotices := { l.pendingNotices with rotor := l.pendingNotices.rotor || l.mask.rotor } }

theorem Lif.rotorNoted_rotorNoted (l : Lif) : l.rotorNoted.rotorNoted = l.rotorNoted := by
  simp [Lif.rotorNoted]

theorem State.noteRotor_roadOnly (s : State) (i : Slot) : RoadOnly s (s.noteRotor i) := by
  simp only [State.noteRotor, State.addNotice_eq]
  split <;> rfl

theorem State.changeRotor_roadOnly (s : State) (i : Slot) (st : RotorState) (cause : Option RotorCause) :
    RoadOnly s (s.changeRotor i st cause) :=
  RoadOnly.trans (t := s.setRotor i _) rfl (State.noteRotor_roadOnly _ i)

theorem State.changeRotor_lif (s : State) (i : Slot) (st : RotorState) (cause : Option RotorCause) :
    (s.changeRotor i st cause).lif = s.lif.rotorNoted :=
  State.noteRotor_lif _ i

theorem State.admitHead_roadOnly (s : State) (i : Slot) (rest : List Slot) : RoadOnly s (s.admitHead i rest) :=
  RoadOnly.trans (t := s.withRsq _) rfl (State.changeRotor_roadOnly _ i _ _)

theorem State.handHead_roadOnly (s : State) (i : Slot) (rest : List Slot) : RoadOnly s (s.handHead i rest) := by
  have taken (q : Rsq) (n : Nat) : RoadOnly s ((s.withRsq q).setAttempts i n) := rfl
  exact (taken _ _).trans (State.changeRotor_roadOnly _ i _ _)

/-! ## One slot admitted, one handed the unit (R130, R133) -/

theorem State.admitHead_rsq (s : State) (i : Slot) (rest : List Slot) :
    (s.admitHead i rest).rsq =
      { { s.rsq with spinUpQueue := rest }.setTimer i
          (some (tickAfter s.tickCount (s.dse.spinUpLimit * ticksPerSecond))) with
        changed := if s.lif.mask.rotor then insertAscending i s.rsq.changed else s.rsq.changed } :=
  State.changeRotor_rsq _ i _ _

theorem State.handHead_rsq (s : State) (i : Slot) (rest : List Slot) :
    (s.handHead i rest).rsq =
      { { s.rsq with syncQueue := rest, syncUnit := some i }.setTimer i (some (tickAfter s.tickCount syncTicks)) with
        changed := if s.lif.mask.rotor then insertAscending i s.rsq.changed else s.rsq.changed } :=
  State.changeRotor_rsq _ i _ _

theorem mem_insertAscending_if (b : Bool) (i j : Slot) (l : List Slot) :
    j ∈ (if b then insertAscending i l else l) ↔ j ∈ l ∨ (b = true ∧ j = i) := by
  cases b
  · simp
  · simp only [if_true, mem_insertAscending, true_and]
    exact or_comm

/-! ## Admission, repeated (R130) -/

/-- From u to v the slots of a list, which have stood at the head of the spin-up queue, have been admitted, and nothing
else has been done at the RSQ. -/
structure AdmittedAll (u v : State) (heads : List Slot) : Prop where
  blocks : RoadOnly u v
  lif : v.lif = u.lif ∨ v.lif = u.lif.rotorNoted
  queue : u.rsq.spinUpQueue = heads ++ v.rsq.spinUpQueue
  sync : v.rsq.syncQueue = u.rsq.syncQueue ∧ v.rsq.syncUnit = u.rsq.syncUnit
  admitted : ∀ j ∈ heads, v.rotor j = { u.rotor j with state := .accelerating } ∧
    v.rsq.timer j = some (tickAfter u.tickCount (u.dse.spinUpLimit * ticksPerSecond))
  kept : ∀ j, j ∉ heads → v.rotor j = u.rotor j ∧ v.rsq.timer j = u.rsq.timer j
  changed : ∀ j, j ∈ v.rsq.changed ↔ j ∈ u.rsq.changed ∨ (u.lif.mask.rotor = true ∧ j ∈ heads)

theorem AdmittedAll.refl (u : State) : AdmittedAll u u [] :=
  ⟨rfl, .inl rfl, rfl, ⟨rfl, rfl⟩, nofun, fun _ _ => ⟨rfl, rfl⟩, fun j => by simp⟩

/-- The head is admitted, and then others. -/
theorem AdmittedAll.cons {u v : State} {i : Slot} {rest heads : List Slot} (queue : u.rsq.spinUpQueue = i :: rest)
    (later : i ∉ heads) (h : AdmittedAll (u.admitHead i rest) v heads) : AdmittedAll u v (i :: heads) := by
  have rsq := u.admitHead_rsq i rest
  have lif : (u.admitHead i rest).lif = u.lif.rotorNoted := State.changeRotor_lif _ i _ _
  have timer (j : Slot) : (u.admitHead i rest).rsq.timer j =
      if j = i then some (tickAfter u.tickCount (u.dse.spinUpLimit * ticksPerSecond)) else u.rsq.timer j := by
    rw [rsq]
    exact Rsq.timer_setTimer _ i j _
  obtain ⟨blocks, lif', queue', ⟨sync, unit⟩, admitted, kept, changed⟩ := h
  refine ⟨(u.admitHead_roadOnly i rest).trans blocks, .inr ?_, ?_, ⟨?_, ?_⟩, fun j mem => ?_, fun j out => ?_,
    fun j => ?_⟩
  · rw [lif, Lif.rotorNoted_rotorNoted, or_self] at lif'
    exact lif'
  · rw [queue, List.cons_append, ← queue', rsq]
    rfl
  · rw [sync, rsq]
    rfl
  · rw [unit, rsq]
    rfl
  · obtain rfl | mem := List.mem_cons.mp mem
    · obtain ⟨record, ran⟩ := kept j later
      rw [record, ran, State.rotor_admitHead, timer, if_pos rfl, if_pos rfl]
      exact ⟨rfl, rfl⟩
    · have other : j ≠ i := fun same => later (same ▸ mem)
      obtain ⟨record, ran⟩ := admitted j mem
      rw [record, ran, State.rotor_admitHead, if_neg other]
      simp
  · obtain ⟨other, out⟩ := not_or.mp (mt List.mem_cons.mpr out)
    obtain ⟨record, ran⟩ := kept j out
    rw [record, ran, State.rotor_admitHead, timer, if_neg other, if_neg other]
    exact ⟨rfl, rfl⟩
  · have noted : j ∈ (u.admitHead i rest).rsq.changed ↔
        j ∈ u.rsq.changed ∨ (u.lif.mask.rotor = true ∧ j = i) := by
      rw [rsq]
      exact mem_insertAscending_if _ i j _
    rw [changed, noted, show (u.admitHead i rest).lif.mask = u.lif.mask by rw [lif]; rfl, List.mem_cons, and_or_left,
      or_assoc]

/-- Admission admits the head of the queue for each free spin-up slot, as often as it may repeat. -/
theorem State.admitAll_admits (n : Nat) {u : State} (once : u.rsq.spinUpQueue.Nodup)
    (waits : ∀ j ∈ u.rsq.spinUpQueue, (u.rotor j).state ≠ .accelerating) :
    AdmittedAll u (State.admitAll n u) (u.rsq.spinUpQueue.take (min n (4 - u.accelerating.length))) := by
  induction n generalizing u with
  | zero => rw [Nat.zero_min]; exact .refl u
  | succ n ih =>
    cases queue : u.rsq.spinUpQueue with
    | nil =>
      simp only [State.admitAll, queue, List.take_nil]
      exact .refl u
    | cons i rest =>
      rw [queue] at once waits
      obtain ⟨later, restOnce⟩ := List.nodup_cons.mp once
      have goesOn : State.admitAll (n + 1) u =
          if u.accelerating.length < spinUpSlots then State.admitAll n (u.admitHead i rest) else u := by
        simp only [State.admitAll, queue]
      rw [goesOn]
      by_cases free : u.accelerating.length < spinUpSlots
      · have accelerates : (u.admitHead i rest).accelerating.length = u.accelerating.length + 1 := by
          have others : (u.admitHead i rest).acceleratingBut i = u.acceleratingBut i :=
            State.acceleratingBut_congr fun j other => by rw [State.rotor_admitHead, if_neg other]
          rw [State.accelerating_length _ i, u.accelerating_length i, others, State.rotor_admitHead,
            if_pos rfl, if_pos rfl, if_neg (waits i List.mem_cons_self)]
        have heads : (i :: rest).take (min (n + 1) (4 - u.accelerating.length)) =
            i :: rest.take (min n (4 - (u.admitHead i rest).accelerating.length)) := by
          unfold spinUpSlots at free
          rw [accelerates, show min (n + 1) (4 - u.accelerating.length) =
            min n (4 - (u.accelerating.length + 1)) + 1 by omega, List.take_succ_cons]
        have restQueue : (u.admitHead i rest).rsq.spinUpQueue = rest := by rw [State.admitHead_rsq]; rfl
        have restWaits : ∀ j ∈ rest, ((u.admitHead i rest).rotor j).state ≠ .accelerating := fun j mem => by
          have other : j ≠ i := fun same => later (same ▸ mem)
          rw [State.rotor_admitHead, if_neg other]
          exact waits j (List.mem_cons_of_mem i mem)
        have step := ih (u := u.admitHead i rest) (restQueue.symm ▸ restOnce) (restQueue.symm ▸ restWaits)
        rw [restQueue] at step
        rw [if_pos free, heads]
        exact step.cons queue fun mem => later (List.mem_of_mem_take mem)
      · rw [if_neg free]
        unfold spinUpSlots at free
        rw [show min (n + 1) (4 - u.accelerating.length) = 0 by omega]
        exact .refl u

/-! ## Admission and hand-over together -/

/-- The slots that wait do so in the states of their queues, each once. -/
structure QueuesReady (u : State) : Prop where
  once : u.rsq.spinUpQueue.Nodup
  spinUp : ∀ j ∈ u.rsq.spinUpQueue, (u.rotor j).state = .spinupWait
  sync : ∀ j ∈ u.rsq.syncQueue, (u.rotor j).state = .syncWait

/-- The slots that a state admits: the first of the spin-up queue, one for each free spin-up slot (R130). -/
def State.admits (u : State) : List Slot := u.rsq.spinUpQueue.take (4 - u.accelerating.length)

/-- The slot that a state hands the sync unit to: the head of the sync queue while the unit is free (R133). -/
def State.handsUnitTo (u : State) : Option Slot := if u.rsq.syncUnit = none then u.rsq.syncQueue.head? else none

/-- What a state hands on, from u to t. -/
structure Handed (u t : State) : Prop where
  blocks : RoadOnly u t
  lif : t.lif = u.lif ∨ t.lif = u.lif.rotorNoted
  spinUpQueue : t.rsq.spinUpQueue = u.rsq.spinUpQueue.drop (4 - u.accelerating.length)
  syncQueue : t.rsq.syncQueue = if u.rsq.syncUnit = none then u.rsq.syncQueue.tail else u.rsq.syncQueue
  syncUnit : t.rsq.syncUnit = if u.rsq.syncUnit = none then u.rsq.syncQueue.head? else u.rsq.syncUnit
  admitted : ∀ j ∈ u.admits, t.rotor j = { u.rotor j with state := .accelerating } ∧
    t.rsq.timer j = some (tickAfter u.tickCount (u.dse.spinUpLimit * ticksPerSecond))
  unit : ∀ j, u.handsUnitTo = some j →
    t.rotor j = { u.rotor j with state := .syncing, attempts := (u.rotor j).attempts + 1 } ∧
      t.rsq.timer j = some (tickAfter u.tickCount syncTicks)
  kept : ∀ j, j ∉ u.admits → u.handsUnitTo ≠ some j → t.rotor j = u.rotor j ∧ t.rsq.timer j = u.rsq.timer j
  changed : ∀ j, j ∈ t.rsq.changed ↔
    j ∈ u.rsq.changed ∨ (u.lif.mask.rotor = true ∧ (j ∈ u.admits ∨ u.handsUnitTo = some j))

/-- A slot that is handed the unit waits for it, so it is not admitted. -/
theorem QueuesReady.not_admitted {u : State} (ready : QueuesReady u) {j : Slot} (next : u.handsUnitTo = some j) :
    j ∉ u.admits := fun mem => by
  have spinUp := ready.spinUp j (List.mem_of_mem_take mem)
  unfold State.handsUnitTo at next
  split at next
  · rw [ready.sync j (List.mem_of_head? next)] at spinUp
    cases spinUp
  · cases next

/-- What is left to be handed on after the admissions: the unit, which they leave as it stands (R133). -/
theorem QueuesReady.handOn {u : State} (ready : QueuesReady u) : Handed u u.handOn := by
  have admitted := State.admitAll_admits spinUpSlots ready.once fun j mem => by rw [ready.spinUp j mem]; exact nofun
  rw [show min spinUpSlots (4 - u.accelerating.length) = 4 - u.accelerating.length from
    Nat.min_eq_right (Nat.sub_le _ _), ← State.admits] at admitted
  unfold State.handOn
  generalize State.admitAll spinUpSlots u = v at admitted ⊢
  obtain ⟨blocks, lif, queue, ⟨sync, unit⟩, heads, kept, changed⟩ := admitted
  have dropped : v.rsq.spinUpQueue = u.rsq.spinUpQueue.drop (4 - u.accelerating.length) :=
    List.append_cancel_left (queue.symm.trans (List.take_append_drop _ _).symm)
  obtain ⟨same, busy⟩ | ⟨i, rest, free, waiting, handed⟩ := v.handOver_cases
  · rw [sync, unit] at busy
    have nobody : u.handsUnitTo = none := by
      unfold State.handsUnitTo
      split
      · next free => rw [busy.resolve_left (not_not.mpr free)]; rfl
      · rfl
    rw [same]
    refine ⟨blocks, lif, dropped, ?_, ?_, heads, fun j next => ?_, fun j out _ => kept j out, fun j => ?_⟩
    · rw [sync]
      split
      · next free => rw [busy.resolve_left (not_not.mpr free)]; rfl
      · rfl
    · rw [unit]
      split
      · next free => rw [busy.resolve_left (not_not.mpr free), free]; rfl
      · rfl
    · rw [nobody] at next
      cases next
    · rw [changed, nobody]
      simp
  · rw [unit] at free
    rw [sync] at waiting
    have next : u.handsUnitTo = some i := by rw [State.handsUnitTo, if_pos free, waiting]; rfl
    have out : i ∉ u.admits := ready.not_admitted next
    obtain ⟨record, -⟩ := kept i out
    have rsq := v.handHead_rsq i rest
    have tick : v.tickCount = u.tickCount := by rw [blocks]
    have mask : v.lif.mask = u.lif.mask := by obtain same | same := lif <;> rw [same]; rfl
    have timer (j : Slot) : (v.handHead i rest).rsq.timer j =
        if j = i then some (tickAfter u.tickCount syncTicks) else v.rsq.timer j := by
      rw [rsq, tick]
      exact Rsq.timer_setTimer _ i j _
    rw [handed]
    refine ⟨blocks.trans (v.handHead_roadOnly i rest), .inr ?_, ?_, ?_, ?_, fun j mem => ?_, fun j taken => ?_,
      fun j out other => ?_, fun j => ?_⟩
    · have noted : (v.handHead i rest).lif = v.lif.rotorNoted := State.changeRotor_lif _ i _ _
      rw [noted]
      obtain same | same := lif <;> rw [same]
      rw [Lif.rotorNoted_rotorNoted]
    · rw [rsq]; exact dropped
    · rw [rsq, if_pos free, waiting]; rfl
    · rw [rsq, if_pos free, waiting]; rfl
    · have other : j ≠ i := fun same => out (same ▸ mem)
      rw [State.rotor_handHead, timer, if_neg other, if_neg other]
      exact heads j mem
    · obtain rfl : i = j := Option.some.inj (next.symm.trans taken)
      rw [State.rotor_handHead, timer, if_pos rfl, if_pos rfl, record]
      exact ⟨rfl, rfl⟩
    · have other : j ≠ i := fun same => other (same ▸ next)
      rw [State.rotor_handHead, timer, if_neg other, if_neg other]
      exact kept j out
    · have noted : j ∈ (v.handHead i rest).rsq.changed ↔
          j ∈ v.rsq.changed ∨ (v.lif.mask.rotor = true ∧ j = i) := by
        rw [rsq]
        exact mem_insertAscending_if _ i j _
      rw [noted, changed, mask, next, Option.some.injEq, and_or_left, or_assoc, eq_comm (a := j)]

end Sys2Proof.Machine
end

section
/-! A move of one rotor at the RSQ, in the terms of the statements (R121, R124, R130 to R134, R139, R144). `Moved` says where
a move has brought a slot before anything is handed on; from it follow, for every move at once, the frame of the move
(`Moved.moveFrame`), the slot's record, and where it stands. -/

namespace Sys2Proof.Machine

/-- From s to u slot i has been moved, before anything is handed on: it has left its resources and has joined the tail of
the queue that its new state names; no other slot is touched. -/
structure Moved (s u : State) (i : Slot) (tripped : Bool) : Prop where
  blocks : u.supply = s.supply ∧ u.fmu = s.fmu ∧ u.evt = s.evt ∧ u.dse = s.dse ∧ u.orl = s.orl ∧ u.pending = s.pending
  lif : u.lif = s.lif.rotorNoted
  stu : u.stu = { s.stu with flags := { s.stu.flags with rotorTrip := s.stu.flags.rotorTrip || tripped } }
  others : ∀ j, j ≠ i → u.rotor j = s.rotor j
  spinUp : u.rsq.spinUpQueue = waitingThen s.rsq.spinUpQueue i ((u.rotor i).state == .spinupWait)
  sync : u.rsq.syncQueue = waitingThen s.rsq.syncQueue i ((u.rotor i).state == .syncWait)
  unit : u.rsq.syncUnit = if s.rsq.syncUnit = some i then none else s.rsq.syncUnit
  timer : ∀ j, u.rsq.timer j = if j = i then none else s.rsq.timer j
  changed : u.rsq.changed = if s.lif.mask.rotor then insertAscending i s.rsq.changed else s.rsq.changed
  settled : (u.rotor i).state ≠ .accelerating ∧ (u.rotor i).state ≠ .syncing

theorem mem_waitingThen {queue : List Slot} {i j : Slot} {joins : Bool} :
    j ∈ waitingThen queue i joins ↔ (j ∈ queue ∧ j ≠ i) ∨ (joins = true ∧ j = i) := by
  cases joins <;> simp [waitingThen]

theorem nodup_waitingThen {queue : List Slot} (once : queue.Nodup) (i : Slot) (joins : Bool) :
    (waitingThen queue i joins).Nodup := by
  have apart : i ∉ queue.filter fun j => j != i := by simp
  cases joins
  · simpa [waitingThen] using once.filter _
  · exact (List.nodup_append_comm.mp (List.nodup_cons.mpr ⟨apart, once.filter _⟩))

namespace Moved

variable {s u : State} {i : Slot} {tripped : Bool}

section
variable (moved : Moved s u i tripped) (road : RoadInv s)
include moved road

/-- After a move the slots wait in the states of their queues. -/
theorem ready : QueuesReady u where
  once := moved.spinUp ▸ nodup_waitingThen road.spinUpOnce i _
  spinUp := fun j waits => by
    rw [moved.spinUp, mem_waitingThen] at waits
    obtain ⟨waits, other⟩ | ⟨joined, rfl⟩ := waits
    · rw [moved.others j other]
      exact (road.spinUpHolds j).mp waits
    · exact beq_iff_eq.mp joined
  sync := fun j waits => by
    rw [moved.sync, mem_waitingThen] at waits
    obtain ⟨waits, other⟩ | ⟨joined, rfl⟩ := waits
    · rw [moved.others j other]
      exact (road.syncHolds j).mp waits
    · exact beq_iff_eq.mp joined

theorem handed : Handed u u.handOn := (moved.ready road).handOn

omit road in
/-- The spin-up slots that are free for the head of the queue. -/
theorem spinUpFree_eq : spinUpFree s i = 4 - u.accelerating.length := by
  have idle := moved.settled.1
  rw [u.accelerating_length i, State.acceleratingBut_congr moved.others, if_neg idle]
  rfl

omit road in
theorem unitFree_iff : unitFree s i ↔ u.rsq.syncUnit = none := by
  rw [moved.unit, unitFree]
  split
  · next own => simp [own]
  · next other => simp [other]

/-- A slot is admitted in SPINUP_WAIT and handed the unit in SYNC_WAIT. -/
theorem admits_state {j : Slot} (mem : j ∈ u.admits) : (u.rotor j).state = .spinupWait :=
  (moved.ready road).spinUp j (List.mem_of_mem_take mem)

theorem handsUnitTo_state {j : Slot} (next : u.handsUnitTo = some j) : (u.rotor j).state = .syncWait := by
  unfold State.handsUnitTo at next
  split at next
  · exact (moved.ready road).sync j (List.mem_of_head? next)
  · cases next

/-- Handed on at once, a slot that waits for a spin-up slot may accelerate, one that waits for the unit may synchronise;
every other slot keeps its state. -/
theorem state_handOn (j : Slot) :
    (u.handOn.rotor j).state =
      if j ∈ u.admits then .accelerating else if u.handsUnitTo = some j then .syncing else (u.rotor j).state := by
  have handed := moved.handed road
  split
  · next mem => rw [(handed.admitted j mem).1]
  · next out =>
    split
    · next next => rw [(handed.unit j next).1]
    · next other => rw [(handed.kept j out other).1]

theorem waits_spinUp_iff :
    ((u.handOn.rotor i).state == .spinupWait || (u.handOn.rotor i).state == .accelerating) =
      ((u.rotor i).state == .spinupWait) := by
  rw [moved.state_handOn road]
  split
  · next mem => rw [moved.admits_state road mem]; rfl
  · split
    · next next => rw [moved.handsUnitTo_state road next]; rfl
    · rw [beq_eq_false_iff_ne.mpr moved.settled.1, Bool.or_false]

theorem waits_sync_iff :
    ((u.handOn.rotor i).state == .syncWait || (u.handOn.rotor i).state == .syncing) =
      ((u.rotor i).state == .syncWait) := by
  rw [moved.state_handOn road]
  split
  · next mem => rw [moved.admits_state road mem]; rfl
  · split
    · next next => rw [moved.handsUnitTo_state road next]; rfl
    · rw [beq_eq_false_iff_ne.mpr moved.settled.2, Bool.or_false]

theorem spinUpWaiting_eq : spinUpWaiting s u.handOn i = u.rsq.spinUpQueue := by
  rw [spinUpWaiting, moved.waits_spinUp_iff road, moved.spinUp]

theorem syncWaiting_eq : syncWaiting s u.handOn i = u.rsq.syncQueue := by
  rw [syncWaiting, moved.waits_sync_iff road, moved.sync]

theorem admits_eq : (spinUpWaiting s u.handOn i).take (spinUpFree s i) = u.admits := by
  rw [moved.spinUpWaiting_eq road, moved.spinUpFree_eq]
  rfl

/-- What a move frees or fills is handed on as R130 and R133 say. -/
theorem handedOn : HandedOn s u.handOn i := by
  have handed := moved.handed road
  have tick : u.handOn.tickCount = u.tickCount := by rw [handed.blocks]
  obtain ⟨-, -, -, dse, -, -⟩ := moved.blocks
  have nextIs {j : Slot} (free : unitFree s i) (head : (syncWaiting s u.handOn i).head? = some j) :
      u.handsUnitTo = some j := by
    rw [State.handsUnitTo, if_pos (moved.unitFree_iff.mp free), ← moved.syncWaiting_eq road, head]
  refine ⟨?_, fun j mem => ?_, fun busy => ?_, fun free nobody => ?_, fun j rest free waiting => ?_,
    fun j other out notNext => ?_⟩
  · rw [handed.spinUpQueue, moved.spinUpWaiting_eq road, moved.spinUpFree_eq]
  · rw [moved.admits_eq road] at mem
    obtain ⟨record, timer⟩ := handed.admitted j mem
    rw [record, timer, tick, ← dse]
    exact ⟨rfl, fun other => by rw [moved.others j other], rfl⟩
  · have taken := mt moved.unitFree_iff.mpr busy
    rw [handed.syncUnit, handed.syncQueue, if_neg taken, if_neg taken, moved.syncWaiting_eq road, moved.unit,
      if_neg fun own => busy (.inr own)]
    exact ⟨rfl, rfl⟩
  · have open_ := moved.unitFree_iff.mp free
    rw [handed.syncUnit, handed.syncQueue, if_pos open_, if_pos open_, ← moved.syncWaiting_eq road, nobody]
    exact ⟨rfl, rfl⟩
  · have open_ := moved.unitFree_iff.mp free
    have next := nextIs free (by rw [waiting]; rfl)
    obtain ⟨record, timer⟩ := handed.unit j next
    rw [handed.syncUnit, handed.syncQueue, if_pos open_, if_pos open_, ← moved.syncWaiting_eq road, waiting, record,
      timer, tick]
    exact ⟨rfl, rfl, rfl, fun other => by rw [moved.others j other], rfl⟩
  · rw [moved.admits_eq road] at out
    have notTaken : u.handsUnitTo ≠ some j := fun next => by
      unfold State.handsUnitTo at next
      split at next
      · next open_ => exact notNext ⟨moved.unitFree_iff.mpr open_, by rw [moved.syncWaiting_eq road]; exact next⟩
      · cases next
    obtain ⟨record, timer⟩ := handed.kept j out notTaken
    rw [record, timer, moved.others j other, moved.timer, if_neg other]
    exact ⟨rfl, rfl⟩

/-- A move of slot i, with what it hands on (R92, R130, R133, R139, R144). -/
theorem moveFrame : MoveFrame s u.handOn i tripped := by
  have handed := moved.handed road
  have blocks := handed.blocks
  refine ⟨?_, ?_, ?_, moved.handedOn road, fun j => ?_⟩
  · rw [blocks]
    exact moved.blocks
  · have noted : u.lif.rotorNoted = u.lif := by rw [moved.lif, Lif.rotorNoted_rotorNoted]
    obtain same | same := handed.lif
    · rw [same, moved.lif]; rfl
    · rw [same, noted, moved.lif]; rfl
  · rw [blocks]
    exact moved.stu
  · have mask : u.lif.mask = s.lif.mask := by rw [moved.lif]; rfl
    have noted := mem_insertAscending_if s.lif.mask.rotor i j s.rsq.changed
    rw [handed.changed, moved.changed, noted, mask, or_assoc, ← and_or_left]
    by_cases same : j = i
    · simp [same]
    · have stays : (u.rotor j).state = (s.rotor j).state := by rw [moved.others j same]
      have changes : (u.handOn.rotor j).state ≠ (s.rotor j).state ↔ j ∈ u.admits ∨ u.handsUnitTo = some j := by
        rw [moved.state_handOn road, ← stays]
        split
        · next mem => simp [mem, moved.admits_state road mem]
        · next out =>
          split
          · next next => simp [next, moved.handsUnitTo_state road next]
          · next other => simp [out, other]
      rw [changes]

/-! ## The slot itself -/

/-- Moved to no queue, the slot keeps its record and is off the road. -/
theorem offRoad (spinUp : (u.rotor i).state ≠ .spinupWait) (sync : (u.rotor i).state ≠ .syncWait) :
    u.handOn.rotor i = u.rotor i ∧ Machine.offRoad u.handOn i := by
  have handed := moved.handed road
  have out : i ∉ u.admits := fun mem => spinUp (moved.admits_state road mem)
  have notNext : u.handsUnitTo ≠ some i := fun next => sync (moved.handsUnitTo_state road next)
  have notWaiting : i ∉ u.rsq.spinUpQueue := fun waits => spinUp ((moved.ready road).spinUp i waits)
  have notSync : i ∉ u.rsq.syncQueue := fun waits => sync ((moved.ready road).sync i waits)
  obtain ⟨record, timer⟩ := handed.kept i out notNext
  refine ⟨record, ?_, ?_, ?_, ?_⟩
  · rw [handed.spinUpQueue]
    exact fun mem => notWaiting (List.mem_of_mem_drop mem)
  · rw [handed.syncQueue]
    split
    · exact fun mem => notSync (List.mem_of_mem_tail mem)
    · exact notSync
  · rw [handed.syncUnit]
    split
    · exact fun head => notSync (List.mem_of_head? head)
    · rw [moved.unit]
      split
      · nofun
      · next other => exact other
  · rw [timer, moved.timer, if_pos rfl]

/-- Moved to the spin-up queue from outside the spin-up slots, the slot is admitted at once while one is free, and waits
as the last of its queue otherwise (R130). -/
theorem joinsSpinUp {r : RotorRecord} (record : u.rotor i = { r with state := .spinupWait })
    (before : (s.rotor i).state ≠ .accelerating) :
    u.handOn.rotor i = Machine.joinsSpinUp s r ∧ standsWhereItShould s u.handOn i u.tickCount := by
  have handed := moved.handed road
  have state : (u.rotor i).state = .spinupWait := by rw [record]
  obtain ⟨-, -, -, dse, -, -⟩ := moved.blocks
  have taken : u.accelerating.length = s.accelerating.length := by
    rw [u.accelerating_length i, s.accelerating_length i, State.acceleratingBut_congr moved.others,
      if_neg moved.settled.1, if_neg before]
  have queue : u.rsq.spinUpQueue = s.rsq.spinUpQueue.filter (fun j => j != i) ++ [i] := by
    rw [moved.spinUp, state]; rfl
  unfold Machine.joinsSpinUp standsWhereItShould
  by_cases free : s.accelerating.length < 4
  · have alone : s.rsq.spinUpQueue = [] := by
      by_contra waits
      exact absurd (road.spinUpWaits waits) (Nat.ne_of_lt free)
    have mem : i ∈ u.admits := by
      rw [State.admits, queue, alone, taken, List.take_of_length_le (by simp; omega)]
      exact List.mem_append_right _ List.mem_cons_self
    obtain ⟨admitted, timer⟩ := handed.admitted i mem
    rw [if_pos free, admitted, timer, record, dse]
    exact ⟨rfl, rfl⟩
  · have full : 4 - u.accelerating.length = 0 := by omega
    have out : i ∉ u.admits := by
      rw [State.admits, full]
      exact List.not_mem_nil
    have notNext : u.handsUnitTo ≠ some i := fun next => by
      rw [moved.handsUnitTo_state road next] at state
      cases state
    obtain ⟨kept, timer⟩ := handed.kept i out notNext
    rw [if_neg free, kept, record, timer, moved.timer, if_pos rfl, handed.spinUpQueue, full, queue]
    exact ⟨rfl, List.getLast?_concat, rfl⟩

/-- Moved to the sync queue from outside the unit, the slot is handed the unit at once while it is free, and waits as the
last of its queue otherwise (R133). -/
theorem joinsSync {r : RotorRecord} (record : u.rotor i = { r with state := .syncWait })
    (before : (s.rotor i).state ≠ .syncing) :
    u.handOn.rotor i = Machine.joinsSync s r ∧ standsWhereItShould s u.handOn i u.tickCount := by
  have handed := moved.handed road
  have state : (u.rotor i).state = .syncWait := by rw [record]
  have unit : u.rsq.syncUnit = s.rsq.syncUnit := by
    rw [moved.unit, if_neg fun own => before ((road.unit i).mp own)]
  have queue : u.rsq.syncQueue = s.rsq.syncQueue.filter (fun j => j != i) ++ [i] := by
    rw [moved.sync, state]; rfl
  unfold Machine.joinsSync standsWhereItShould
  by_cases free : s.rsq.syncUnit = none
  · have alone : s.rsq.syncQueue = [] := by
      by_contra waits
      exact road.syncWaits waits free
    have next : u.handsUnitTo = some i := by
      rw [State.handsUnitTo, if_pos (unit.trans free), queue, alone]; rfl
    obtain ⟨taken, timer⟩ := handed.unit i next
    rw [if_pos free, taken, timer, record, handed.syncUnit, if_pos (unit.trans free), queue, alone]
    exact ⟨rfl, rfl, rfl⟩
  · have busy : u.rsq.syncUnit ≠ none := by rw [unit]; exact free
    have out : i ∉ u.admits := fun mem => by
      rw [moved.admits_state road mem] at state
      cases state
    have notNext : u.handsUnitTo ≠ some i := by
      rw [State.handsUnitTo, if_neg busy]
      nofun
    obtain ⟨kept, timer⟩ := handed.kept i out notNext
    rw [if_neg free, kept, record, timer, moved.timer, if_pos rfl, handed.syncQueue, if_neg busy, queue]
    exact ⟨rfl, List.getLast?_concat, rfl⟩

end

end Moved

end Sys2Proof.Machine
end

section
/-! The moves of the RSQ, each with the record it leaves and where the slot then stands (R127 to R139), and PARK (R136, R137):
O39. A move starts from a state that may differ from the one before the command in its tick count, its RBI and the record
of the slot itself (`Beside`), since a reply has been written into that record before the RSQ acts on it. -/

namespace Sys2Proof.Machine

/-- From s to v nothing is changed but the tick count, the RSQ, the RBI and the record of slot i. -/
structure Beside (s v : State) (i : Slot) : Prop where
  blocks : v.supply = s.supply ∧ v.fmu = s.fmu ∧ v.evt = s.evt ∧ v.dse = s.dse ∧ v.orl = s.orl ∧ v.pending = s.pending
  lif : v.lif = s.lif
  stu : v.stu = s.stu
  others : ∀ j, j ≠ i → v.rotor j = s.rotor j

namespace Beside

theorem refl (s : State) (i : Slot) : Beside s s i := ⟨⟨rfl, rfl, rfl, rfl, rfl, rfl⟩, rfl, rfl, fun _ _ => rfl⟩

variable {s v : State} {i : Slot}

theorem withRsq (h : Beside s v i) (q : Rsq) : Beside s (v.withRsq q) i := ⟨h.blocks, h.lif, h.stu, h.others⟩

theorem setRotor (h : Beside s v i) (r : RotorRecord) : Beside s (v.setRotor i r) i :=
  ⟨h.blocks, h.lif, h.stu, fun j other => (State.rotor_setRotor_ne v other r).trans (h.others j other)⟩

/-- A slot that has left its resources, and has joined the queue that its new state names, has been moved. -/
theorem moved (h : Beside s v i) {st : RotorState} (cause : Option RotorCause)
    (settled : st ≠ .accelerating ∧ st ≠ .syncing)
    (rsq : v.rsq = { s.rsq.leave i with
      spinUpQueue := waitingThen s.rsq.spinUpQueue i (st == .spinupWait)
      syncQueue := waitingThen s.rsq.syncQueue i (st == .syncWait) }) :
    Moved s (v.changeRotor i st cause) i false := by
  have queues := v.changeRotor_rsq i st cause
  rw [rsq, h.lif] at queues
  have state : ((v.changeRotor i st cause).rotor i).state = st := by rw [State.rotor_changeRotor, if_pos rfl]
  have blocks := v.changeRotor_roadOnly i st cause
  obtain ⟨-, -, -, timer, -⟩ := s.rsq.leave_spec i
  refine ⟨?_, ?_, ?_, fun j other => ?_, ?_, ?_, ?_, fun j => ?_, ?_, ?_⟩
  · rw [blocks]
    exact h.blocks
  · rw [State.changeRotor_lif, h.lif]
  · rw [blocks, Bool.or_false]
    exact h.stu
  · rw [State.rotor_changeRotor, if_neg other]
    exact h.others j other
  · rw [queues, state]
  · rw [queues, state]
  · rw [queues]
    rfl
  · rw [queues]
    exact timer j
  · rw [queues]
    rfl
  · rw [state]
    exact settled

/-- A slot moved to no queue. -/
theorem movedOff (h : Beside s v i) {st : RotorState} (cause : Option RotorCause)
    (settled : st ≠ .accelerating ∧ st ≠ .syncing) (noQueue : st ≠ .spinupWait ∧ st ≠ .syncWait)
    (rsq : v.rsq = s.rsq.leave i) : Moved s (v.changeRotor i st cause) i false := by
  refine h.moved cause settled ?_
  rw [beq_eq_false_iff_ne.mpr noQueue.1, beq_eq_false_iff_ne.mpr noQueue.2, rsq]
  simp only [waitingThen, Bool.false_eq_true, if_false, List.append_nil]
  rfl

end Beside

theorem Moved.raised {s u : State} {i : Slot} (moved : Moved s u i false) : Moved s (u.raise .rotorTrip) i true := by
  refine ⟨moved.blocks, moved.lif, ?_, moved.others, moved.spinUp, moved.sync, moved.unit, moved.timer, moved.changed,
    moved.settled⟩
  rw [State.raise, State.withStu_stu, moved.stu, Bool.or_true]
  rfl

/-- From s a command has moved slot i, by way of w, so that its record is as given and it stands where it should, with
what the move frees or fills handed on. -/
structure MovesTo (s w x : State) (i : Slot) (after_ : RotorRecord) : Prop where
  record : x.rotor i = after_
  frame : MoveFrame s x i (after_.state == .tripped)
  stands : standsWhereItShould s x i w.tickCount
  tickCount : x.tickCount = w.tickCount
  rbi : x.rbi = w.rbi

/-- The states that name a queue, the spin-up slots or the unit (R130, R132, R133). -/
def onTheRoad : RotorState → Bool
  | .spinupWait | .accelerating | .syncWait | .syncing => true
  | .offline | .probing | .parked | .lifting | .online | .decelerating | .tripped => false

theorem stands_iff_offRoad {s u : State} {i : Slot} {now : Tick} (off : onTheRoad (u.rotor i).state = false) :
    standsWhereItShould s u i now ↔ offRoad u i := by
  unfold standsWhereItShould
  cases state : (u.rotor i).state
  case spinupWait | accelerating | syncWait | syncing => rw [state] at off; cases off
  all_goals rfl

theorem MovesTo.offRoad {s w x : State} {i : Slot} {after_ : RotorRecord} (move : MovesTo s w x i after_)
    (off : onTheRoad after_.state = false) : Machine.offRoad x i :=
  (stands_iff_offRoad (move.record.symm ▸ off)).mp move.stands

namespace Moved

variable {s w u : State} {i : Slot} {tripped : Bool}

/-- A slot moved to no queue keeps the record it has been given. -/
theorem movesTo_offRoad (moved : Moved s u i tripped) (road : RoadInv s) {after_ : RotorRecord}
    (record : u.rotor i = after_) (off : onTheRoad after_.state = false) (flag : tripped = (after_.state == .tripped))
    (tick : u.tickCount = w.tickCount) (rbi : u.rbi = w.rbi) : MovesTo s w u.handOn i after_ := by
  have spinUp : (u.rotor i).state ≠ .spinupWait := fun state => by rw [record] at state; rw [state] at off; cases off
  have sync : (u.rotor i).state ≠ .syncWait := fun state => by rw [record] at state; rw [state] at off; cases off
  obtain ⟨kept, off_⟩ := moved.offRoad road spinUp sync
  have blocks := (moved.handed road).blocks
  refine ⟨kept.trans record, flag ▸ moved.moveFrame road, (stands_iff_offRoad ?_).mpr off_, ?_, ?_⟩
  · rw [kept, record]
    exact off
  · rw [blocks]; exact tick
  · rw [blocks]; exact rbi

end Moved

/-! ## The moves (R127 to R139) -/

section
variable {s w : State} {i : Slot} (road : RoadInv s) (beside : Beside s w i) (rsq : w.rsq = s.rsq)
include road beside rsq

theorem State.settle_movesTo (cause : Option RotorCause) :
    MovesTo s w (w.settle i cause) i
      { w.rotor i with state := .parked, cause := cause.or (w.rotor i).cause, attempts := 0 } := by
  have moved : Moved s (((w.leaveRoad i).setAttempts i 0).changeRotor i .parked cause) i false :=
    ((beside.withRsq _).setRotor _).movedOff cause ⟨nofun, nofun⟩ ⟨nofun, nofun⟩ (congrArg (Rsq.leave · i) rsq)
  refine moved.movesTo_offRoad road ?_ rfl rfl (by simp) (by simp)
  rw [State.rotor_changeRotor, if_pos rfl, State.setAttempts, State.rotor_setRotor_self]
  rfl

theorem State.brake_movesTo (cause : RotorCause) :
    MovesTo s w (w.brake i cause) i
      (if (w.rotor i).state = .online then { (w.rotor i).zeroed with state := .decelerating, cause := some cause }
      else { w.rotor i with state := .decelerating, cause := some cause }) := by
  have moved (r : RotorRecord) : MovesTo s w
      (((w.leaveRoad i).setRotor i r).changeRotor i .decelerating (some cause)).handOn i
      { r with state := .decelerating, cause := some cause } := by
    have moved : Moved s (((w.leaveRoad i).setRotor i r).changeRotor i .decelerating (some cause)) i false :=
      ((beside.withRsq _).setRotor _).movedOff _ ⟨nofun, nofun⟩ ⟨nofun, nofun⟩ (congrArg (Rsq.leave · i) rsq)
    refine moved.movesTo_offRoad road ?_ rfl rfl (by simp) (by simp)
    rw [State.rotor_changeRotor, if_pos rfl, State.rotor_setRotor_self]
    rfl
  have same : (w.leaveRoad i).rotor i = w.rotor i := rfl
  simp only [State.brake, same]
  split <;> exact moved _

end

/-! ## PARK (R136, R137) -/

section
variable {s : State} {p : List Byte} {i : Slot}

theorem ownPark_badSlot (unnamed : namesNoSlot p) : ownPark s p = refuse s .badValue := by
  simp only [ownPark, slotOfCode_of_namesNoSlot unnamed]

variable (named : namesSlot p i)
include named

theorem ownPark_wrongState (state : (s.rotor i).state = .offline ∨ (s.rotor i).state = .probing ∨
    (s.rotor i).state = .parked ∨ (s.rotor i).state = .decelerating ∨ (s.rotor i).state = .tripped) :
    ownPark s p = refuse s .wrongState := by
  simp only [ownPark, slotOfCode_of_namesSlot named]
  rcases state with state | state | state | state | state <;> rw [state]

theorem ownPark_inEvent (online : (s.rotor i).state = .online) (event : s.evt.mode = .event) :
    ownPark s p = refuse s .inEvent := by
  simp only [ownPark, slotOfCode_of_namesSlot named, online, if_pos event]

/-- From LIFTING at rest the rotor goes straight to PARKED, from every other state that PARK takes it is braked. -/
theorem ownPark_accepts (state : (s.rotor i).state = .lifting ∨ (s.rotor i).state = .spinupWait ∨
    (s.rotor i).state = .accelerating ∨ (s.rotor i).state = .syncWait ∨ (s.rotor i).state = .syncing ∨
    ((s.rotor i).state = .online ∧ s.evt.mode ≠ .event)) :
    ownPark s p = accept
      (if (s.rotor i).state = .lifting ∧ (s.rotor i).flags.atRest = true then s.settle i (some .host)
      else s.brake i .host) false := by
  simp only [ownPark, slotOfCode_of_namesSlot named]
  rcases state with state | state | state | state | state | ⟨state, calm⟩ <;> rw [state]
  · simp only [true_and]
    split <;> rfl
  case inr.inr.inr.inr.inr => simp [calm]
  all_goals rfl

end

/-- Settles O39: the owner settles or brakes the rotor, and either is a move off the road. -/
theorem parkTakesOffTheRoad : Obligations.ParkTakesOffTheRoad := by
  intro s tag p i asks st
  rw [exec_park, State.taking_request asks rfl ownPark]
  refine ⟨fun unnamed => ?_, fun named => ⟨fun state => ?_, fun online event => ?_, fun road state => ?_⟩⟩
  · rw [ownPark_badSlot unnamed]
    rfl
  · rw [ownPark_wrongState named state]
    rfl
  · rw [ownPark_inEvent named online event]
    rfl
  · rw [ownPark_accepts named state]
    refine ⟨_, rfl, ?_⟩
    have beside := Beside.refl s i
    by_cases rest : st = .lifting ∧ (s.rotor i).flags.atRest = true
    · have move := State.settle_movesTo road beside rfl (some .host)
      rw [if_pos rest, accept, if_pos rest]
      exact ⟨move.frame, move.rbi, move.tickCount, move.offRoad rfl, move.record⟩
    · have move := State.brake_movesTo road beside rfl .host
      rw [if_neg rest, accept, if_neg rest]
      by_cases online : st = .online
      · rw [if_pos online] at move ⊢
        exact ⟨move.frame, move.rbi, move.tickCount, move.offRoad rfl, move.record⟩
      · rw [if_neg online] at move ⊢
        exact ⟨move.frame, move.rbi, move.tickCount, move.offRoad rfl, move.record⟩

end Sys2Proof.Machine
end

section
/-! What a reply does to the rotor it comes from (R122, R127, R129, R131, R132, R134, R138, R139), in the terms of the
statements: a move to the record that `afterReply` gives, or nothing. -/

namespace Sys2Proof.Machine

theorem joinsSpinUp_state (s : State) (r : RotorRecord) :
    (joinsSpinUp s r).state = .accelerating ∨ (joinsSpinUp s r).state = .spinupWait := by
  unfold joinsSpinUp
  split
  · exact .inl rfl
  · exact .inr rfl

theorem joinsSync_state (s : State) (r : RotorRecord) :
    (joinsSync s r).state = .syncing ∨ (joinsSync s r).state = .syncWait := by
  unfold joinsSync
  split
  · exact .inl rfl
  · exact .inr rfl

/-- A slot that has joined a queue, whether it then waits there or has been handed on to. -/
theorem Moved.movesTo_onTheRoad {s w u : State} {i : Slot} (moved : Moved s u i false) (road : RoadInv s)
    {after_ : RotorRecord} (record : u.handOn.rotor i = after_) (stands : standsWhereItShould s u.handOn i u.tickCount)
    (untripped : after_.state ≠ .tripped) (tick : u.tickCount = w.tickCount) (rbi : u.rbi = w.rbi) :
    MovesTo s w u.handOn i after_ := by
  have blocks := (moved.handed road).blocks
  refine ⟨record, ?_, tick ▸ stands, ?_, ?_⟩
  · rw [beq_eq_false_iff_ne.mpr untripped]
    exact moved.moveFrame road
  · rw [blocks]; exact tick
  · rw [blocks]; exact rbi

/-- With nothing to hand on, nothing happens (R130, R133). -/
theorem State.handOn_eq_self {u : State} (spinUp : u.rsq.spinUpQueue ≠ [] → u.accelerating.length = 4)
    (sync : u.rsq.syncQueue ≠ [] → u.rsq.syncUnit ≠ none) : u.handOn = u := by
  have admitted : State.admitAll spinUpSlots u = u := by
    obtain same | ⟨_, i, rest, -, queue, free, -⟩ := State.admit_cases spinUpSlots u
    · exact same
    · exact absurd (spinUp (queue ▸ List.cons_ne_nil i rest)) (Nat.ne_of_lt free)
  rw [State.handOn, admitted]
  obtain ⟨same, -⟩ | ⟨i, rest, free, queue, -⟩ := u.handOver_cases
  · exact same
  · exact absurd free (sync (queue ▸ List.cons_ne_nil i rest))

/-- A slot that holds no resource leaves none. -/
theorem Rsq.leave_eq_self {q : Rsq} {i : Slot} (spinUp : i ∉ q.spinUpQueue) (sync : i ∉ q.syncQueue)
    (unit : q.syncUnit ≠ some i) (timer : q.timer i = none) : q.leave i = q := by
  have spinUpKept : q.spinUpQueue.filter (fun j => j != i) = q.spinUpQueue :=
    List.filter_eq_self.mpr fun j mem => bne_iff_ne.mpr fun same => spinUp (same ▸ mem)
  have syncKept : q.syncQueue.filter (fun j => j != i) = q.syncQueue :=
    List.filter_eq_self.mpr fun j mem => bne_iff_ne.mpr fun same => sync (same ▸ mem)
  have timersKept : setSlot q.timers i none = q.timers := by
    rw [← timer]
    exact Vector.set_getElem_self _
  simp only [Rsq.leave, Rsq.setTimer, spinUpKept, syncKept, timersKept, if_neg unit]

section
variable {s w : State} {i : Slot} (road : RoadInv s) (beside : Beside s w i) (rsq : w.rsq = s.rsq)
include road beside rsq

/-! ## Trips (R139) -/

theorem State.trip_movesTo (cause : RotorCause) :
    MovesTo s w (w.trip i cause) i (trippedRecord (w.rotor i) cause (w.rotor i).latched) := by
  have zeroed : Moved s (((w.leaveRoad i).setRotor i ((w.leaveRoad i).rotor i).zeroed).changeRotor i .tripped
      (some cause)) i false :=
    ((beside.withRsq _).setRotor _).movedOff (some cause) ⟨nofun, nofun⟩ ⟨nofun, nofun⟩ (congrArg (Rsq.leave · i) rsq)
  have moved : Moved s (w.tripOnly i cause) i true := zeroed.raised
  refine moved.movesTo_offRoad road ?_ rfl rfl (by simp) (by simp)
  rw [State.rotor_tripOnly, if_pos rfl]

theorem State.tripFault_movesTo (code : FaultCode) :
    MovesTo s w (w.tripFault i code) i (trippedRecord (w.rotor i) .fault code) := by
  obtain ⟨record, frame, stands, tick, rbi⟩ :=
    State.trip_movesTo road (beside.setRotor { w.rotor i with latched := code }) rsq .fault
  rw [State.rotor_setRotor_self] at record frame
  exact ⟨record, frame, stands, tick, rbi⟩

/-! ## The ends of the road, and the queues (R130, R132, R134) -/

theorem State.locked_movesTo :
    MovesTo s w (((w.leaveRoad i).setAttempts i 0).changeRotor i .online none).handOn i
      { w.rotor i with state := .online, attempts := 0 } := by
  have moved : Moved s (((w.leaveRoad i).setAttempts i 0).changeRotor i .online none) i false :=
    ((beside.withRsq _).setRotor _).movedOff none ⟨nofun, nofun⟩ ⟨nofun, nofun⟩ (congrArg (Rsq.leave · i) rsq)
  refine moved.movesTo_offRoad road ?_ rfl rfl (by simp) (by simp)
  rw [State.rotor_changeRotor, if_pos rfl, State.setAttempts, State.rotor_setRotor_self]
  rfl

theorem State.joinSpinUp_movesTo (before : (s.rotor i).state ≠ .accelerating) :
    MovesTo s w (w.joinSpinUp i) i (joinsSpinUp s (w.rotor i)) := by
  have moved (q : Rsq) (hq : q = { s.rsq.leave i with spinUpQueue := (s.rsq.leave i).spinUpQueue ++ [i] }) :
      MovesTo s w (((w.leaveRoad i).withRsq q).changeRotor i .spinupWait none).handOn i
        (joinsSpinUp s (w.rotor i)) := by
    have moved : Moved s (((w.leaveRoad i).withRsq q).changeRotor i .spinupWait none) i false := by
      refine ((beside.withRsq _).withRsq q).moved none ⟨nofun, nofun⟩ ?_
      rw [State.withRsq_rsq, hq]
      simp [waitingThen, Rsq.leave]
    have record : (((w.leaveRoad i).withRsq q).changeRotor i .spinupWait none).rotor i =
        { w.rotor i with state := .spinupWait } := by
      rw [State.rotor_changeRotor, if_pos rfl]; rfl
    obtain ⟨joined, stands⟩ := moved.joinsSpinUp road record before
    refine moved.movesTo_onTheRoad road joined stands (fun tripped => ?_) (by simp) (by simp)
    have state := joinsSpinUp_state s (w.rotor i)
    rw [tripped] at state
    exact state.elim nofun nofun
  exact moved _ (by rw [← rsq]; rfl)

theorem State.joinSync_movesTo (before : (s.rotor i).state ≠ .syncing) :
    MovesTo s w (w.joinSync i) i (joinsSync s (w.rotor i)) := by
  have moved (q : Rsq) (hq : q = { s.rsq.leave i with syncQueue := (s.rsq.leave i).syncQueue ++ [i] }) :
      MovesTo s w (((w.leaveRoad i).withRsq q).changeRotor i .syncWait none).handOn i
        (joinsSync s (w.rotor i)) := by
    have moved : Moved s (((w.leaveRoad i).withRsq q).changeRotor i .syncWait none) i false := by
      refine ((beside.withRsq _).withRsq q).moved none ⟨nofun, nofun⟩ ?_
      rw [State.withRsq_rsq, hq]
      simp [waitingThen, Rsq.leave]
    have record : (((w.leaveRoad i).withRsq q).changeRotor i .syncWait none).rotor i =
        { w.rotor i with state := .syncWait } := by
      rw [State.rotor_changeRotor, if_pos rfl]; rfl
    obtain ⟨joined, stands⟩ := moved.joinsSync road record before
    refine moved.movesTo_onTheRoad road joined stands (fun tripped => ?_) (by simp) (by simp)
    have state := joinsSync_state s (w.rotor i)
    rw [tripped] at state
    exact state.elim nofun nofun
  exact moved _ (by rw [← rsq]; rfl)

/-- A probe that finds the rotor at rest frees nothing: a PROBING slot is off the road as it is, and no slot waits for a
resource that is free (R127). -/
theorem State.probedAtRest_movesTo (before : (s.rotor i).state = .probing) :
    MovesTo s w (w.changeRotor i .parked none) i { w.rotor i with state := .parked } := by
  have notSpinUp : i ∉ s.rsq.spinUpQueue := fun waits => by
    rw [(road.spinUpHolds i).mp waits] at before; cases before
  have notSync : i ∉ s.rsq.syncQueue := fun waits => by
    rw [(road.syncHolds i).mp waits] at before; cases before
  have notUnit : s.rsq.syncUnit ≠ some i := fun own => by
    rw [(road.unit i).mp own] at before; cases before
  have untimed : s.rsq.timer i = none := by
    have timed := road.timed i
    rw [before] at timed
    exact Option.isNone_iff_eq_none.mp (Option.isSome_eq_false_iff.mp timed)
  have left : w.rsq = s.rsq.leave i := by rw [rsq, Rsq.leave_eq_self notSpinUp notSync notUnit untimed]
  have moved := beside.movedOff (st := .parked) none ⟨nofun, nofun⟩ ⟨nofun, nofun⟩ left
  have record : (w.changeRotor i .parked none).rotor i = { w.rotor i with state := .parked } := by
    rw [State.rotor_changeRotor, if_pos rfl]; rfl
  have queues := w.changeRotor_rsq i .parked none
  rw [rsq] at queues
  have move := moved.movesTo_offRoad (w := w) road record rfl rfl (by simp) (by simp)
  have nothing : (w.changeRotor i .parked none).handOn = w.changeRotor i .parked none := by
    refine State.handOn_eq_self (fun waits => ?_) (fun waits => ?_) <;> rw [queues] at waits
    · rw [State.accelerating_length _ i, State.acceleratingBut_congr moved.others, if_neg moved.settled.1]
      have full := road.spinUpWaits waits
      rwa [s.accelerating_length i, if_neg (before ▸ nofun)] at full
    · rw [queues]
      exact road.syncWaits waits
  rwa [nothing] at move

end

end Sys2Proof.Machine
end

section
/-! The RSQ's action on a reply that has been written into the record (R122, R127), test by test as `afterReply` orders
them. -/

namespace Sys2Proof.Machine

/-- What the RSQ has made of w, at slot i: nothing, or a move to another state and the record that is given. -/
def Acts (s w x : State) (i : Slot) (after_ : RotorRecord) : Prop :=
  (x = w ∧ after_ = w.rotor i) ∨ (MovesTo s w x i after_ ∧ after_.state ≠ (w.rotor i).state)

/-- The record after the progress test alone (R129, R131, R132, R134, R138). -/
def afterProgress (s : State) (r : RotorRecord) : RotorRecord :=
  if r.state = .lifting ∧ r.flags.levitated = true then joinsSpinUp s r
  else if r.state = .accelerating ∧ r.smin ≤ r.speed then joinsSync s r
  else if r.state = .syncWait ∧ r.speed < r.smin then joinsSpinUp s r
  else if r.state = .syncing ∧ r.flags.locked = true then { r with state := .online, attempts := 0 }
  else if r.state = .decelerating ∧ r.flags.atRest = true then { r with state := .parked, attempts := 0 }
  else r

theorem restartTrips_iff (st : RotorState) :
    restartTrips st = true ↔ st = .lifting ∨ st = .accelerating ∨ st = .syncing ∨ st = .online := by
  cases st <;> decide

theorem replyTrip_eq (r : RotorRecord) :
    replyTrip r = if r.faultCode ≠ .none then some .fault
      else if (r.flags.powerCycled && restartTrips r.state) = true then some .moduleRestart else none := by
  simp only [replyTrip, Bool.and_eq_true, restartTrips_iff]

/-- The three tests of R122, in their order. -/
theorem afterReply_tests (s : State) {r : RotorRecord}
    (tested : r.state ≠ .offline ∧ r.state ≠ .tripped ∧ r.state ≠ .probing) :
    afterReply s r =
      if r.faultCode ≠ .none then trippedRecord r .fault r.faultCode
      else if (r.flags.powerCycled && restartTrips r.state) = true then
        trippedRecord r .moduleRestart r.latched
      else afterProgress s r := by
  obtain ⟨enrolled, running, probed⟩ := tested
  rw [afterReply, if_neg (not_or.mpr ⟨enrolled, running⟩), if_neg probed, replyTrip_eq]
  by_cases fault : r.faultCode ≠ .none
  · simp only [if_pos fault, if_true]
  · simp only [if_neg fault]
    split <;> rfl

/-- The probe's tests of R127, in their order. -/
theorem afterReply_probing (s : State) {r : RotorRecord} (probing : r.state = .probing) :
    afterReply s r =
      if r.faultCode ≠ .none then trippedRecord r .fault r.faultCode
      else if r.speed ≤ 60 then { r with state := .parked }
      else if s.evt.mode = .halted then trippedRecord r .stop r.latched
      else if r.smin ≤ r.speed then joinsSync s r
      else joinsSpinUp s r := by
  have enrolled : ¬ (r.state = .offline ∨ r.state = .tripped) := by rw [probing]; exact fun h => h.elim nofun nofun
  rw [afterReply, if_neg enrolled, if_pos probing]

section
variable {s w : State} {i : Slot} (road : RoadInv s) (beside : Beside s w i) (rsq : w.rsq = s.rsq)
  (same : (w.rotor i).state = (s.rotor i).state)
include road beside rsq same

theorem State.progress_acts : Acts s w (w.progress i) i (afterProgress s (w.rotor i)) := by
  have spinUp (idle : (w.rotor i).state ≠ .accelerating) (waits : (w.rotor i).state ≠ .spinupWait) :
      Acts s w (w.joinSpinUp i) i (joinsSpinUp s (w.rotor i)) := by
    refine .inr ⟨State.joinSpinUp_movesTo road beside rsq (same ▸ idle), fun stays => ?_⟩
    have state := joinsSpinUp_state s (w.rotor i)
    rw [stays] at state
    exact state.elim idle waits
  cases state : (w.rotor i).state <;>
    simp only [State.progress, afterProgress, state, reduceCtorEq, false_and, true_and, if_false]
  case lifting =>
    split
    · exact spinUp (state ▸ nofun) (state ▸ nofun)
    · exact .inl ⟨rfl, rfl⟩
  case accelerating =>
    split
    · refine .inr ⟨State.joinSync_movesTo road beside rsq (same ▸ state ▸ nofun), fun stays => ?_⟩
      have joined := joinsSync_state s (w.rotor i)
      rw [stays, state] at joined
      exact joined.elim nofun nofun
    · exact .inl ⟨rfl, rfl⟩
  case syncWait =>
    split
    · exact spinUp (state ▸ nofun) (state ▸ nofun)
    · exact .inl ⟨rfl, rfl⟩
  case syncing =>
    split
    · exact .inr ⟨State.locked_movesTo road beside rsq, state ▸ nofun⟩
    · exact .inl ⟨rfl, rfl⟩
  case decelerating =>
    split
    · exact .inr ⟨State.settle_movesTo road beside rsq none, state ▸ nofun⟩
    · exact .inl ⟨rfl, rfl⟩
  all_goals exact .inl ⟨rfl, rfl⟩

theorem State.replyTests_acts
    (tested : (w.rotor i).state ≠ .offline ∧ (w.rotor i).state ≠ .tripped ∧ (w.rotor i).state ≠ .probing) :
    Acts s w (w.replyTests i) i (afterReply s (w.rotor i)) := by
  have running : RotorState.tripped ≠ (w.rotor i).state := tested.2.1.symm
  rw [afterReply_tests s tested]
  simp only [State.replyTests]
  split
  · exact .inr ⟨State.tripFault_movesTo road beside rsq _, running⟩
  · split
    · exact .inr ⟨State.trip_movesTo road beside rsq .moduleRestart, running⟩
    · exact State.progress_acts road beside rsq same

theorem State.probeReply_acts (probing : (w.rotor i).state = .probing) :
    Acts s w (w.probeReply i) i (afterReply s (w.rotor i)) := by
  have before : (s.rotor i).state = .probing := same.symm.trans probing
  have mode : w.evt.mode = s.evt.mode := by
    obtain ⟨-, -, evt, -⟩ := beside.blocks
    rw [evt]
  rw [afterReply_probing s probing]
  simp only [State.probeReply, mode, restSpeed]
  split
  · exact .inr ⟨State.tripFault_movesTo road beside rsq _, probing ▸ nofun⟩
  · split
    · exact .inr ⟨State.probedAtRest_movesTo road beside rsq before, probing ▸ nofun⟩
    · split
      · exact .inr ⟨State.trip_movesTo road beside rsq .stop, probing ▸ nofun⟩
      · split
        · refine .inr ⟨State.joinSync_movesTo road beside rsq (before ▸ nofun), fun stays => ?_⟩
          have joined := joinsSync_state s (w.rotor i)
          rw [stays, probing] at joined
          exact joined.elim nofun nofun
        · refine .inr ⟨State.joinSpinUp_movesTo road beside rsq (before ▸ nofun), fun stays => ?_⟩
          have joined := joinsSpinUp_state s (w.rotor i)
          rw [stays, probing] at joined
          exact joined.elim nofun nofun

/-- The RSQ acts on a reply as `afterReply` says (R122). -/
theorem State.sequenceReply_acts : Acts s w (w.sequenceReply i) i (afterReply s (w.rotor i)) := by
  have idle (state : (w.rotor i).state = .offline ∨ (w.rotor i).state = .tripped) :
      afterReply s (w.rotor i) = w.rotor i := if_pos state
  unfold State.sequenceReply
  split
  case h_1 state => exact .inl ⟨rfl, idle (.inl state)⟩
  case h_2 state => exact State.probeReply_acts road beside rsq same state
  case h_11 state => exact .inl ⟨rfl, idle (.inr state)⟩
  all_goals
    next state => exact State.replyTests_acts road beside rsq same (by rw [state]; exact ⟨nofun, nofun, nofun⟩)

end

end Sys2Proof.Machine
end

section
/-! MODULE_REPLY (R152, R153, R156, R158, R199): O47. The bytes make a frame or none; the frame answers the poll in flight or
does not; and a poll that has been answered lets the round go on. -/

namespace Sys2Proof.Machine

/-! ## The round goes on (R156) -/

theorem State.beginRound_eq (s : State) (setpoints : Vector Int 16) :
    s.beginRound setpoints = s.withRbi (roundBegun s.rbi s.rotor setpoints) := by
  rw [← State.beginRound_rbi]
  rfl

/-- With no poll in flight the round goes on as `roundGoesOn` says, and nothing else happens. -/
theorem State.continueRound_eq {s : State} (idle : s.rbi.inFlight = none) :
    s.continueRound = s.withRbi (roundGoesOn s.rbi s.rotor) := by
  cases round : s.rbi.round with
  | none =>
    have stays : s.continueRound = s := by simp only [State.continueRound, round]
    have goesOn : roundGoesOn s.rbi s.rotor = s.rbi := by simp only [roundGoesOn, round]
    rw [stays, goesOn]
    rfl
  | some r =>
    by_cases finished : r.slotPart = [] ∧ r.probePart = []
    · have ends : s.continueRound = s.endRound := by
        simp only [State.continueRound, round, idle, Bool.and_eq_true, List.isEmpty_iff, if_pos finished]
      rw [ends]
      cases pending : s.rbi.pendingResult with
      | none => simp only [State.endRound, roundGoesOn, round, pending, if_pos finished]
      | some setpoints =>
        simp only [State.endRound, roundGoesOn, round, pending, if_pos finished]
        exact State.beginRound_eq _ setpoints
    · have stays : s.continueRound = s := by
        simp only [State.continueRound, round, idle, Bool.and_eq_true, List.isEmpty_iff, if_neg finished]
      have goesOn : roundGoesOn s.rbi s.rotor = s.rbi := by simp only [roundGoesOn, round, if_neg finished]
      rw [stays, goesOn]
      rfl

/-! ## A frame and the poll in flight (R152) -/

section
variable {s : State} {frame : List Byte}

/-- A frame that answers no poll in flight, or comes outside its window, is discarded. -/
theorem State.busFrame_discards
    (unmatched : ∀ p m, s.rbi.inFlight = some p → readReply frame = some m →
      ¬ (windowOpen p s.tickCount && answers p m) = true) : s.busFrame frame = s := by
  unfold State.busFrame
  split
  · next p m flight read => exact if_neg (unmatched p m flight read)
  · rfl

theorem State.busFrame_delivers {p : Poll} {m : ModuleReport} (flight : s.rbi.inFlight = some p)
    (read : readReply frame = some m) (matched : (windowOpen p s.tickCount && answers p m) = true) :
    s.busFrame frame = s.takeReport p m := by
  simp only [State.busFrame, flight, read, if_pos matched]

end

theorem matches_iff (p : Poll) (m : ModuleReport) (now : Tick) :
    (windowOpen p now && answers p m) = true ↔
      (p.windowClose - now).toNat ≤ 4000 ∧ m.slot = p.slot ∧ m.tag = p.tag := by
  simp only [windowOpen, answers, Bool.and_eq_true, beq_iff_eq, decide_eq_true_eq]
  rfl

/-! ## What a matching reply writes (R62, R64, R73) -/

theorem RotorRecord.takeReport_takeAck (r : RotorRecord) (m : ModuleReport) (offered : Option Limits) :
    (r.takeReport m).takeAck m.flags.limitsAck offered = reported r m offered := by
  unfold RotorRecord.takeAck reported
  cases acknowledged : m.flags.limitsAck
  · simp [RotorRecord.takeReport]
  · cases offered with
    | none => simp [RotorRecord.takeReport]
    | some l => by_cases equal : r.staged = some l <;> simp [RotorRecord.takeReport, equal]

/-- A move stays a move when the round has gone on after it. -/
theorem MoveFrame.withRbi {s u : State} {i : Slot} {tripped : Bool} (frame : MoveFrame s u i tripped) (b : Rbi) :
    MoveFrame s (u.withRbi b) i tripped := by
  obtain ⟨spinUpQueue, admitted, unitBusy, unitIdle, unitTaken, others⟩ := frame.handedOn
  exact ⟨frame.blocks, frame.lif, frame.stu, ⟨spinUpQueue, admitted, unitBusy, unitIdle, unitTaken, others⟩,
    frame.changed⟩

/-! ## The command -/

/-- The RBI when the frame is complete: it assembles no more, and a matching frame ends the poll in flight. -/
def Rbi.answered (b : Rbi) : Rbi := { b with inFlight := none, assembly := [] }

section
variable {s : State} {p : Poll} {m : ModuleReport} (now : Tick)

/-- The state in which the RSQ acts on a matching reply: the poll ended, the report written into the record. -/
def State.reportTaken (s : State) (now : Tick) (p : Poll) (m : ModuleReport) : State :=
  ((s.withTick now).withRbi s.rbi.answered).setRotor p.slot (reported (s.rotor p.slot) m p.offered)

theorem State.reportTaken_beside : Beside s (s.reportTaken now p m) p.slot :=
  have ended : Beside s ((s.withTick now).withRbi s.rbi.answered) p.slot :=
    ⟨⟨rfl, rfl, rfl, rfl, rfl, rfl⟩, rfl, rfl, fun _ _ => rfl⟩
  ended.setRotor _

theorem State.reportTaken_rotor :
    (s.reportTaken now p m).rotor p.slot = reported (s.rotor p.slot) m p.offered :=
  State.rotor_setRotor_self _ _ _

/-- What the RSQ makes of a matching reply, and the round that then goes on. -/
theorem State.reportTaken_outcome (road : RoadInv s) :
    let before := s.rotor p.slot
    let after_ := afterReply s (reported before m p.offered)
    let t := ((s.reportTaken now p m).sequenceReply p.slot).continueRound
    t.tickCount = now ∧ t.rotor p.slot = after_ ∧ t.rbi = roundGoesOn s.rbi.answered t.rotor ∧
      (after_.state = before.state →
        t = { s with tickCount := now, rotors := setSlot s.rotors p.slot after_, rbi := t.rbi }) ∧
      (after_.state ≠ before.state →
        MoveFrame s t p.slot (after_.state == .tripped) ∧ standsWhereItShould s t p.slot now) := by
  intro before after_
  have acts := State.sequenceReply_acts road (State.reportTaken_beside (m := m) (p := p) now) rfl
    (by rw [State.reportTaken_rotor]; rfl)
  rw [State.reportTaken_rotor] at acts
  generalize (s.reportTaken now p m).sequenceReply p.slot = x at acts ⊢
  obtain ⟨rfl, kept⟩ | ⟨move, moves⟩ := acts
  · have going := State.continueRound_eq (s := s.reportTaken now p m) rfl
    have record : after_ = reported before m p.offered := kept.trans (State.reportTaken_rotor now)
    rw [going]
    refine ⟨rfl, kept.symm, rfl, fun _ => ?_, fun moves => ?_⟩
    · rw [record]
      rfl
    · exact absurd (congrArg RotorRecord.state record) moves
  · have idle : x.rbi.inFlight = none := by rw [move.rbi]; rfl
    have going := State.continueRound_eq idle
    rw [move.rbi] at going
    rw [State.reportTaken_rotor] at moves
    rw [going]
    exact ⟨move.tickCount, move.record, rfl, fun stays => absurd stays moves, fun _ =>
      ⟨move.frame.withRbi _, move.stands⟩⟩

end

/-- A matching frame, received whole, ends its poll; an abandoned poll's frame is then discarded, any other delivered. -/
theorem State.busBytes_matching {s : State} {bytes : List Byte} {p : Poll} {m : ModuleReport} (now : Tick)
    (some_bytes : bytes ≠ []) (read : (assembleReply (s.rbi.assembly ++ bytes)).bind readReply = some m)
    (flight : s.rbi.inFlight = some p) (matched : (windowOpen p now && answers p m) = true) :
    (s.withTick now).busBytes bytes =
      (if p.abandoned then (s.withTick now).withRbi s.rbi.answered
        else (s.reportTaken now p m).sequenceReply p.slot).continueRound := by
  obtain ⟨frame, assembled, frame_read⟩ := Option.bind_eq_some_iff.mp read
  obtain ⟨nothing, -⟩ | ⟨-, unfinished, -⟩ | ⟨frame', -, complete, taken⟩ := (s.withTick now).busBytes_cases bytes
  · exact absurd nothing some_bytes
  · exact absurd (assembled.symm.trans unfinished) nofun
  · obtain rfl : frame = frame' := Option.some.inj (assembled.symm.trans complete)
    have delivered := State.busFrame_delivers (s := (s.withTick now).withRbi { s.rbi with assembly := [] }) flight
      frame_read matched
    rw [State.reportTaken, ← RotorRecord.takeReport_takeAck]
    exact taken.trans delivered

/-- Bytes that bring no matching frame change the bytes that the RBI holds, and nothing else. -/
theorem State.busBytes_unmatched {s : State} {bytes : List Byte} (now : Tick)
    (unmatched : ∀ p m, bytes ≠ [] → (assembleReply (s.rbi.assembly ++ bytes)).bind readReply = some m →
      s.rbi.inFlight = some p → ¬ (windowOpen p now && answers p m) = true) :
    (s.withTick now).busBytes bytes = (s.withTick now).withRbi { s.rbi with
      assembly := if bytes = [] ∨ 12 ≤ (replyBytesFrom (s.rbi.assembly ++ bytes)).length then []
        else replyBytesFrom (s.rbi.assembly ++ bytes) } := by
  obtain ⟨nothing, held⟩ | ⟨some_bytes, unfinished, held⟩ | ⟨frame, some_bytes, complete, taken⟩ :=
    (s.withTick now).busBytes_cases bytes
  · rw [held, if_pos (.inl nothing)]
    rfl
  · have short : (replyBytesFrom (s.rbi.assembly ++ bytes)).length < 12 := (assembleReply_none _).mp unfinished
    rw [held, if_neg (not_or.mpr ⟨some_bytes, Nat.not_le.mpr short⟩)]
    rfl
  · have twelve : 12 ≤ (replyBytesFrom (s.rbi.assembly ++ bytes)).length := by
      by_contra short
      exact absurd (complete.symm.trans ((assembleReply_none _).mpr (Nat.not_le.mp short))) nofun
    rw [taken, if_pos (.inr twelve)]
    refine State.busFrame_discards fun p m flight read => unmatched p m some_bytes ?_ flight
    exact Option.bind_eq_some_iff.mpr ⟨frame, complete, read⟩

/-- Settles O47: the bytes bring no matching frame, or one to an abandoned poll, or one that is delivered. -/
theorem matchingReplyIsDelivered : Obligations.MatchingReplyIsDelivered := by
  intro dt bytes s up now arrived matching
  rw [exec_moduleReply, State.taking_up up, show s.advance dt = s.withTick now from rfl]
  refine ⟨fun unmatched => ?_, fun p m matched => ?_⟩
  · rw [State.busBytes_unmatched now fun p m some_bytes read flight open_ => ?_]
    · rfl
    · obtain ⟨window, slot, tag⟩ := (matches_iff p m now).mp open_
      exact unmatched p m ⟨some_bytes, read, flight, window, slot, tag⟩
  · obtain ⟨some_bytes, read, flight, window, slot, tag⟩ := matched
    rw [State.busBytes_matching now some_bytes read flight ((matches_iff p m now).mpr ⟨window, slot, tag⟩)]
    refine ⟨fun abandoned => ?_, fun kept road => ?_⟩
    · rw [if_pos abandoned, State.continueRound_eq rfl]
      rfl
    · rw [if_neg (by rw [kept]; exact nofun)]
      obtain ⟨tick, record, rbi, stays, moves⟩ := State.reportTaken_outcome (m := m) (p := p) now road
      exact ⟨_, rfl, tick, record, rbi, stays, fun moved => ⟨(moves moved).1, .inr (moves moved).2⟩⟩

end Sys2Proof.Machine
end

section
/-! The share procedure rotor by rotor (R79, R80): O17. What a sweep gives one rotor depends on the rotors before it by
the room that the first pass has left them; bounds and sums of shares, for both passes of a dispatch. -/

namespace Sys2Proof.Machine

/-! ## A sweep along the slots (R80) -/

/-- A sweep goes on past some rotors with what their spare room has left of the remainder. -/
theorem sweep_append (target total remainder : Nat) (before rest : List Candidate) :
    sweep target total remainder (before ++ rest) =
      sweep target total remainder before ++ sweep target total (remainder - spareRoom target total before) rest := by
  induction before generalizing remainder with
  | nil => simp [sweep, spareRoom]
  | cons b before ih =>
    have left : remainder - min remainder (b.room - proportion target total b) - spareRoom target total before =
        remainder - spareRoom target total (b :: before) := by
      simp only [spareRoom, List.map_cons, List.sum_cons]
      omega
    simp only [List.cons_append, sweep, ih, left]

theorem length_sweep (target total remainder : Nat) (cs : List Candidate) :
    (sweep target total remainder cs).length = cs.length := by
  induction cs generalizing remainder with
  | nil => rfl
  | cons c rest ih => simp [sweep, ih]

/-- No share exceeds the room of its rotor (R79, R80). -/
theorem sweep_within_room (target total remainder : Nat) (cs : List Candidate) :
    ∀ x ∈ sweep target total remainder cs, ∃ c ∈ cs, c.slot = x.slot ∧ x.amount ≤ c.room := by
  induction cs generalizing remainder with
  | nil => exact fun _ mem => nomatch mem
  | cons c rest ih =>
    simp only [sweep, List.forall_mem_cons, List.exists_mem_cons_iff]
    refine ⟨.inl ⟨trivial, ?_⟩, fun x mem => .inr (ih _ x mem)⟩
    have within := proportion_le_room target total c
    omega

/-- Settles O17: what stands in the place of a rotor is what the sweep gives it after the rotors before it. -/
theorem shareProcedure : Obligations.ShareProcedure := by
  intro target cs total first left
  refine ⟨?_, length_sweep _ _ _ _, sum_proportion_le target cs, servedOf_shareOut target cs⟩
  rintro before c after_ rfl
  have place : (sweep target total left before).length = before.length := length_sweep _ _ _ _
  calc (shareOut target (before ++ c :: after_))[before.length]?
      = (sweep target total left before ++
          sweep target total (left - spareRoom target total before) (c :: after_))[before.length]? := by
        rw [← sweep_append]; rfl
    _ = (sweep target total (left - spareRoom target total before) (c :: after_))[0]? := by
        rw [List.getElem?_append_right place.le, place, Nat.sub_self]

/-! ## The shares of the slots (R82, R87) -/

/-- A slot's share is bounded by what bounds every share. -/
theorem shareOf_le {shares : List Share} {bound : Slot → Nat} (within : ∀ x ∈ shares, x.amount ≤ bound x.slot)
    (i : Slot) : shareOf shares i ≤ bound i := by
  unfold shareOf
  cases found : shares.find? fun x => x.slot == i with
  | none => exact Nat.zero_le _
  | some x =>
    have here := List.find?_some found
    obtain rfl : x.slot = i := beq_iff_eq.mp here
    exact within x (List.mem_of_find?_eq_some found)

/-- The shares of all slots add up to what is served, where no slot has two. -/
theorem sum_shareOf {shares : List Share} (once : (shares.map fun x => x.slot).Nodup) :
    ∑ i : Slot, shareOf shares i = servedOf shares := by
  induction shares with
  | nil => exact Finset.sum_const_zero
  | cons x rest ih =>
    obtain ⟨apart, distinct⟩ := List.nodup_cons.mp once
    have alone (i : Slot) : shareOf (x :: rest) i = (if x.slot = i then x.amount else 0) + shareOf rest i := by
      by_cases here : x.slot = i
      · have none_later : shareOf rest i = 0 := shareOf_of_not_mem (here ▸ apart)
        rw [if_pos here, none_later, shareOf, List.find?_cons_of_pos (by simpa using here)]
        rfl
      · rw [if_neg here, Nat.zero_add, shareOf, List.find?_cons_of_neg (by simpa using here)]
        rfl
    simp only [alone, Finset.sum_add_distrib, Finset.sum_ite_eq, Finset.mem_univ, if_true, ih distinct]
    rfl

end Sys2Proof.Machine
end

section
/-! The order pass and the dispatch record (R84 to R91): the record of a dispatch in one equation, what the order pass
hands out, and with it the sums of R91: O57. -/

namespace Sys2Proof.Machine

/-! ## The order pass (R84 to R88) -/

/-- The rotors that may serve an order, ascending, each with its weight and its room (R85, R86). -/
theorem State.orderCandidates_eq (s : State) (o : Order) (f : Slot → Int) :
    s.orderCandidates o f =
      (allSlots.filter fun i => servesOrder s.dse.floor s.dse.ceiling o (s.rotor i)).map fun i =>
        ⟨i, weightForOrder s.dse.floor s.dse.ceiling o (s.rotor i), orderRoom o.direction (f i) (s.rotor i)⟩ := by
  have eligible (i : Slot) :
      (orderEligible o.direction s.dse.floor s.dse.ceiling (s.rotor i) && (s.rotor i).group == o.group) =
        servesOrder s.dse.floor s.dse.ceiling o (s.rotor i) := by
    unfold orderEligible servesOrder
    cases o.direction <;> simp only [Bool.and_assoc, Bool.and_comm, Bool.and_left_comm]
  rw [← List.filterMap_eq_map, List.filterMap_filter, State.orderCandidates]
  refine List.filterMap_congr fun i _ => ?_
  rw [eligible]
  rfl

/-- With no rotor to serve the order the share procedure has nothing to share out either (R88). -/
theorem State.orderPass_some (s : State) (o : Order) (f : Slot → Int) (signedServed : Int) :
    let cs := s.orderCandidates o f
    let shares := shareOut (orderTarget o.power (bankRoom s.dse o.direction signedServed)) cs
    s.orderPass (some o) f signedServed =
      ⟨some o.id, directed o.direction o.power, servedOf shares, o.power - servedOf shares, cs.isEmpty, o.direction,
        shares⟩ := by
  intro cs shares
  have shared : (if cs.isEmpty then [] else shares) = shares := by
    cases empty : cs with
    | nil => simp only [shares, empty]; rfl
    | cons c rest => rfl
  simp only [State.orderPass]
  rw [shared]

/-- What an order pass hands out (R80, R85 to R87): the figures of its order agree with its shares; each share is that
of an ONLINE rotor and within its room, and all of them together are within the bank room. -/
structure OrderShares (s : State) (f : Slot → Int) (signedServed : Int) (r : OrderResult) : Prop where
  served : r.served = servedOf r.shares
  power : r.served + r.unserved = r.po.natAbs
  signed : (if r.po < 0 then -(r.served : Int) else r.served) = directed r.direction r.served
  once : (r.shares.map fun x => x.slot).Nodup
  online : ∀ x ∈ r.shares, (s.rotor x.slot).state = .online
  rooms : ∀ x ∈ r.shares, x.amount ≤ orderRoom r.direction (f x.slot) (s.rotor x.slot)
  bank : r.served ≤ (bankRoom s.dse r.direction signedServed).toNat

theorem directed_natAbs (dir : Direction) (v : Nat) : (directed dir v).natAbs = v := by
  cases dir
  · exact Int.natAbs_natCast v
  · exact (Int.natAbs_neg v).trans (Int.natAbs_natCast v)

/-- What is served of a power has the sign of its direction (R87). -/
theorem directed_signed {v power : Nat} (h : v ≤ power) (dir : Direction) :
    (if directed dir power < 0 then -(v : Int) else v) = directed dir v := by
  cases dir with
  | discharge => exact if_neg (Int.not_lt.mpr (Int.natCast_nonneg power))
  | absorb =>
    show (if -(power : Int) < 0 then -(v : Int) else v) = -(v : Int)
    split <;> omega

theorem State.orderPass_shares (s : State) (answer : Option Order) (f : Slot → Int) (signedServed : Int) :
    OrderShares s f signedServed (s.orderPass answer f signedServed) := by
  cases answer with
  | none => exact ⟨rfl, rfl, rfl, List.nodup_nil, nofun, nofun, Nat.zero_le _⟩
  | some o =>
    rw [State.orderPass_some]
    generalize hcs : s.orderCandidates o f = cs
    rw [State.orderCandidates_eq] at hcs
    generalize htarget : orderTarget o.power (bankRoom s.dse o.direction signedServed) = target
    have served : servedOf (shareOut target cs) ≤ target := servedOf_shareOut target cs ▸ Nat.min_le_left _ _
    have power : servedOf (shareOut target cs) ≤ o.power := served.trans (htarget ▸ Nat.min_le_left _ _)
    have bank : servedOf (shareOut target cs) ≤ (bankRoom s.dse o.direction signedServed).toNat :=
      served.trans (htarget ▸ Nat.min_le_right _ _)
    have candidates : ∀ c ∈ cs, (s.rotor c.slot).state = .online ∧
        c.room = orderRoom o.direction (f c.slot) (s.rotor c.slot) := by
      rw [← hcs, List.forall_mem_map]
      intro i listed
      have serves := (List.mem_filter.mp listed).2
      simp only [servesOrder, Bool.and_eq_true, beq_iff_eq] at serves
      exact ⟨serves.1.1.1, rfl⟩
    have taken : ∀ x ∈ shareOut target cs, (s.rotor x.slot).state = .online ∧
        x.amount ≤ orderRoom o.direction (f x.slot) (s.rotor x.slot) := by
      intro x mem
      obtain ⟨c, listed, same, within⟩ := sweep_within_room _ _ _ _ x mem
      obtain ⟨online, room⟩ := candidates c listed
      rw [same] at online room
      exact ⟨online, room ▸ within⟩
    refine ⟨rfl, ?_, directed_signed power o.direction, ?_, fun x mem => (taken x mem).1, fun x mem => (taken x mem).2,
      bank⟩
    · rw [directed_natAbs]
      exact Nat.add_sub_cancel' power
    · rw [slots_shareOut, ← hcs, List.map_map]
      exact (List.map_id _).symm ▸ (List.nodup_finRange 16).filter _

/-! ## The dispatch record (R90) -/

/-- The shares that the frequency pass of a dispatch gives (R82). -/
def State.frequencyResult (s : State) (sm : Sample) : List Share :=
  frequencyShares (demandStage s.dse s.evt.mode sm).demand fun i => (s.rotor i).derive

/-- The state in which the ORL answers the demand request of a dispatch (R78, R84). -/
def State.requested (s : State) (sm : Sample) : State :=
  let dm := demandStage s.dse s.evt.mode sm
  let s1 := (s.raiseIf dm.saturated .saturated).mapRotors fun _ r => r.derive
  (s1.raiseIf (decide (servedOf (s.frequencyResult sm) < dm.demand.natAbs)) .unserved).demandRequest
    (s.plantTimeAt sm.tick)

/-- The frequency share of a slot, with its sign (R82). -/
def State.frequencyShare (s : State) (sm : Sample) (i : Slot) : Int :=
  withSignOf (demandStage s.dse s.evt.mode sm).demand (shareOf (s.frequencyResult sm) i)

/-- What the order pass of a dispatch gives (R84 to R88). -/
def State.orderResult (s : State) (sm : Sample) : OrderResult :=
  (s.requested sm).orderPass (s.requested sm).suppliedOrder (s.frequencyShare sm)
    (withSignOf (demandStage s.dse s.evt.mode sm).demand (servedOf (s.frequencyResult sm)))

/-- The order share of a slot, with its sign (R87). -/
def State.orderShare (s : State) (sm : Sample) (i : Slot) : Int :=
  directed (s.orderResult sm).direction (shareOf (s.orderResult sm).shares i)

section
variable (s : State) (sm : Sample)

theorem State.requested_rotor (i : Slot) : (s.requested sm).rotor i = (s.rotor i).derive := by
  rw [State.requested, State.rotor_congr ((State.demandRequest_rotors _ _).trans (State.raiseIf_rotors _ _ _)),
    State.rotor_mapRotors, State.rotor_congr (State.raiseIf_rotors s _ _)]

@[simp] theorem State.requested_dse : (s.requested sm).dse = s.dse := by simp [State.requested]

theorem State.orderResult_shares :
    OrderShares (s.requested sm) (s.frequencyShare sm)
      (withSignOf (demandStage s.dse s.evt.mode sm).demand (servedOf (s.frequencyResult sm))) (s.orderResult sm) :=
  State.orderPass_shares _ _ _ _

/-- A slot that is not ONLINE has no share of either pass. -/
theorem State.shares_of_not_online {i : Slot} (idle : (s.rotor i).state ≠ .online) :
    s.frequencyShare sm i = 0 ∧ s.orderShare sm i = 0 := by
  have result := s.orderResult_shares sm
  have noRoom (f : Int) : frequencyRoom f (s.rotor i).derive = 0 :=
    if_neg fun takesPart => idle ((s.rotor i).derive_state.symm.trans takesPart.1)
  have noOrder : shareOf (s.orderResult sm).shares i = 0 := by
    refine shareOf_of_not_mem fun listed => idle ?_
    obtain ⟨x, mem, rfl⟩ := List.mem_map.mp listed
    have online := result.online x mem
    rwa [State.requested_rotor, RotorRecord.derive_state] at online
  constructor
  · rw [State.frequencyShare, State.frequencyResult, shareOf_frequencyShares_of_room_zero _ _ (noRoom _)]
    exact ite_self _
  · rw [State.orderShare, noOrder]
    cases (s.orderResult sm).direction <;> rfl

theorem State.frequencyPass_derived (b : Bool) :
    ((s.raiseIf b .saturated).mapRotors fun _ r => r.derive).frequencyPass (demandStage s.dse s.evt.mode sm).demand =
      s.frequencyResult sm := by
  have records : ((s.raiseIf b .saturated).mapRotors fun _ r => r.derive).rotor = fun i => (s.rotor i).derive := by
    funext i
    rw [State.rotor_mapRotors, State.rotor_congr (State.raiseIf_rotors s b _)]
  rw [State.frequencyPass_eq, records]
  rfl

/-- The record of a dispatch, from the results of its two passes (R89, R90). -/
theorem State.computeDispatch_record :
    (s.computeDispatch sm).2 =
      makeRecord sm (s.plantTimeAt sm.tick) (demandStage s.dse s.evt.mode sm) (servedOf (s.frequencyResult sm))
        (s.orderResult sm)
        (Vector.ofFn fun i : Fin 16 => composeShares (s.frequencyShare sm i) (s.orderShare sm i)) := by
  have slots (i : Slot) :
      (if ((s.requested sm).rotor i).state = .online then composeShares (s.frequencyShare sm i) (s.orderShare sm i)
        else Shares.zero) = composeShares (s.frequencyShare sm i) (s.orderShare sm i) := by
    rw [State.requested_rotor, RotorRecord.derive_state]
    split
    · rfl
    · next idle =>
      obtain ⟨noFrequency, noOrder⟩ := s.shares_of_not_online sm idle
      rw [noFrequency, noOrder]
      rfl
  rw [← show _ = Vector.ofFn _ from congrArg Vector.ofFn (funext slots)]
  have signed : s.frequencyShare sm =
      fun i => withSignOf (demandStage s.dse s.evt.mode sm).demand (shareOf (s.frequencyResult sm) i) := rfl
  simp only [State.computeDispatch, State.frequencyPass_derived, State.orderShare, State.orderResult, signed,
    State.requested]

theorem State.computeDispatch_slots (i : Slot) :
    (s.computeDispatch sm).2.slots[i] = composeShares (s.frequencyShare sm i) (s.orderShare sm i) := by
  rw [State.computeDispatch_record]
  simp only [makeRecord, Fin.getElem_fin, Vector.getElem_ofFn, Fin.eta]

end

/-! ## The sums of R91 -/

theorem sum_withSignOf (f : Int) (v : Slot → Nat) : ∑ i, withSignOf f (v i) = withSignOf f (∑ i, v i) := by
  unfold withSignOf
  split
  · rw [Finset.sum_neg_distrib, Nat.cast_sum]
  · rw [Nat.cast_sum]

theorem sum_directed (dir : Direction) (v : Slot → Nat) : ∑ i, directed dir (v i) = directed dir (∑ i, v i) := by
  cases dir with
  | discharge => exact (Nat.cast_sum _ _).symm
  | absorb =>
    unfold directed
    rw [Finset.sum_neg_distrib, Nat.cast_sum]

theorem slots_frequencyShares_nodup (f : Int) (rotor : Slot → RotorRecord) :
    ((frequencyShares f rotor).map fun x => x.slot).Nodup := by
  unfold frequencyShares
  split
  · exact List.nodup_nil
  · rw [slots_shareOut, slots_frequencyEligible]
    exact (List.nodup_finRange 16).filter _

theorem State.frequencyResult_served_le (s : State) (sm : Sample) :
    servedOf (s.frequencyResult sm) ≤ (demandStage s.dse s.evt.mode sm).demand.natAbs := by
  rw [State.frequencyResult, servedOf_frequencyShares]
  exact Nat.min_le_left _ _

/-- Every dispatch record keeps the sums of R91. -/
theorem State.computeDispatch_dispatchInv (s : State) (sm : Sample) : DispatchInv (s.computeDispatch sm).2 := by
  have result := s.orderResult_shares sm
  have served := s.frequencyResult_served_le sm
  have frequency : ∑ i, s.frequencyShare sm i =
      withSignOf (demandStage s.dse s.evt.mode sm).demand (servedOf (s.frequencyResult sm)) := by
    simp only [State.frequencyShare, sum_withSignOf]
    rw [State.frequencyResult, sum_shareOf (slots_frequencyShares_nodup _ _)]
  have order : ∑ i, s.orderShare sm i = directed (s.orderResult sm).direction (s.orderResult sm).served := by
    simp only [State.orderShare, sum_directed]
    rw [sum_shareOf result.once, ← result.served]
  have slots := s.computeDispatch_slots sm
  have record := s.computeDispatch_record sm
  generalize (s.computeDispatch sm).2 = d at slots record ⊢
  refine ⟨?_, ?_, ?_⟩
  · rw [record]
    exact Nat.add_sub_cancel' served
  · rw [record]
    exact result.power
  · have signed : d.signedServed + d.signedOrderServed =
        withSignOf (demandStage s.dse s.evt.mode sm).demand (servedOf (s.frequencyResult sm)) +
          directed (s.orderResult sm).direction (s.orderResult sm).served := by
      rw [record, ← result.signed]
      rfl
    rw [signed, ← frequency, ← order, ← Finset.sum_add_distrib, Fin.sum_univ_def]
    simp only [slots, composeShares, allSlots]

/-! ## The latest dispatch record (R91) -/

/-- A change that leaves the latest dispatch record. -/
theorem LatestInv.of_latest {s t : State} (h : LatestInv s) (latest : t.dse.latest = s.dse.latest) : LatestInv t := by
  rwa [LatestInv, latest]

theorem LatestInv.frame {s t : State} (h : LatestInv s) (frame : ControlFrame s t) : LatestInv t :=
  h.of_latest (congrArg _ frame.dse)

@[simp] theorem Dse.activatePending_latest (d : Dse) : d.activatePending.latest = d.latest := by
  unfold Dse.activatePending
  split <;> rfl

@[simp] theorem Dse.takeCurve_latest (d : Dse) (m : Mode) (c : List Breakpoint) :
    (d.takeCurve m c).latest = d.latest := by
  cases m <;> rfl

namespace LatestInv

variable {s : State}

/-- A sample's dispatch record is the latest one (R90). -/
theorem passage (s : State) (t : Tick) (valid : Bool) : LatestInv (s.passage t valid) := by
  intro d latest
  rw [State.passage_latest, Option.some.injEq] at latest
  exact latest ▸ State.computeDispatch_dispatchInv _ _

theorem assertStop (h : LatestInv s) : LatestInv s.assertStop := by
  by_cases mode : s.evt.mode = .event
  · exact h.of_latest (by rw [(State.assertStop_evt_event mode).2.1, Dse.activatePending_latest])
  · exact h.of_latest (by rw [(State.assertStop_evt_outsideEvent mode).2.1])

theorem releaseStop (h : LatestInv s) : LatestInv s.releaseStop := by
  refine h.of_latest ?_
  rw [State.releaseStop, State.addNotice_dse, State.withEvt_dse]

/-- A reset leaves no dispatch record (R33). -/
theorem takeReset (s : State) (cause : ResetCause) (t : Tick) (line : StopLevel) :
    LatestInv (s.takeReset cause t line) := by
  rw [State.takeReset_eq]
  exact fun _ latest => nomatch latest

theorem ownSetMode (h : LatestInv s) (p : List Byte) : LatestInv (ownSetMode s p).state := by
  unfold Machine.ownSetMode
  split
  · exact h
  · split <;> exact h

theorem ownSetMeasurement (h : LatestInv s) (p : List Byte) : LatestInv (ownSetMeasurement s p).state := by
  unfold Machine.ownSetMeasurement
  split
  · exact h
  · split
    · exact h
    · exact h.of_latest (congrArg _ (State.addNoticeIf_dse _ _ _))

theorem ownSetEvent (h : LatestInv s) (p : List Byte) : LatestInv (ownSetEvent s p).state := by
  unfold Machine.ownSetEvent
  split <;> exact h

theorem ownSetBankLimits (h : LatestInv s) (p : List Byte) : LatestInv (ownSetBankLimits s p).state := by
  simp only [Machine.ownSetBankLimits]
  split <;> exact h

theorem ownSetCurve (h : LatestInv s) (p : List Byte) : LatestInv (ownSetCurve s p).state := by
  simp only [Machine.ownSetCurve]
  split
  · exact h
  · split
    · exact h
    · exact h.of_latest (Dse.takeCurve_latest _ _ _)

/-- Whatever a command does to the EVT and the DSE, the latest dispatch record keeps its sums. -/
theorem controlChange {t : State} (h : LatestInv s) (change : ControlChange s t) : LatestInv t := by
  cases change with
  | kept frame => exact h.frame frame
  | sample frame t valid => exact passage _ t valid
  | stopAsserted frame => exact (h.frame frame).assertStop
  | stopReleased frame level => exact (h.frame frame).releaseStop
  | reset u cause t line => exact takeReset u cause t line
  | setMode p frame => exact (h.ownSetMode p).frame frame
  | setMeasurement p frame => exact (h.ownSetMeasurement p).frame frame
  | setEvent p frame => exact (h.ownSetEvent p).frame frame
  | setBankLimits p frame => exact (h.ownSetBankLimits p).frame frame
  | setCurve p frame => exact (h.ownSetCurve p).frame frame

end LatestInv

/-- Settles O57: a sample's record has the sums by its own passes, and no other command writes the latest record but a
reset. -/
theorem stepKeepsLatestInv : Obligations.StepKeepsLatestInv := fun _ _ h stepped =>
  step_keeps_of_controlChange (P := LatestInv) (fun frame h => h.frame frame) (fun change h => h.controlChange change) h
    stepped

end Sys2Proof.Machine
end

section
/-! The limits of a dispatch (R24, R82, R86, R89): O18. First each pass by itself, then the record that a sample's
passage leaves, against the limits that it leaves in the rotor records. -/

namespace Sys2Proof.Machine

/-- The demand is clamped to the bank limits (R24). -/
theorem demandStage_within (e : Dse) (m : Mode) (sm : Sample) :
    -(e.paBank : Int) ≤ (demandStage e m sm).demand ∧ (demandStage e m sm).demand ≤ e.pdBank := by
  unfold demandStage
  split
  · exact ⟨clampInt_lower, clampInt_upper (by omega)⟩
  · exact ⟨Int.neg_nonpos_of_nonneg (Int.natCast_nonneg _), Int.natCast_nonneg _⟩

theorem shareOf_frequencyShares_le (f : Int) (rotor : Slot → RotorRecord) (i : Slot) :
    shareOf (frequencyShares f rotor) i ≤ frequencyRoom f (rotor i) := by
  refine shareOf_le (bound := fun i => frequencyRoom f (rotor i)) (fun x mem => ?_) i
  unfold frequencyShares at mem
  split at mem
  · cases mem
  · obtain ⟨c, listed, same, within⟩ := sweep_within_room _ _ _ _ x mem
    obtain ⟨j, -, rfl⟩ := List.mem_map.mp listed
    exact same ▸ within

theorem frequencyRoom_le (f : Int) (r : RotorRecord) : frequencyRoom f r ≤ if 0 < f then r.ld else r.la := by
  unfold frequencyRoom
  split
  · exact le_rfl
  · exact Nat.zero_le _

section
variable (s : State) (sm : Sample) (i : Slot)

/-- A frequency share has the sign of F and lies within the limit of its rotor (R82). -/
theorem State.frequencyShare_within :
    (0 ≤ (demandStage s.dse s.evt.mode sm).demand →
        0 ≤ s.frequencyShare sm i ∧ s.frequencyShare sm i ≤ (s.rotor i).derive.ld) ∧
      ((demandStage s.dse s.evt.mode sm).demand ≤ 0 →
        -((s.rotor i).derive.la : Int) ≤ s.frequencyShare sm i ∧ s.frequencyShare sm i ≤ 0) := by
  unfold State.frequencyShare State.frequencyResult
  generalize (demandStage s.dse s.evt.mode sm).demand = f
  have within := (shareOf_frequencyShares_le f (fun i => (s.rotor i).derive) i).trans (frequencyRoom_le f _)
  have nothing : f = 0 → shareOf (frequencyShares f fun i => (s.rotor i).derive) i = 0 := by
    rintro rfl
    rfl
  simp only [withSignOf]
  split at within <;> split <;> omega

/-- A setpoint lies within the limits of its rotor (R86, R89). -/
theorem State.setpoint_within :
    -((s.rotor i).derive.la : Int) ≤ s.frequencyShare sm i + s.orderShare sm i ∧
      s.frequencyShare sm i + s.orderShare sm i ≤ (s.rotor i).derive.ld := by
  obtain ⟨discharging, absorbing⟩ := s.frequencyShare_within sm i
  have room := shareOf_le (bound := fun i => orderRoom (s.orderResult sm).direction (s.frequencyShare sm i)
    ((s.requested sm).rotor i)) (s.orderResult_shares sm).rooms i
  rw [State.requested_rotor] at room
  unfold State.orderShare
  cases direction : (s.orderResult sm).direction <;> simp only [direction, orderRoom, directed] at room ⊢ <;> omega

/-- The net served power lies within the bank limits (R24, R86). -/
theorem State.netServed_within :
    -(s.dse.paBank : Int) ≤ netServed (s.computeDispatch sm).2 ∧ netServed (s.computeDispatch sm).2 ≤ s.dse.pdBank := by
  have result := s.orderResult_shares sm
  have net : netServed (s.computeDispatch sm).2 =
      withSignOf (demandStage s.dse s.evt.mode sm).demand (servedOf (s.frequencyResult sm)) +
        directed (s.orderResult sm).direction (s.orderResult sm).served := by
    rw [State.computeDispatch_record, ← result.signed]
    rfl
  have clamped := demandStage_within s.dse s.evt.mode sm
  have served := s.frequencyResult_served_le sm
  have bank := result.bank
  rw [State.requested_dse] at bank
  rw [net]
  cases direction : (s.orderResult sm).direction <;>
    simp only [direction, bankRoom, directed, withSignOf] at bank ⊢ <;> split at bank <;> split <;> omega

end

/-! ## The record as a sample's passage leaves it -/

section
variable (s : State) (t : Tick) (valid : Bool) (i : Slot)

/-- A sample's passage leaves the state of a rotor. -/
theorem State.passage_rotor_state : ((s.passage t valid).rotor i).state = (s.rotor i).state := by
  rw [State.passage_rotor, RotorRecord.countSetpoint_state]
  exact (s.rotor i).derive_state

/-- The shares and the setpoint of every slot, against the limits of the same dispatch. -/
theorem State.passage_slots_within :
    let d := s.dispatched t valid
    let r := (s.passage t valid).rotor i
    d.slots[i].n = d.slots[i].f + d.slots[i].o ∧ -(r.la : Int) ≤ d.slots[i].n ∧ d.slots[i].n ≤ r.ld ∧
      (0 ≤ d.demand → 0 ≤ d.slots[i].f ∧ d.slots[i].f ≤ r.ld) ∧
      (d.demand ≤ 0 → -(r.la : Int) ≤ d.slots[i].f ∧ d.slots[i].f ≤ 0) := by
  intro d r
  have slots : d.slots[i] = _ := (s.monitored t valid).computeDispatch_slots (s.measure t valid).2 i
  have demand : d.demand = _ := congrArg Demand.demand (s.dispatched_demand t valid)
  have shares := (s.monitored t valid).frequencyShare_within (s.measure t valid).2 i
  have setpoint := (s.monitored t valid).setpoint_within (s.measure t valid).2 i
  obtain ⟨-, -, ld, la⟩ := s.passage_derived t valid i
  rw [State.monitored_rotor] at shares setpoint
  rw [slots, demand, show r.ld = _ from ld, show r.la = _ from la]
  exact ⟨rfl, setpoint.1, setpoint.2, shares⟩

/-- The bank limits are those that the sample found, and leaves. -/
theorem State.passage_netServed_within :
    -((s.passage t valid).dse.paBank : Int) ≤ netServed (s.dispatched t valid) ∧
      netServed (s.dispatched t valid) ≤ (s.passage t valid).dse.pdBank := by
  rw [State.passage_dse]
  exact (s.monitored t valid).netServed_within (s.measure t valid).2

end

/-- Settles O18: the frequency share and the setpoint by their rooms, the net served power by the bank room. -/
theorem dispatchWithinLimits : Obligations.DispatchWithinLimits := by
  intro c s t d brings he latest
  obtain ⟨tick, u, now, valid, rfl⟩ := bringsSample_passage_withFmu brings he
  rw [State.passage_latest, Option.some.injEq] at latest
  subst latest
  refine ⟨fun i idle => ?_, fun i _ => State.passage_slots_within _ now valid i,
    State.passage_netServed_within _ now valid⟩
  rw [State.passage_rotor_state] at idle
  exact State.dispatched_slots_of_not_online now valid idle

end Sys2Proof.Machine
end

section
/-! Revisions of the order list, one after another (R114). Each brings the ids of the records that it makes ACTIVE,
SUSPENDED or ended to the ORDER CHANGE set; what they bring together is what the first state and the last differ in, as
long as no record comes back to the state it began in. -/

namespace Sys2Proof.Machine

/-- From s to t nothing changes of the order list and of what the LIF has of the ORDER CHANGE notice. -/
structure SameOrders (s t : State) : Prop where
  orl : t.orl = s.orl
  mask : t.lif.mask.order = s.lif.mask.order
  notice : t.lif.pendingNotices.order = s.lif.pendingNotices.order

theorem SameOrders.of_lif {s t : State} (orl : t.orl = s.orl) (lif : t.lif = s.lif) : SameOrders s t :=
  ⟨orl, congrArg (fun l => l.mask.order) lif, congrArg (fun l => l.pendingNotices.order) lif⟩

/-- From s to t every order record has been revised by g, and the ids that g brings to ACTIVE, SUSPENDED or an end have
been noted (R114). -/
structure Revised (s t : State) (g : Order → Order) : Prop where
  orders : t.orl.orders = s.orl.orders.map g
  ids : ∀ o, (g o).id = o.id
  mask : t.lif.mask.order = s.lif.mask.order
  set : ∀ id, id ∈ t.orl.changed ↔
    id ∈ s.orl.changed ∨ (s.lif.mask.order = true ∧ ∃ o ∈ s.orl.orders, enteredId o (g o) = some id)
  once : s.orl.changed.Nodup → t.orl.changed.Nodup
  notice : t.lif.pendingNotices.order = true ↔ s.lif.pendingNotices.order = true ∨
    (s.lif.mask.order = true ∧ ∃ id, ∃ o ∈ s.orl.orders, enteredId o (g o) = some id)

/-- A record goes from o by way of o' to o'' without coming back: one of the two changes leaves its state, or it ends in
a state that is neither its first nor WAITING. -/
def NoReturn (o o' o'' : Order) : Prop :=
  o'.status = o.status ∨ o''.status = o'.status ∨ (o''.status ≠ o.status ∧ o''.status ≠ .waiting)

/-- What two changes note together is what they amount to. -/
theorem NoReturn.enteredId {o o' o'' : Order} (path : NoReturn o o' o'') (id' : o'.id = o.id) (id'' : o''.id = o'.id)
    (id : Nat) : enteredId o o'' = some id ↔ enteredId o o' = some id ∨ enteredId o' o'' = some id := by
  simp only [enteredId_eq_some, id'', id']
  obtain same | same | ⟨changed, notWaiting⟩ := path
  · simp [same]
  · simp [same]
  · by_cases last : o''.status = o'.status
    · simp [← last, changed, notWaiting]
    · simp only [changed, notWaiting, last, ne_eq, not_false_iff, true_and, iff_or_self]
      exact fun h => h.2.2

namespace Revised

variable {s t u : State} {g h : Order → Order}

theorem refl (s : State) : Revised s s id := by
  have nothing (o : Order) : enteredId o o = none := enteredId_of_waiting (.inl rfl)
  constructor <;> simp [nothing]

theorem before (revised : Revised t u g) (same : SameOrders s t) : Revised s u g := by
  obtain ⟨orl, mask, notice⟩ := same
  obtain ⟨orders, ids, mask', set, once, notice'⟩ := revised
  rw [orl] at orders set once notice'
  rw [mask] at set notice' mask'
  rw [notice] at notice'
  exact ⟨orders, ids, mask', set, once, notice'⟩

theorem after_ (revised : Revised s t g) (same : SameOrders t u) : Revised s u g := by
  obtain ⟨orl, mask, notice⟩ := same
  obtain ⟨orders, ids, mask', set, once, notice'⟩ := revised
  rw [← orl] at orders set once
  exact ⟨orders, ids, mask.trans mask', set, once, notice ▸ notice'⟩

/-- The same revision by another function, one that agrees on the records there are. -/
theorem congr (revised : Revised s t g) (agree : ∀ o ∈ s.orl.orders, h o = g o) (ids : ∀ o, (h o).id = o.id) :
    Revised s t h := by
  have entered (id : Nat) : (∃ o ∈ s.orl.orders, enteredId o (h o) = some id) ↔
      ∃ o ∈ s.orl.orders, enteredId o (g o) = some id :=
    exists_congr fun o => and_congr_right fun listed => by rw [agree o listed]
  refine ⟨revised.orders.trans (List.map_congr_left fun o listed => (agree o listed).symm), ids, revised.mask,
    fun id => ?_, revised.once, ?_⟩
  · rw [entered]; exact revised.set id
  · simp only [entered]; exact revised.notice

theorem trans (first : Revised s t g) (second : Revised t u h)
    (paths : ∀ o ∈ s.orl.orders, NoReturn o (g o) (h (g o))) : Revised s u fun o => h (g o) := by
  have entered (id : Nat) : (∃ o ∈ s.orl.orders, enteredId o (h (g o)) = some id) ↔
      (∃ o ∈ s.orl.orders, enteredId o (g o) = some id) ∨ ∃ o ∈ t.orl.orders, enteredId o (h o) = some id := by
    simp only [first.orders, List.mem_map, exists_exists_and_eq_and]
    rw [← exists_or]
    refine exists_congr fun o => ?_
    rw [← and_or_left]
    exact and_congr_right fun listed => (paths o listed).enteredId (first.ids o) (second.ids _) id
  refine ⟨by rw [second.orders, first.orders, List.map_map]; rfl, fun o => (second.ids _).trans (first.ids o),
    second.mask.trans first.mask, fun id => ?_, second.once ∘ first.once, ?_⟩
  · rw [second.set, first.set, first.mask, entered, and_or_left, or_assoc]
  · rw [second.notice, first.notice, first.mask]
    simp only [entered, exists_or, and_or_left, or_assoc]

/-- A revision in the terms of the statements. -/
theorem ordersNoted (revised : Revised s t g) (distinct : (s.orl.orders.map fun o => o.id).Nodup) :
    OrdersNoted s t := by
  have entered := idEntered_iff revised.orders revised.ids distinct
  refine ⟨fun id => ?_, revised.once, ?_⟩
  · rw [entered]; exact revised.set id
  · simp only [entered]; exact revised.notice

end Revised

/-- A single revision of the list notes what it brings. -/
theorem State.reviseOrders_revised (s : State) {f : Order → Order} (ids : ∀ o, (f o).id = o.id) :
    Revised s (s.reviseOrders f) f where
  orders := s.reviseOrders_orders f
  ids := ids
  mask := by rw [State.reviseOrders_mask]
  set := s.mem_reviseOrders_changed f
  once := State.reviseOrders_changed_nodup f
  notice := by
    have brings : (s.enteredIds f).isEmpty = false ↔ ∃ id, ∃ o ∈ s.orl.orders, enteredId o (f o) = some id := by
      simp only [List.isEmpty_eq_false_iff_exists_mem, State.enteredIds, List.mem_filterMap]
    rw [State.reviseOrders_lif]
    simp only [Bool.or_eq_true, Bool.and_eq_true, Bool.not_eq_true', brings]

end Sys2Proof.Machine
end

section
/-! The orders at a dispatch (R84, R100 to R108, R114): O20. What the EVT's handling of the sample, the demand request
and the accounting make of the order list, each as one revision of it. -/

namespace Sys2Proof.Machine

/-! ## The EVT's handling of the sample (R107, R108) -/

/-- An order once the EVT has taken the mode from one to another: the opening of an event has suspended an ACTIVE order,
its end has released an order that it had suspended. -/
def Order.monitored (before after_ : Mode) (o : Order) : Order :=
  if before ≠ .event ∧ after_ = .event ∧ o.status = .active then { o with status := .suspended .event }
  else if before = .event ∧ after_ ≠ .event ∧ o.status = .suspended .event then { o with status := .waiting }
  else o

@[simp] theorem Order.monitored_id (before after_ : Mode) (o : Order) : (o.monitored before after_).id = o.id := by
  unfold Order.monitored
  split
  · rfl
  · split <;> rfl

/-- An order that the EVT's handling changes: an ACTIVE one suspended, or one released by the end of an event. -/
theorem Order.monitored_cases (before after_ : Mode) (o : Order) :
    o.monitored before after_ = o ∨
      (after_ = .event ∧ o.status = .active ∧ (o.monitored before after_).status = .suspended .event) ∨
      (o.status = .suspended .event ∧ (o.monitored before after_).status = .waiting) := by
  unfold Order.monitored
  split
  · next opened => exact .inr (.inl ⟨opened.2.1, opened.2.2, rfl⟩)
  · split
    · next ended => exact .inr (.inr ⟨ended.2.2, rfl⟩)
    · exact .inl rfl

theorem Order.monitored_same_mode (m : Mode) (o : Order) : o.monitored m m = o := by
  unfold Order.monitored
  rw [if_neg fun opened => opened.1 opened.2.1, if_neg fun ended => ended.2.1 ended.1]

theorem State.addEventNotice_sameOrders (s : State) : SameOrders s (s.addNotice .event) :=
  ⟨State.addNotice_orl _ _, by rw [State.addNotice_eq]; rfl, by rw [State.addNotice_eq]; rfl⟩

theorem Monitored.revised {s t : State} (monitored : Monitored s t) :
    Revised s t (Order.monitored s.evt.mode t.evt.mode) := by
  cases monitored with
  | @followed e follows calm =>
    have mode : (s.withEvt e).evt.mode = s.evt.mode := by
      obtain ⟨_, _, _, -, rfl⟩ := follows
      rfl
    have same : SameOrders s (s.withEvt e) := .of_lif rfl rfl
    refine ((Revised.refl s).after_ same).congr (fun o _ => ?_) (Order.monitored_id _ _)
    rw [mode]
    exact o.monitored_same_mode _
  | @opened memory entry t df rocof cause mode =>
    have notEvent : s.evt.mode ≠ .event := mode ▸ (modeOfHost_ne entry).1
    have ids (o : Order) : (if o.status = .active then { o with status := .suspended .event } else o).id = o.id := by
      split <;> rfl
    rw [State.openEvent_evt, State.openEvent]
    refine (((State.reviseOrders_revised _ ids).before ?_).after_ (State.addEventNotice_sameOrders _)).congr
      (fun o _ => ?_) (Order.monitored_id _ _)
    · exact .of_lif rfl rfl
    · simp only [Order.monitored, notEvent, ne_eq, not_false_iff, true_and, false_and, if_false]
  | @ended e cause plant follows mode cause_ne =>
    have notEvent := (modeAfter_cases e cause).1
    have ids (o : Order) : (if o.status = .suspended .event then { o with status := .waiting } else o).id = o.id := by
      split <;> rfl
    rw [State.endEvent_evt, State.endEvent]
    refine (((State.reviseOrders_revised _ ids).before ?_).after_ (State.addEventNotice_sameOrders _)).congr
      (fun o _ => ?_) (Order.monitored_id _ _)
    · exact .of_lif rfl rfl
    · have after_ : modeAfter (s.withEvt e).evt cause ≠ .event := notEvent
      simp only [Order.monitored, mode, after_, ne_eq, not_true, not_false_iff, true_and, false_and, if_false]

/-! ## The demand request (R84, R100 to R102) -/

@[simp] theorem Order.expire_id (plant : Nat) (o : Order) : (o.expire plant).id = o.id := by
  unfold Order.expire
  split
  · rfl
  · split <;> rfl

/-- The model's expiry and the statements' agree (R97, R100). -/
theorem Order.expire_eq (plant : Nat) (o : Order) : o.expire plant = expiredAt plant o := by
  have going : o.status.terminal = false ↔ o.status = .waiting ∨ o.status = .active ∨ o.status = .suspended .event ∨
      o.status = .suspended .exhausted := by
    cases o.status with
    | suspended cause => cases cause <;> decide
    | waiting | active | expired => decide
    | done cause | cancelled cause => cases cause <;> decide
  unfold Order.expire expiredAt
  cases o.deadline with
  | none => rfl
  | some x => exact if_congr (and_congr_right fun _ => going) rfl rfl

/-- The order that a list has for a demand request in a mode, as the request finds it (R84, R101, R102). -/
def orderFor (m : Mode) (l : List Order) (plant : Nat) : Option Order :=
  if modeServes m then supplied l plant else none

/-- An order supplied is ACTIVE, and has been made so where it was not (R101). -/
def Order.supply (plant : Nat) (o : Order) : Order :=
  if o.status = .active then o else { o with status := .active, activated := some plant }

/-- An order supplied where it has the id. -/
def Order.supplyIf (id : Option Nat) (plant : Nat) (o : Order) : Order :=
  if id = some o.id then o.supply plant else o

theorem Order.supply_eq (plant : Nat) (o : Order) :
    o.supply plant = { o with status := .active, activated := (o.supply plant).activated } := by
  unfold Order.supply
  split
  · next active => rw [← active]
  · rfl

@[simp] theorem Order.supply_id (plant : Nat) (o : Order) : (o.supply plant).id = o.id := by rw [Order.supply_eq]
@[simp] theorem Order.supply_status (plant : Nat) (o : Order) : (o.supply plant).status = .active := by
  rw [Order.supply_eq]

@[simp] theorem Order.supplyIf_id (id : Option Nat) (plant : Nat) (o : Order) : (o.supplyIf id plant).id = o.id := by
  unfold Order.supplyIf
  split
  · exact o.supply_id plant
  · rfl

theorem supplied_eq (l : List Order) (plant : Nat) :
    supplied l plant = match l.find? fun o => o.status == .active with
      | some o => some o
      | none => l.find? (Order.selectable plant) := rfl

/-- What is supplied is on the list, and is ACTIVE or WAITING (R101, R102). -/
theorem orderFor_spec {m : Mode} {l : List Order} {plant : Nat} {o : Order} (h : orderFor m l plant = some o) :
    modeServes m = true ∧ o ∈ l ∧ (o.status = .active ∨ o.status = .waiting) := by
  unfold orderFor at h
  split at h
  · next serves =>
    refine ⟨serves, ?_⟩
    rw [supplied_eq] at h
    split at h
    · next found =>
      cases h
      have active := List.find?_some found
      exact ⟨List.mem_of_find?_eq_some found, .inl (beq_iff_eq.mp active)⟩
    · have selectable := List.find?_some h
      exact ⟨List.mem_of_find?_eq_some h, .inr (beq_iff_eq.mp (Bool.and_eq_true_iff.mp selectable).1)⟩
  · cases h

/-- In a list with distinct ids a record is found by what only it has. -/
theorem find?_eq_some_of_unique {l : List Order} {p : Order → Bool} {o : Order} (listed : o ∈ l) (has : p o = true)
    (unique : ∀ x ∈ l, p x = true → x = o) : l.find? p = some o := by
  cases found : l.find? p with
  | none => exact absurd has (List.find?_eq_none.mp found o listed)
  | some x => rw [unique x (List.mem_of_find?_eq_some found) (List.find?_some found)]

section
variable {s : State} (distinct : (s.orl.orders.map fun o => o.id).Nodup) (plant : Nat)
include distinct

/-- An order supplied that is ACTIVE already leaves the list as it is (R102). -/
theorem State.supplyIf_revised {a : Option Order} (active : ∀ o, a = some o → o ∈ s.orl.orders ∧ o.status = .active) :
    Revised s s (Order.supplyIf (a.map fun o => o.id) plant) := by
  refine (Revised.refl s).congr (fun o listed => ?_) (Order.supplyIf_id _ _)
  unfold Order.supplyIf
  split
  · next named =>
    obtain ⟨w, rfl, same⟩ := Option.map_eq_some_iff.mp named
    obtain ⟨hw, active⟩ := active w rfl
    obtain rfl : o = w := List.inj_on_of_nodup_map distinct listed hw same.symm
    exact if_pos active
  · rfl

/-- With no order ACTIVE before, the one that is made ACTIVE is the one found (R95, R101). -/
theorem State.find?_activateIf {w : Order} (listed : w ∈ s.orl.orders)
    (idle : ∀ o ∈ s.orl.orders, o.status ≠ .active) :
    (s.orl.orders.map (Order.activateIf w.id plant)).find? (fun o => o.status == .active) =
      some (w.activateIf w.id plant) := by
  rw [List.find?_map, find?_eq_some_of_unique listed, Option.map_some]
  · simp [Order.activateIf]
  · intro x hx active
    by_contra other
    have unnamed : x.id ≠ w.id := fun same => other (List.inj_on_of_nodup_map distinct hx listed same)
    simp only [Function.comp, Order.activateIf, unnamed, if_false, beq_iff_eq] at active
    exact idle x hx active

omit distinct in
/-- To supply an order where none is ACTIVE is to activate it (R101). -/
theorem State.activateIf_revised (w : Order) (idle : ∀ o ∈ s.orl.orders, o.status ≠ .active) :
    Revised s (s.reviseOrders (Order.activateIf w.id plant)) (Order.supplyIf (some w.id) plant) := by
  have ids (o : Order) : (o.activateIf w.id plant).id = o.id := by
    unfold Order.activateIf
    split <;> rfl
  refine (s.reviseOrders_revised ids).congr (fun o listed => ?_) (Order.supplyIf_id _ _)
  simp only [Order.supplyIf, Order.activateIf, Order.supply, idle o listed, if_false, Option.some.injEq, eq_comm]

/-- Selection makes the order supplied ACTIVE, and answers it (R84, R101, R102). -/
theorem State.selectOrder_revised :
    let a := orderFor s.evt.mode s.orl.orders plant
    Revised s (s.selectOrder plant) (Order.supplyIf (a.map fun o => o.id) plant) ∧
      (s.selectOrder plant).suppliedOrder = a.map (Order.supply plant) := by
  cases serves : modeServes s.evt.mode with
  | false =>
    simp only [orderFor, State.selectOrder, State.suppliedOrder, serves, Bool.false_and, Bool.false_eq_true, if_false]
    exact ⟨State.supplyIf_revised distinct plant nofun, rfl⟩
  | true =>
    have answer : orderFor s.evt.mode s.orl.orders plant = supplied s.orl.orders plant := if_pos serves
    rw [supplied_eq, show (s.orl.orders.find? fun o => o.status == .active) = s.orl.active from rfl] at answer
    rw [answer, State.suppliedOrder]
    cases found : s.orl.active with
    | some a =>
      have active := List.find?_some found
      have selected : s.selectOrder plant = s := by simp [State.selectOrder, found]
      rw [selected, if_pos serves, found]
      refine ⟨State.supplyIf_revised distinct plant fun o h => ?_, ?_⟩
      · cases h
        exact ⟨List.mem_of_find?_eq_some found, beq_iff_eq.mp active⟩
      · rw [Option.map_some, Order.supply, if_pos (beq_iff_eq.mp active)]
    | none =>
      have idle : ∀ o ∈ s.orl.orders, o.status ≠ .active := fun o listed active =>
        List.find?_eq_none.mp found o listed (beq_iff_eq.mpr active)
      cases next : s.orl.orders.find? (Order.selectable plant) with
      | none =>
        have selected : s.selectOrder plant = s := by simp [State.selectOrder, next]
        rw [selected, if_pos serves, found]
        exact ⟨State.supplyIf_revised distinct plant nofun, rfl⟩
      | some w =>
        have listed := List.mem_of_find?_eq_some next
        have selected : s.selectOrder plant = s.reviseOrders (Order.activateIf w.id plant) := by
          simp [State.selectOrder, serves, found, next]
        rw [selected, State.reviseOrders_evt, if_pos serves, Orl.active, State.reviseOrders_orders,
          State.find?_activateIf distinct plant listed idle]
        refine ⟨State.activateIf_revised plant w idle, ?_⟩
        rw [Option.map_some, Order.activateIf, if_pos rfl, Order.supply, if_neg (idle w listed)]

/-- The record that a demand request supplies has not expired at it. -/
theorem orderFor_expire {m : Mode} {o : Order} (listed : o ∈ s.orl.orders)
    (named : ((orderFor m (s.orl.orders.map (Order.expire plant)) plant).map fun o => o.id) =
      some (o.expire plant).id) :
    modeServes m = true ∧ (o.expire plant).status = o.status ∧ (o.status = .active ∨ o.status = .waiting) := by
  obtain ⟨w, answer, same⟩ := Option.map_eq_some_iff.mp named
  obtain ⟨serves, expired, status⟩ := orderFor_spec answer
  obtain ⟨x, hx, rfl⟩ := List.mem_map.mp expired
  obtain rfl : x = o := by
    refine List.inj_on_of_nodup_map distinct hx listed ?_
    rwa [Order.expire_id, Order.expire_id] at same
  obtain ended | stays := x.expire_status plant
  · rw [ended] at status
    obtain status | status := status <;> cases status
  · exact ⟨serves, stays, stays ▸ status⟩

/-- The demand request: overdue orders expire, and of the list that is left one is supplied (R84, R100 to R102). -/
theorem State.demandRequest_revised :
    let a := orderFor s.evt.mode (s.orl.orders.map (Order.expire plant)) plant
    Revised s (s.demandRequest plant) (fun o => (o.expire plant).supplyIf (a.map fun o => o.id) plant) ∧
      (s.demandRequest plant).suppliedOrder = a.map (Order.supply plant) := by
  intro a
  have expired := s.reviseOrders_revised (Order.expire_id plant)
  have distinct' : ((s.reviseOrders (Order.expire plant)).orl.orders.map fun o => o.id).Nodup := by
    rw [State.reviseOrders_orders, List.map_map]
    simpa only [Function.comp_def, Order.expire_id] using distinct
  obtain ⟨selected, answer⟩ := State.selectOrder_revised distinct' plant
  rw [State.reviseOrders_orders, State.reviseOrders_evt] at selected answer
  refine ⟨expired.trans selected fun o listed => ?_, answer⟩
  by_cases named : a.map (fun o => o.id) = some (o.expire plant).id
  · exact .inl (orderFor_expire distinct plant listed named).2.1
  · exact .inr (.inl (by rw [Order.supplyIf, if_neg named]))

end

end Sys2Proof.Machine
end

section
/-! The orders at a dispatch as a whole (R84, R92, R100 to R108, R114): O20. The revisions of the list that a sample
brings, one after the other: no record comes back to the state it began in. -/

namespace Sys2Proof.Machine

/-! ## The accounting (R103 to R106) -/

@[simp] theorem Order.account_id (o : Order) (units : Nat) (exhausted : Bool) (holds : RepeatCondition → Nat → Bool)
    (plant : Nat) : (o.account units exhausted holds plant).id = o.id := by
  unfold Order.account
  split
  · rfl
  · split
    · unfold Order.complete
      split
      · rfl
      · split
        · rfl
        · split <;> rfl
    · rfl

/-- An order at a dispatch result: accounted where the result is its own. -/
def Order.accounted (d : DispatchRecord) (holds : Fin 4 → RepeatCondition → Nat → Bool) (o : Order) : Order :=
  if d.orderId = some o.id then o.account (d.oServed * d.dt) d.exhausted (holds o.group) d.plantTime else o

@[simp] theorem Order.accounted_id (d : DispatchRecord) (holds : Fin 4 → RepeatCondition → Nat → Bool) (o : Order) :
    (o.accounted d holds).id = o.id := by
  unfold Order.accounted
  split
  · exact o.account_id _ _ _ _
  · rfl

/-- The model's test of a repeat condition and the statements' agree (R105). -/
theorem repeatHolds_eq (s : State) : repeatHolds s = fun g => conditionHolds (s.groupOnline g) := by
  funext g condition x
  have online : s.groupOnline g =
      (allSlots.filter fun i => (s.rotor i).state == .online && (s.rotor i).group == g).map s.rotor :=
    List.filter_map
  rw [online]
  generalize hslots : allSlots.filter (fun i => (s.rotor i).state == .online && (s.rotor i).group == g) = slots
  have some_online : slots ≠ [] ↔ (!(slots.map s.rotor).isEmpty) = true := by simp
  unfold repeatHolds
  rw [hslots]
  cases condition with
  | always => rfl
  | above | below =>
    simp only [conditionHolds, groupSoc, List.map_map, Bool.decide_and, some_online, Bool.decide_eq_true]
    rfl

/-- The repeat condition reads of the records what the RTB's counting leaves as it is. -/
theorem repeatHolds_congr {s t : State} (same : ∀ i, (t.rotor i).state = (s.rotor i).state ∧
    (t.rotor i).group = (s.rotor i).group ∧ (t.rotor i).eCap = (s.rotor i).eCap ∧ (t.rotor i).soc = (s.rotor i).soc) :
    repeatHolds t = repeatHolds s := by
  funext g condition x
  simp only [repeatHolds, same]

theorem State.accountOrder_revised (s : State) (d : DispatchRecord) :
    Revised s (s.accountOrder d) (Order.accounted d (repeatHolds s)) := by
  rw [repeatHolds_eq]
  unfold State.accountOrder
  split
  · next none_ =>
    refine (Revised.refl s).congr (fun o _ => ?_) (Order.accounted_id d _)
    rw [Order.accounted, none_, if_neg nofun]
    rfl
  · next id named =>
    have agree (o : Order) : o.accounted d (fun g => conditionHolds (s.groupOnline g)) =
        if o.id = id then o.account (d.oServed * d.dt) d.exhausted (conditionHolds (s.groupOnline o.group)) d.plantTime
        else o := by
      simp only [Order.accounted, named, Option.some.injEq, eq_comm]
    refine (s.reviseOrders_revised fun o => ?_).congr (fun o _ => agree o) (Order.accounted_id d _)
    rw [← agree]
    exact o.accounted_id d _

/-! ## The dispatch (R78, R92) -/

/-- An order at a dispatch: overdue, supplied, accounted. -/
def Order.dispatched (d : DispatchRecord) (holds : Fin 4 → RepeatCondition → Nat → Bool) (o : Order) : Order :=
  ((o.expire d.plantTime).supplyIf d.orderId d.plantTime).accounted d holds

section
variable (s : State) (sm : Sample)

theorem State.computeDispatch_sameOrders : SameOrders (s.requested sm) (s.computeDispatch sm).1 := by
  apply SameOrders.of_lif <;> simp [State.computeDispatch, State.frequencyPass_derived, State.requested]

@[simp] theorem State.orderPass_id (answer : Option Order) (f : Slot → Int) (signedServed : Int) :
    (s.orderPass answer f signedServed).id = answer.map fun o => o.id := by
  cases answer <;> rfl

/-- The demand request of a dispatch revises the list as it stands before the dispatch. -/
theorem State.requested_revised (distinct : (s.orl.orders.map fun o => o.id).Nodup) :
    let plant := s.plantTimeAt sm.tick
    let a := orderFor s.evt.mode (s.orl.orders.map (Order.expire plant)) plant
    Revised s (s.requested sm) (fun o => (o.expire plant).supplyIf (a.map fun o => o.id) plant) ∧
      (s.requested sm).suppliedOrder = a.map (Order.supply plant) := by
  intro plant
  simp only [State.requested]
  generalize hu : State.raiseIf _ _ .unserved = u
  have orl : u.orl = s.orl := by simp [← hu]
  have evt : u.evt = s.evt := by simp [← hu]
  have lif : u.lif = s.lif := by simp [← hu]
  obtain ⟨revised, answer⟩ := State.demandRequest_revised (s := u) (by rwa [orl]) plant
  rw [orl, evt] at revised answer
  exact ⟨revised.before (.of_lif orl lif), answer⟩

variable {s}

theorem State.consume_revised (d : DispatchRecord) (s : State) :
    Revised s (s.consume d) (Order.accounted d (repeatHolds (s.consume d))) := by
  have taken : SameOrders s (s.takeSetpoints d) := .of_lif (by simp) (by simp)
  have counted : SameOrders ((s.takeSetpoints d).accountOrder d) (s.consume d) :=
    .of_lif (by simp [State.consume]) (by simp [State.consume])
  have holds : repeatHolds (s.consume d) = repeatHolds (s.takeSetpoints d) := by
    refine repeatHolds_congr fun i => ?_
    rw [State.consume_rotor, RotorRecord.countSetpoint_eq, State.rotor_congr (State.takeSetpoints_rotors s d)]
    exact ⟨rfl, rfl, rfl, rfl⟩
  rw [holds]
  exact (((s.takeSetpoints d).accountOrder_revised d).before taken).after_ counted

theorem State.computeDispatch_orderId (distinct : (s.orl.orders.map fun o => o.id).Nodup) :
    let d := (s.computeDispatch sm).2
    d.orderId = (orderFor s.evt.mode (s.orl.orders.map (Order.expire d.plantTime)) d.plantTime).map fun o => o.id := by
  obtain ⟨-, answer⟩ := s.requested_revised sm distinct
  rw [State.computeDispatch_record]
  simp only [makeRecord, State.orderResult, State.orderPass_id, answer, Option.map_map, Function.comp_def,
    Order.supply_id]

/-- What an order, once supplied, is after its accounting: not what it was before, unless it is ACTIVE. -/
theorem accounted_status {before_ now : OrderStatus} (was : before_ = .active ∨ before_ = .waiting)
    (is : now = .suspended .exhausted ∨ (∃ cause, now = .done cause) ∨ now = .active) :
    (now = .active ∨ now ≠ before_) ∧ now ≠ .waiting ∧ now ≠ .suspended .event := by
  obtain rfl | rfl := was <;> obtain rfl | ⟨cause, rfl⟩ | rfl := is <;> simp

/-- The order that a dispatch supplies and accounts had not expired, and is not left in the state that it was in unless
ACTIVE; every other order expires or is left as it is. -/
theorem Order.dispatched_status (distinct : (s.orl.orders.map fun o => o.id).Nodup)
    (holds : Fin 4 → RepeatCondition → Nat → Bool) {o : Order} (listed : o ∈ s.orl.orders) {d : DispatchRecord}
    (hd : d = (s.computeDispatch sm).2) :
    (d.orderId ≠ some o.id ∧ o.dispatched d holds = o.expire d.plantTime) ∨
      (d.orderId = some o.id ∧ modeServes s.evt.mode = true ∧ (o.expire d.plantTime).status = o.status ∧
        ((o.dispatched d holds).status = .active ∨ (o.dispatched d holds).status ≠ o.status) ∧
        (o.dispatched d holds).status ≠ .waiting ∧ (o.dispatched d holds).status ≠ .suspended .event) := by
  have orderId := State.computeDispatch_orderId sm distinct
  rw [← hd] at orderId
  by_cases named : d.orderId = some o.id
  · have expired : d.orderId = some (o.expire d.plantTime).id := by rwa [Order.expire_id]
    have supplied_ : d.orderId = some ((o.expire d.plantTime).supply d.plantTime).id := by rwa [Order.supply_id]
    obtain ⟨serves, stays, status⟩ := orderFor_expire distinct _ listed (orderId.symm.trans expired)
    refine .inr ⟨named, serves, stays, accounted_status status ?_⟩
    rw [Order.dispatched, Order.supplyIf, if_pos expired, Order.accounted, if_pos supplied_]
    exact ((o.expire d.plantTime).supply_status d.plantTime) ▸ Order.account_status _ _ _ _ _
  · have expired : d.orderId ≠ some (o.expire d.plantTime).id := by rwa [Order.expire_id]
    exact .inl ⟨named, by rw [Order.dispatched, Order.supplyIf, if_neg expired, Order.accounted, if_neg expired]⟩

/-- A dispatch revises the order list once. -/
theorem State.dispatch_revised (distinct : (s.orl.orders.map fun o => o.id).Nodup) :
    Revised s (s.dispatch sm) (Order.dispatched (s.computeDispatch sm).2 (repeatHolds (s.dispatch sm))) := by
  obtain ⟨requested, -⟩ := s.requested_revised sm distinct
  have accounted : Revised (s.computeDispatch sm).1 (s.dispatch sm)
      (Order.accounted (s.computeDispatch sm).2 (repeatHolds (s.dispatch sm))) := State.consume_revised _ _
  have status {o : Order} (listed : o ∈ s.orl.orders) :=
    Order.dispatched_status sm distinct (repeatHolds (s.dispatch sm)) listed rfl
  have orderId := State.computeDispatch_orderId sm distinct
  have plantTime : (s.computeDispatch sm).2.plantTime = s.plantTimeAt sm.tick := rfl
  rw [← plantTime, ← orderId] at requested
  generalize repeatHolds (s.dispatch sm) = holds at accounted status ⊢
  refine (requested.after_ (s.computeDispatch_sameOrders sm)).trans accounted fun o listed => ?_
  obtain ⟨unnamed, left⟩ | ⟨named, -, stays, active | changed, notWaiting, -⟩ := status listed
  · refine .inr (.inl ?_)
    have expired : (s.computeDispatch sm).2.orderId ≠ some (o.expire (s.computeDispatch sm).2.plantTime).id := by
      rwa [Order.expire_id]
    rw [Order.supplyIf, if_neg expired, Order.accounted, if_neg expired]
  · refine .inr (.inl (active.trans ?_))
    rw [Order.supplyIf, if_pos (by rw [Order.expire_id]; exact named), Order.supply_status]
  · exact .inr (.inr ⟨changed, notWaiting⟩)

end

/-! ## A sample's passage -/

section
variable {s : State} (t : Tick) (valid : Bool)

theorem State.monitored_revised :
    Revised s (s.monitored t valid) (Order.monitored s.evt.mode (s.passage t valid).evt.mode) := by
  have measured : SameOrders s (s.measure t valid).1 := by
    obtain ⟨_, lif⟩ := s.measure_lif t valid
    exact ⟨by simp [State.measure], by rw [lif], by rw [lif]⟩
  have revised := (State.monitor_monitored (s.measure t valid).1 (s.measure t valid).2).revised
  rw [State.measure_evt] at revised
  rw [State.passage_evt]
  exact revised.before measured

variable (distinct : (s.orl.orders.map fun o => o.id).Nodup)
include distinct

theorem State.monitored_distinct : ((s.monitored t valid).orl.orders.map fun o => o.id).Nodup := by
  rw [(State.monitored_revised t valid).orders, List.map_map]
  simpa only [Function.comp_def, Order.monitored_id] using distinct

/-- A sample's passage revises the order list once. -/
theorem State.passage_revised :
    Revised s (s.passage t valid) fun o => (o.monitored s.evt.mode (s.passage t valid).evt.mode).dispatched
      (s.dispatched t valid) (repeatHolds (s.passage t valid)) := by
  have distinct' := State.monitored_distinct t valid distinct
  have first : Revised s (s.monitored t valid) _ := State.monitored_revised t valid
  have second : Revised (s.monitored t valid) (s.passage t valid)
    (Order.dispatched (s.dispatched t valid) (repeatHolds (s.passage t valid))) := State.dispatch_revised _ distinct'
  refine first.trans second fun o listed => ?_
  have mode : (s.passage t valid).evt.mode = (s.monitored t valid).evt.mode := by rw [State.passage_evt]
  have listed' : o.monitored s.evt.mode (s.passage t valid).evt.mode ∈ (s.monitored t valid).orl.orders := by
    rw [first.orders]
    exact List.mem_map_of_mem listed
  have status := Order.dispatched_status (s.measure t valid).2 distinct' (repeatHolds (s.passage t valid)) listed'
    (d := s.dispatched t valid) rfl
  have cases_ := o.monitored_cases s.evt.mode (s.passage t valid).evt.mode
  generalize o.monitored s.evt.mode (s.passage t valid).evt.mode = m at status cases_ ⊢
  have overdue (left : m.dispatched (s.dispatched t valid) (repeatHolds (s.passage t valid)) =
        m.expire (s.dispatched t valid).plantTime) (going : o.status ≠ .expired) :
      NoReturn o m (m.dispatched (s.dispatched t valid) (repeatHolds (s.passage t valid))) := by
    rw [NoReturn, left]
    obtain ended | stays := m.expire_status (s.dispatched t valid).plantTime
    · exact .inr (.inr ⟨ended ▸ going.symm, ended ▸ nofun⟩)
    · exact .inr (.inl stays)
  obtain same | ⟨event, active, -⟩ | ⟨suspended, waiting⟩ := cases_
  · exact .inl (congrArg _ same)
  · obtain ⟨-, left⟩ | ⟨-, serves, -⟩ := status
    · exact overdue left (active ▸ nofun)
    · rw [← mode, event] at serves
      cases serves
  · obtain ⟨-, left⟩ | ⟨-, -, -, -, notWaiting, notSuspended⟩ := status
    · exact overdue left (suspended ▸ nofun)
    · exact .inr (.inr ⟨suspended ▸ notSuspended, notWaiting⟩)

end

/-! ## The obligation -/

/-- The list that a demand request finds is the statements' (R100, R107, R108). -/
theorem State.ordersAsked_eq (s : State) (t : Tick) (valid : Bool) (plant : Nat) :
    ordersAsked s (s.passage t valid).evt.mode plant = (s.monitored t valid).orl.orders.map (Order.expire plant) := by
  rw [(State.monitored_revised t valid).orders, ordersAsked, funext (Order.expire_eq plant)]
  rfl

theorem modeServes_iff (m : Mode) : modeServes m = true ↔ m = .guard ∨ m = .armed := by cases m <;> decide

/-- The order of a dispatch is the one that the list asked supplies, in GUARD and ARMED (R84). -/
theorem State.dispatched_orderId {s : State} (t : Tick) (valid : Bool)
    (distinct : (s.orl.orders.map fun o => o.id).Nodup) :
    let d := s.dispatched t valid
    let m := (s.passage t valid).evt.mode
    d.orderId = (orderFor m (ordersAsked s m d.plantTime) d.plantTime).map fun o => o.id := by
  intro d m
  have mode : m = (s.monitored t valid).evt.mode := congrArg (fun e => e.mode) (s.passage_evt t valid)
  rw [show ordersAsked s m d.plantTime = _ from s.ordersAsked_eq t valid _, mode]
  exact State.computeDispatch_orderId _ (State.monitored_distinct t valid distinct)

/-- An order that is supplied and then accounted. -/
theorem Order.supplyIf_accounted (d : DispatchRecord) (holds : Fin 4 → RepeatCondition → Nat → Bool) (o : Order) :
    (o.supplyIf d.orderId d.plantTime).accounted d holds =
      if d.orderId = some o.id then
        (o.supply d.plantTime).account (d.oServed * d.dt) d.exhausted (holds o.group) d.plantTime
      else o := by
  have group : (o.supply d.plantTime).group = o.group := by rw [Order.supply_eq]
  by_cases named : d.orderId = some o.id
  · rw [Order.supplyIf, if_pos named, Order.accounted, Order.supply_id, if_pos named, if_pos named, group]
  · rw [Order.supplyIf, if_neg named, Order.accounted, if_neg named, if_neg named]

/-- The list after a sample's passage, from the list asked. -/
theorem State.passage_orders {s : State} (t : Tick) (valid : Bool) (distinct : (s.orl.orders.map fun o => o.id).Nodup) :
    let d := s.dispatched t valid
    (s.passage t valid).orl.orders = (ordersAsked s (s.passage t valid).evt.mode d.plantTime).map fun o =>
      if d.orderId = some o.id then
        (o.supply d.plantTime).account (d.oServed * d.dt) d.exhausted (repeatHolds (s.passage t valid) o.group)
          d.plantTime
      else o := by
  intro d
  rw [State.ordersAsked_eq, (State.monitored_revised t valid).orders, List.map_map, List.map_map,
    (State.passage_revised t valid distinct).orders]
  exact List.map_congr_left fun o _ => Order.supplyIf_accounted _ _ _

/-- Settles O20: the demand request and the accounting, after the EVT's handling of the sample, as one revision. -/
theorem ordersAtDispatch : Obligations.OrdersAtDispatch := by
  intro c s t d brings inv he latest asked
  obtain ⟨tick, u, now, valid, rfl⟩ := bringsSample_passage_withFmu brings he
  rw [State.passage_latest, Option.some.injEq] at latest
  subst latest
  have distinct : (((s.withTick tick).withFmu u).orl.orders.map fun o => o.id).Nodup := inv.distinct
  have orderId := State.dispatched_orderId now valid distinct
  obtain ⟨set, once, notice⟩ := (State.passage_revised now valid distinct).ordersNoted distinct
  refine ⟨?_, State.passage_orders now valid distinct, set, once, notice⟩
  simp only [orderFor, modeServes_iff] at orderId
  exact orderId.trans (apply_ite _ _ _ _)

end Sys2Proof.Machine
end

section
/-! The order pass of a sample's dispatch (R79, R80, R84 to R88): O21. The order supplied is a record of the list
asked; its figures are read off the pass, by the rotor records as the sample leaves them. -/

namespace Sys2Proof.Machine

/-! ## The terms of the pass, by the records as the sample leaves them (R85, R86) -/

section
variable (s : State) (t : Tick) (valid : Bool)

/-- The record of a slot after the sample: the derived values, the shares of the dispatch, and what the RTB has
counted. -/
theorem State.passage_rotor_eq (i : Slot) :
    ∃ discharged absorbed, (s.passage t valid).rotor i = { ((s.monitored t valid).rotor i).derive with
      shares := (s.dispatched t valid).slots[i], discharged := discharged, absorbed := absorbed } := by
  rw [State.passage_rotor, State.monitored_rotor, RotorRecord.countSetpoint_eq]
  exact ⟨_, _, rfl⟩

/-- Whether a rotor may serve an order, and its weight, are by the derived values. -/
theorem State.passage_orderTerms (o : Order) (floor ceiling : Nat) (i : Slot) :
    let r := (s.passage t valid).rotor i
    let r' := ((s.monitored t valid).rotor i).derive
    servesOrder floor ceiling o r = servesOrder floor ceiling o r' ∧
      weightForOrder floor ceiling o r = weightForOrder floor ceiling o r' := by
  obtain ⟨_, _, record⟩ := s.passage_rotor_eq t valid i
  rw [record]
  generalize (s.dispatched t valid).slots[i] = shares
  exact ⟨rfl, rfl⟩

/-- The room of a rotor is what its limit leaves beside its frequency share. -/
theorem State.passage_orderRoom (o : Order) (i : Slot) :
    (roomForOrder o ((s.passage t valid).rotor i)).toNat =
      orderRoom o.direction ((s.monitored t valid).frequencyShare (s.measure t valid).2 i)
        ((s.monitored t valid).rotor i).derive := by
  have slots : (s.dispatched t valid).slots[i] = _ :=
    (s.monitored t valid).computeDispatch_slots (s.measure t valid).2 i
  obtain ⟨_, _, record⟩ := s.passage_rotor_eq t valid i
  rw [record, slots]
  unfold roomForOrder orderRoom
  cases o.direction <;> rfl

/-- The limits of a rotor leave room beside its frequency share (R82, R86). -/
theorem State.roomForOrder_nonneg (o : Order) (i : Slot) : 0 ≤ roomForOrder o ((s.passage t valid).rotor i) := by
  obtain ⟨-, -, -, discharging, absorbing⟩ := s.passage_slots_within t valid i
  have shares : ((s.passage t valid).rotor i).shares = (s.dispatched t valid).slots[i] := by
    obtain ⟨_, _, record⟩ := s.passage_rotor_eq t valid i
    rw [record]
  unfold roomForOrder
  rw [shares]
  have sign := le_total 0 (s.dispatched t valid).demand
  split <;> omega

/-! ## The figures of the pass (R84 to R88) -/

/-- The rotors that may serve an order, once a sample has passed. -/
def State.orderServing (o : Order) : List Slot :=
  allSlots.filter fun i => servesOrder s.dse.floor s.dse.ceiling o (s.rotor i)

/-- Those rotors, each with its weight and its room. -/
def State.orderTakers (o : Order) : List Candidate :=
  (s.orderServing o).map fun i =>
    ⟨i, weightForOrder s.dse.floor s.dse.ceiling o (s.rotor i), (roomForOrder o (s.rotor i)).toNat⟩

theorem State.slots_orderTakers (o : Order) : (s.orderTakers o).map (fun c => c.slot) = s.orderServing o := by
  rw [State.orderTakers, List.map_map]
  exact List.map_id _

/-- Where the bank limits and the order SoC bounds are the same, the pass has the rotors that the statements name. -/
theorem State.orderCandidates_passage (o : Order) :
    ((s.monitored t valid).requested (s.measure t valid).2).orderCandidates o
        ((s.monitored t valid).frequencyShare (s.measure t valid).2) = (s.passage t valid).orderTakers o := by
  have dse : (s.passage t valid).dse = { (s.monitored t valid).dse with latest := some (s.dispatched t valid) } :=
    s.passage_dse t valid
  simp only [State.orderCandidates_eq, State.orderTakers, State.orderServing, State.requested_rotor,
    State.requested_dse, dse, State.passage_orderTerms, State.passage_orderRoom]

/-- The order figures of the dispatch record are those of the pass. -/
theorem State.dispatched_orderFigures :
    let d := s.dispatched t valid
    let u := s.monitored t valid
    let sm := (s.measure t valid).2
    (d.po = (u.orderResult sm).po ∧ d.oServed = (u.orderResult sm).served ∧ d.oUnserved = (u.orderResult sm).unserved ∧
        d.exhausted = (u.orderResult sm).exhausted ∧ ∀ i : Slot, d.slots[i].o = u.orderShare sm i) ∧
      d.signedServed = withSignOf (demandStage u.dse u.evt.mode sm).demand (servedOf (u.frequencyResult sm)) := by
  intro d u sm
  have record : d = _ := u.computeDispatch_record sm
  have slots (i : Slot) : d.slots[i].o = u.orderShare sm i := congrArg Shares.o (u.computeDispatch_slots sm i)
  clear_value d
  refine ⟨⟨?_, ?_, ?_, ?_, slots⟩, ?_⟩ <;> rw [record] <;> rfl

/-- The order figures of a dispatch without an order (R84). -/
theorem State.dispatched_noOrder
    (none_ : ((s.monitored t valid).requested (s.measure t valid).2).suppliedOrder = none) :
    let d := s.dispatched t valid
    d.po = 0 ∧ d.oServed = 0 ∧ d.oUnserved = 0 ∧ d.exhausted = false ∧ ∀ i : Slot, d.slots[i].o = 0 := by
  have result : (s.monitored t valid).orderResult (s.measure t valid).2 = ⟨none, 0, 0, 0, false, .discharge, []⟩ := by
    rw [State.orderResult, none_, State.orderPass]
  obtain ⟨⟨po, served, unserved, exhausted, share⟩, -⟩ := s.dispatched_orderFigures t valid
  simp only [State.orderShare, result] at po served unserved exhausted share
  exact ⟨po, served, unserved, exhausted, fun i => (share i).trans rfl⟩

/-- The order figures of a dispatch with an order (R85 to R88). -/
theorem State.dispatched_order {o : Order}
    (supplies : ((s.monitored t valid).requested (s.measure t valid).2).suppliedOrder = some o) :
    let d := s.dispatched t valid
    let v := s.passage t valid
    let shares := shareOut (orderTarget o.power (bankRoom v.dse o.direction d.signedServed)) (v.orderTakers o)
    d.po = directed o.direction o.power ∧ d.oServed = servedOf shares ∧ d.oUnserved = o.power - servedOf shares ∧
      d.exhausted = (v.orderTakers o).isEmpty ∧ ∀ i : Slot, d.slots[i].o = directed o.direction (shareOf shares i) := by
  intro d v shares
  obtain ⟨figures, signed⟩ := s.dispatched_orderFigures t valid
  have bank (x : Int) : bankRoom ((s.monitored t valid).requested (s.measure t valid).2).dse o.direction x =
      bankRoom v.dse o.direction x := by
    rw [State.requested_dse, show v.dse = _ from s.passage_dse t valid]
    cases o.direction <;> rfl
  have result : (s.monitored t valid).orderResult (s.measure t valid).2 =
      ⟨some o.id, directed o.direction o.power, servedOf shares, o.power - servedOf shares,
        (v.orderTakers o).isEmpty, o.direction, shares⟩ := by
    rw [State.orderResult, supplies, State.orderPass_some, s.orderCandidates_passage, ← signed, bank]
  simp only [State.orderShare, result] at figures
  exact figures

end

/-! ## The obligation -/

/-- The order of a dispatch is the one of the list asked that has its id; supplied, it differs from it in its state and
its activation alone. -/
theorem State.computeDispatch_supplies {s : State} (sm : Sample)
    (distinct : (s.orl.orders.map fun o => o.id).Nodup) :
    let d := (s.computeDispatch sm).2
    (d.orderId = none → (s.requested sm).suppliedOrder = none) ∧
      ∀ o ∈ s.orl.orders.map (Order.expire d.plantTime), d.orderId = some o.id →
        (s.requested sm).suppliedOrder = some (o.supply d.plantTime) := by
  have orderId := State.computeDispatch_orderId sm distinct
  obtain ⟨-, answer⟩ := s.requested_revised sm distinct
  have plantTime : (s.computeDispatch sm).2.plantTime = s.plantTimeAt sm.tick := rfl
  rw [← plantTime] at answer
  intro d
  refine ⟨fun absent => ?_, fun o listed named => ?_⟩
  · rw [answer, Option.map_eq_none_iff.mp (orderId.symm.trans absent), Option.map_none]
  · obtain ⟨w, found, same⟩ := Option.map_eq_some_iff.mp (orderId.symm.trans named)
    obtain ⟨-, asked, -⟩ := orderFor_spec found
    have once : ((s.orl.orders.map (Order.expire d.plantTime)).map fun o => o.id).Nodup := by
      rw [List.map_map]
      simpa only [Function.comp_def, Order.expire_id] using distinct
    obtain rfl : w = o := List.inj_on_of_nodup_map once asked listed same
    rw [answer, found, Option.map_some]

/-- The record of an order supplied serves, weighs and leaves room as the order does. -/
theorem State.orderTakers_supply (s : State) (plant : Nat) (o : Order) :
    s.orderTakers (o.supply plant) = s.orderTakers o := by
  rw [Order.supply_eq]
  rfl

/-- The rooms of the takers, as what is served is bounded by them. -/
theorem State.sum_room_orderTakers (s : State) (t : Tick) (valid : Bool) (o : Order) :
    let v := s.passage t valid
    ((((v.orderTakers o).map fun c => c.room).sum : Nat) : Int) =
      ((v.orderServing o).map fun i => roomForOrder o (v.rotor i)).sum := by
  intro v
  have rooms (slots : List Slot) : (((slots.map fun i => (roomForOrder o (v.rotor i)).toNat).sum : Nat) : Int) =
      (slots.map fun i => roomForOrder o (v.rotor i)).sum := by
    induction slots with
    | nil => rfl
    | cons i rest ih =>
      rw [List.map_cons, List.map_cons, List.sum_cons, List.sum_cons, Nat.cast_add, ih,
        Int.toNat_of_nonneg (s.roomForOrder_nonneg t valid o i)]
  rw [State.orderTakers, List.map_map]
  exact rooms _

theorem orderTarget_cast (power : Nat) (room : Int) :
    (orderTarget power room : Int) = min (power : Int) (max 0 room) := by
  unfold orderTarget
  omega

/-- What the pass serves, hands out and leaves, for an order that the dispatch supplies (R79, R80, R85 to R88). -/
theorem State.passage_orderServes {s : State} (t : Tick) (valid : Bool) {o : Order} {plant : Nat}
    (supplies : ((s.monitored t valid).requested (s.measure t valid).2).suppliedOrder = some (o.supply plant)) :
    let d := s.dispatched t valid
    let v := s.passage t valid
    let room := bankRoom v.dse o.direction d.signedServed
    d.po = directed o.direction o.power ∧ (d.exhausted = true ↔ v.orderServing o = []) ∧
      (d.oServed : Int) = min (min (o.power : Int) (max 0 room))
        ((v.orderServing o).map fun i => roomForOrder o (v.rotor i)).sum ∧
      d.oUnserved = o.power - d.oServed ∧ (∀ i : Slot, i ∉ v.orderServing o → d.slots[i].o = 0) ∧
      ∀ x ∈ shareOut (orderTarget o.power room) (v.orderTakers o),
        d.slots[x.slot].o = directed o.direction x.amount := by
  intro d v room
  obtain ⟨direction, power⟩ : (o.supply plant).direction = o.direction ∧ (o.supply plant).power = o.power := by
    rw [Order.supply_eq]
    exact ⟨rfl, rfl⟩
  obtain ⟨po, served, unserved, exhausted, share⟩ := s.dispatched_order t valid supplies
  rw [direction, power, State.orderTakers_supply] at served unserved
  rw [direction, power] at po
  rw [State.orderTakers_supply] at exhausted
  simp only [direction, power, State.orderTakers_supply] at share
  refine ⟨po, ?_, ?_, by rw [unserved, served], fun i absent => ?_, fun x mem => ?_⟩
  · rw [exhausted, List.isEmpty_iff, State.orderTakers, List.map_eq_nil_iff]
  · rw [served, servedOf_shareOut, Nat.cast_min, orderTarget_cast, s.sum_room_orderTakers t valid o]
  · rw [share, shareOf_of_not_mem (by rwa [slots_shareOut, State.slots_orderTakers])]
    cases o.direction <;> rfl
  · rw [share, shareOf_of_mem ?_ mem]
    rw [slots_shareOut, State.slots_orderTakers]
    exact (List.nodup_finRange 16).filter _

/-- Settles O21: the figures of the pass for the order supplied, which has the direction, the power and the group of the
order asked. -/
theorem orderPassServes : Obligations.OrderPassServes := by
  intro c s t d brings inv he latest
  obtain ⟨tick, u, now, valid, rfl⟩ := bringsSample_passage_withFmu brings he
  rw [State.passage_latest, Option.some.injEq] at latest
  subst latest
  have distinct : (((s.withTick tick).withFmu u).orl.orders.map fun o => o.id).Nodup := inv.distinct
  obtain ⟨absent, present⟩ := State.computeDispatch_supplies (((s.withTick tick).withFmu u).measure now valid).2
    (State.monitored_distinct now valid distinct)
  refine ⟨fun none_ => State.dispatched_noOrder _ now valid (absent none_), fun o asked named => ?_⟩
  rw [show ordersAsked s _ _ = _ from State.ordersAsked_eq ((s.withTick tick).withFmu u) now valid _] at asked
  exact State.passage_orderServes now valid (present o asked named)

end Sys2Proof.Machine
end

section
/-! The order list (R95, R103, R107, R111, R119): what the revisions of its records keep, and from them what a sample, a
stop assertion, a release and a reset keep. -/

namespace Sys2Proof.Machine

/-! ## One record (R96, R103, R104, R119) -/

namespace OrderRecordInv

variable {o : Order}

/-- It is about the energy of a record, and not about its state. -/
theorem withStatus (h : OrderRecordInv o) (status : OrderStatus) (activated ended : Option Nat) :
    OrderRecordInv { o with status := status, activated := activated, ended := ended } :=
  ⟨h.remaining, h.residue, h.runs⟩

/-- What is delivered is what the remaining quota falls by (R103). -/
theorem credit (h : OrderRecordInv o) (units : Nat) : OrderRecordInv (o.credit units) := by
  obtain ⟨remaining, -, k, one, runs⟩ := h
  refine ⟨(Nat.sub_le _ _).trans remaining, Nat.le_of_lt_succ (Nat.mod_lt _ (by decide)), k, one, ?_⟩
  have split : (o.credit units).delivered + (o.credit units).remaining = o.delivered + o.remaining := by
    simp only [Order.credit]
    omega
  exact split.trans runs

/-- A repeat begins a further run (R104). -/
theorem complete (h : OrderRecordInv o) (delivered : o.remaining = 0) (holds : RepeatCondition → Nat → Bool)
    (plant : Nat) : OrderRecordInv (o.complete holds plant) := by
  obtain ⟨remaining, residue, k, one, runs⟩ := h
  unfold Order.complete
  split
  · exact ⟨remaining, residue, k, one, runs⟩
  · split
    · exact ⟨remaining, residue, k, one, runs⟩
    · split
      · refine ⟨le_rfl, Nat.zero_le _, k + 1, Nat.le_add_left 1 k, ?_⟩
        rw [delivered, Nat.add_zero] at runs
        calc o.delivered + o.quota * 1000 = 1000 * o.quota * k + 1000 * o.quota := by rw [runs, Nat.mul_comm o.quota]
          _ = 1000 * o.quota * (k + 1) := (Nat.mul_succ _ _).symm
      · exact ⟨remaining, residue, k, one, runs⟩

theorem account (h : OrderRecordInv o) (units : Nat) (exhausted : Bool) (holds : RepeatCondition → Nat → Bool)
    (plant : Nat) : OrderRecordInv (o.account units exhausted holds plant) := by
  unfold Order.account
  split
  · exact h.withStatus _ _ _
  · split
    · next delivered => exact (h.credit units).complete delivered holds plant
    · exact h.credit units

end OrderRecordInv

/-! ## Revisions of the list -/

/-- A revision of the records that gives none another id, keeps what holds of each, and makes none ACTIVE. -/
structure CalmRevision (f : Order → Order) : Prop where
  ids : ∀ o, (f o).id = o.id
  records : ∀ o, OrderRecordInv o → OrderRecordInv (f o)
  active : ∀ o, (f o).status = .active → o.status = .active

namespace CalmRevision

/-- A revision of the records of one kind. -/
theorem onlyIf {p : Order → Prop} [DecidablePred p] {f : Order → Order} (h : CalmRevision f) :
    CalmRevision fun o => if p o then f o else o := by
  refine ⟨fun o => ?_, fun o => ?_, fun o => ?_⟩ <;> split
  exacts [h.ids o, rfl, h.records o, id, h.active o, id]

/-- A record that is given a state other than ACTIVE. -/
theorem withStatus {status : OrderStatus} (inactive : status ≠ .active) (ended : Order → Option Nat) :
    CalmRevision fun o => { o with status := status, ended := ended o } :=
  ⟨fun _ => rfl, fun _ h => h.withStatus _ _ _, fun _ active => absurd active inactive⟩

theorem expire (plant : Nat) : CalmRevision (Order.expire plant) := by
  refine ⟨Order.expire_id plant, fun o h => ?_, fun o active => ?_⟩
  · unfold Order.expire
    split
    · exact h
    · split
      · exact h.withStatus _ _ _
      · exact h
  · obtain expired | same := o.expire_status plant
    · rw [expired] at active; cases active
    · exact same ▸ active

theorem suspend : CalmRevision fun o => if o.status = .active then { o with status := .suspended .event } else o :=
  (CalmRevision.withStatus (status := .suspended .event) nofun fun o => o.ended).onlyIf

theorem release : CalmRevision Order.release :=
  (CalmRevision.withStatus (status := .waiting) nofun fun o => o.ended).onlyIf

theorem cancel (cause : CancelCause) (plant : Nat) : CalmRevision (Order.cancel cause plant) := by
  have cancelled := (CalmRevision.withStatus (status := .cancelled cause) nofun fun _ => some plant).onlyIf
    (p := fun o => o.status.terminal = false)
  refine cast (congrArg CalmRevision (funext fun o => ?_)) cancelled
  unfold Order.cancel
  cases o.status.terminal <;> rfl

theorem accounted (d : DispatchRecord) (holds : Fin 4 → RepeatCondition → Nat → Bool) :
    CalmRevision (Order.accounted d holds) := by
  refine ⟨Order.accounted_id d holds, fun o h => ?_, fun o active => ?_⟩ 
  · unfold Order.accounted
    split
    · exact h.account _ _ _ _
    · exact h
  · unfold Order.accounted at active
    split at active
    · obtain status | ⟨cause, status⟩ | status := o.account_status (d.oServed * d.dt) d.exhausted (holds o.group)
        d.plantTime <;> rw [status] at active
      · cases active
      · cases active
      · exact active
    · exact active

end CalmRevision

/-- What the mode says of the state of every order: none is ACTIVE in EVENT, and in HALTED every one has ended (R107,
R111). -/
def StatusFits (m : Mode) (status : OrderStatus) : Prop :=
  (m = .event → status ≠ .active) ∧ (m = .halted → status.terminal = true)

/-- In every other mode an order may be in any state. -/
theorem statusFits_of_mode {m : Mode} (notEvent : m ≠ .event) (notHalted : m ≠ .halted) (status : OrderStatus) :
    StatusFits m status := ⟨fun event => absurd event notEvent, fun halted => absurd halted notHalted⟩

/-- The modes in which orders are served are neither. -/
theorem statusFits_of_serves {m : Mode} (serves : modeServes m = true) (status : OrderStatus) : StatusFits m status := by
  refine statusFits_of_mode ?_ ?_ status <;> rintro rfl <;> cases serves

theorem OrderInv.statuses {s : State} (h : OrderInv s) {o : Order} (listed : o ∈ s.orl.orders) :
    StatusFits s.evt.mode o.status := ⟨fun event => h.event event o listed, fun halted => h.halted halted o listed⟩

/-- The invariant after a calm revision of the list that leaves every order in a state that its mode allows. -/
theorem OrderInv.revised {s t : State} (h : OrderInv s) {f : Order → Order}
    (orders : t.orl.orders = s.orl.orders.map f) (calm : CalmRevision f)
    (statuses : ∀ o ∈ s.orl.orders, StatusFits t.evt.mode (f o).status) : OrderInv t where
  atMost := by rw [orders, List.length_map]; exact h.atMost
  distinct := by
    rw [orders, List.map_map]
    simpa only [Function.comp_def, calm.ids] using h.distinct
  oneActive := by
    refine le_trans ?_ h.oneActive
    rw [orders, ← List.countP_eq_length_filter, ← List.countP_eq_length_filter, List.countP_map]
    refine List.countP_mono_left fun o _ active => ?_
    exact beq_iff_eq.mpr (calm.active o (beq_iff_eq.mp active))
  event := by rw [orders, List.forall_mem_map]; exact fun event o listed => (statuses o listed).1 event
  halted := by rw [orders, List.forall_mem_map]; exact fun halted o listed => (statuses o listed).2 halted
  records := by rw [orders, List.forall_mem_map]; exact fun o listed => calm.records o (h.records o listed)

/-- The invariant is about the records and the mode. -/
theorem OrderInv.congr {s t : State} (h : OrderInv s) (orders : t.orl.orders = s.orl.orders)
    (mode : t.evt.mode = s.evt.mode) : OrderInv t := by
  constructor <;> (try rw [mode]) <;> rw [orders]
  exacts [h.atMost, h.distinct, h.oneActive, h.event, h.halted, h.records]

/-! ## The demand request and the accounting (R100 to R106) -/

section
variable {s : State}

/-- Where none is ACTIVE, one is ACTIVE after its activation: the ids are distinct (R95, R101). -/
theorem OrderInv.activateIf (h : OrderInv s) (serves : modeServes s.evt.mode = true)
    (idle : ∀ o ∈ s.orl.orders, o.status ≠ .active) (id plant : Nat) :
    OrderInv (s.reviseOrders (Order.activateIf id plant)) := by
  have ids (o : Order) : (o.activateIf id plant).id = o.id := by
    unfold Order.activateIf
    split <;> rfl
  have once : (s.orl.orders.countP fun o => o.id == id) ≤ 1 := by
    have counted := List.nodup_iff_count_le_one.mp h.distinct id
    rwa [List.count, List.countP_map] at counted
  have statuses (status : OrderStatus) : StatusFits (s.reviseOrders (Order.activateIf id plant)).evt.mode status := by
    rw [State.reviseOrders_evt]
    exact statusFits_of_serves serves status
  constructor <;> (try rw [State.reviseOrders_orders])
  case atMost => rw [List.length_map]; exact h.atMost
  case distinct =>
    rw [List.map_map]
    simpa only [Function.comp_def, ids] using h.distinct
  case oneActive =>
    rw [← List.countP_eq_length_filter, List.countP_map]
    refine (List.countP_mono_left fun o listed active => ?_).trans once
    by_contra other
    have unnamed : o.id ≠ id := fun same => other (beq_iff_eq.mpr same)
    simp only [Function.comp, Order.activateIf, unnamed, if_false, beq_iff_eq] at active
    exact idle o listed active
  case event => exact fun event o _ => (statuses o.status).1 event
  case halted => exact fun halted o _ => (statuses o.status).2 halted
  case records =>
    rw [List.forall_mem_map]
    intro o listed
    unfold Order.activateIf
    split
    · exact (h.records o listed).withStatus _ _ _
    · exact h.records o listed

/-- Selection activates an order where none is ACTIVE, and in GUARD and ARMED alone (R101). -/
theorem OrderInv.selectOrder (h : OrderInv s) (plant : Nat) : OrderInv (s.selectOrder plant) := by
  unfold State.selectOrder
  split
  · next selects =>
    obtain ⟨serves, noneActive⟩ := Bool.and_eq_true_iff.mp selects
    split
    · exact h.activateIf serves (fun o listed active =>
        List.find?_eq_none.mp (Option.isNone_iff_eq_none.mp noneActive) o listed (beq_iff_eq.mpr active)) _ plant
    · exact h
  · exact h

theorem OrderInv.demandRequest (h : OrderInv s) (plant : Nat) : OrderInv (s.demandRequest plant) := by
  refine OrderInv.selectOrder (h.revised (State.reviseOrders_orders s _) (.expire plant) fun o listed => ?_) plant
  rw [State.reviseOrders_evt]
  obtain expired | same := o.expire_status plant
  · rw [expired]; exact ⟨fun _ => nofun, fun _ => rfl⟩
  · rw [same]; exact h.statuses listed

/-- A dispatch result that carries an order's id comes in GUARD or ARMED (R84), and its accounting makes no order ACTIVE. -/
theorem OrderInv.accountOrder (h : OrderInv s) {d : DispatchRecord}
    (serves : d.orderId ≠ none → modeServes s.evt.mode = true) : OrderInv (s.accountOrder d) := by
  refine h.revised (s.accountOrder_revised d).orders (.accounted d (repeatHolds s)) fun o listed => ?_
  rw [State.accountOrder_evt]
  by_cases none_ : d.orderId = none
  · rw [Order.accounted, none_, if_neg nofun]
    exact h.statuses listed
  · exact statusFits_of_serves (serves none_) _

theorem OrderInv.dispatch (h : OrderInv s) (sm : Sample) : OrderInv (s.dispatch sm) := by
  have computed : OrderInv (s.computeDispatch sm).1 := by
    obtain ⟨orl, -, -⟩ := s.computeDispatch_sameOrders sm
    have requested : OrderInv (s.requested sm) := OrderInv.demandRequest (h.congr (by simp) (by simp)) _
    exact requested.congr (by rw [orl]) (by simp [State.requested])
  have taken : OrderInv ((s.computeDispatch sm).1.takeSetpoints (s.computeDispatch sm).2) :=
    computed.congr (by simp) (by simp)
  refine (taken.accountOrder (d := (s.computeDispatch sm).2) fun carries => ?_).congr
    (by simp [State.dispatch, State.consume]) (by simp [State.dispatch, State.consume, State.countEvent])
  rw [State.computeDispatch_orderId sm h.distinct, ne_eq, Option.map_eq_none_iff] at carries
  obtain ⟨o, answer⟩ := Option.ne_none_iff_exists'.mp carries
  rw [State.takeSetpoints_evt, State.computeDispatch_evt]
  exact (orderFor_spec answer).1

end

/-! ## Samples, the stop line and resets (R107, R108, R111, R118) -/

theorem Monitored.orderInv {s t : State} (monitored : Monitored s t) (h : OrderInv s) : OrderInv t := by
  cases monitored with
  | @followed e follows calm =>
    obtain ⟨memory, recovery, change, -, rfl⟩ := follows
    exact h.congr rfl rfl
  | @opened memory entry t df rocof cause mode =>
    have orders : ((s.withEvt { s.evt with memory := memory }).openEvent entry t df rocof cause).orl.orders =
        s.orl.orders.map fun o => if o.status = .active then { o with status := .suspended .event } else o := by
      rw [State.openEvent, State.addNotice_orl, State.suspendForEvent, State.reviseOrders_orders]
      rfl
    refine h.revised orders .suspend fun o _ => ?_
    rw [State.openEvent_evt]
    refine ⟨fun _ => ?_, nofun⟩
    split
    · exact nofun
    · next inactive => exact inactive
  | @ended e cause plant follows mode cause_ne =>
    obtain ⟨notEvent, halted⟩ := modeAfter_cases e cause
    refine h.revised (f := Order.release) (by rw [State.endEvent_eq]; rfl) .release fun o _ => ?_
    rw [State.endEvent_evt]
    exact statusFits_of_mode notEvent (mt halted.mp cause_ne) _

namespace OrderInv

variable {s : State}

theorem passage (h : OrderInv s) (t : Tick) (valid : Bool) : OrderInv (s.passage t valid) := by
  have measured : OrderInv (s.measure t valid).1 := h.congr (by simp [State.measure]) (by simp)
  exact ((State.monitor_monitored _ _).orderInv measured).dispatch _

theorem assertStop (h : OrderInv s) : OrderInv s.assertStop := by
  obtain ⟨halted, -⟩ := s.assertStop_halts
  refine h.revised s.assertStop_stopTaken.orders (.cancel .stop s.plantTime) fun o _ => ?_
  rw [halted]
  refine ⟨nofun, fun _ => ?_⟩
  unfold Order.cancel
  split
  · next ended => exact ended
  · rfl

theorem releaseStop (h : OrderInv s) : OrderInv s.releaseStop := by
  have orders : s.releaseStop.orl.orders = s.orl.orders := by rw [State.releaseStop_eq]
  have mode : s.releaseStop.evt.mode = .idle := by rw [State.releaseStop_eq]
  refine h.revised (f := id) (by rw [orders, List.map_id]) ⟨fun _ => rfl, fun _ => id, fun _ => id⟩ fun o _ => ?_
  rw [mode]
  exact statusFits_of_mode (m := .idle) nofun nofun _

end OrderInv

theorem State.takeReset_orderInv (s : State) (cause : ResetCause) (t : Tick) (line : StopLevel) :
    OrderInv (s.takeReset cause t line) := by
  have empty : (s.takeReset cause t line).orl.orders = [] := (s.takeReset_afterReset cause t line).orl.1
  constructor <;> rw [empty]
  exacts [Nat.zero_le _, List.nodup_nil, Nat.zero_le _, fun _ => List.forall_mem_nil _, fun _ => List.forall_mem_nil _,
    List.forall_mem_nil _]

end Sys2Proof.Machine
end

section
/-! The pending notices and the change sets (R114, R144, R172, R173): what each operation of the part keeps of them, and with
them of the order list. A change set and its notice are written together or not at all; one lemma an operation, in the
order of the model's definitions. -/

namespace Sys2Proof.Machine

/-! ## Notices (R114, R144, R172) -/

/-- A notice is added, and what is then pending agrees with the change sets: they may be written before their notice
is. -/
theorem noticeInv_addNotice {s : State} {k : NoticeKind}
    (enabled : ∀ j, s.lif.pendingNotices.has j = true → s.lif.mask.has j = true)
    (rotor : (s.lif.pendingNotices.rotor || (decide (NoticeKind.rotor = k) && s.lif.mask.has k)) =
      !s.rsq.changed.isEmpty)
    (order : (s.lif.pendingNotices.order || (decide (NoticeKind.order = k) && s.lif.mask.has k)) =
      !s.orl.changed.isEmpty) : NoticeInv (s.addNotice k) where
  enabled := fun j pending => by
    rw [State.addNotice_has, Bool.or_eq_true, Bool.and_eq_true, decide_eq_true_iff] at pending
    rw [State.addNotice_eq]
    obtain pending | ⟨rfl, mask⟩ := pending
    · exact enabled j pending
    · exact mask
  rotor := by rw [State.addNotice_rsq]; exact (s.addNotice_has k .rotor).trans rotor
  order := by rw [State.addNotice_orl]; exact (s.addNotice_has k .order).trans order

theorem insertAscending_ne_nil (i : Slot) (l : List Slot) : insertAscending i l ≠ [] :=
  List.ne_nil_of_mem ((mem_insertAscending i i l).mpr (.inl rfl))

namespace NoticeInv

variable {s : State}

/-- The state of the EVT is no part of it. -/
theorem withEvt (h : NoticeInv s) (x : Evt) : NoticeInv (s.withEvt x) := ⟨h.enabled, h.rotor, h.order⟩

/-- A kind that has no change set. -/
theorem addNotice (h : NoticeInv s) (k : NoticeKind) (noRotor : NoticeKind.rotor ≠ k := by decide)
    (noOrder : NoticeKind.order ≠ k := by decide) : NoticeInv (s.addNotice k) := by
  apply noticeInv_addNotice h.enabled
  · simp [noRotor, h.rotor]
  · simp [noOrder, h.order]

theorem noteRotor (h : NoticeInv s) (i : Slot) : NoticeInv (s.noteRotor i) := by
  unfold State.noteRotor
  split
  · next mask =>
    apply noticeInv_addNotice
    · exact h.enabled
    · simp [mask, insertAscending_ne_nil]
    · simp [h.order]
  · exact h

/-- A revision of the order list adds ids and their notice together (R114). -/
theorem reviseOrders (h : NoticeInv s) (f : Order → Order) : NoticeInv (s.reviseOrders f) := by
  simp only [State.reviseOrders]
  split
  · next brings =>
    obtain ⟨mask, someIds⟩ := Bool.and_eq_true_iff.mp brings
    obtain ⟨id, mem⟩ := List.isEmpty_eq_false_iff_exists_mem.mp (Bool.not_eq_true' _ |>.mp someIds)
    have noted := List.ne_nil_of_mem ((mem_insertIds _ s.orl.changed id).mpr (.inr mem))
    apply noticeInv_addNotice
    · exact h.enabled
    · simp [h.rotor]
    · simp [mask, noted]
  · exact ⟨h.enabled, h.rotor, h.order⟩

/-- A retired id leaves its set, and its notice the pending ones if it was the last (R112, R114). -/
theorem retireOrder (h : NoticeInv s) (id : Nat) : NoticeInv (s.retireOrder id) := by
  simp only [State.retireOrder]
  split
  · next emptied =>
    refine ⟨fun k pending => ?_, h.rotor, ?_⟩
    · rw [State.withLif_lif, NoticeSet.has_put] at pending
      split at pending
      · cases pending
      · exact h.enabled k pending
    · rw [State.withLif_orl, State.withOrl_orl, emptied]
      rfl
  · next left =>
    refine ⟨h.enabled, h.rotor, ?_⟩
    have held : s.orl.changed ≠ [] := by
      intro none_
      simp [none_] at left
    rw [State.withOrl_lif, State.withOrl_orl, h.order, Bool.eq_false_of_not_eq_true left]
    simpa using held

/-- A notice that is begun leaves the pending ones, and its change set is emptied (R172). -/
theorem beginNotice (h : NoticeInv s) (k : NoticeKind) : NoticeInv (s.beginNotice k) := by
  unfold State.beginNotice
  split
  · refine ⟨fun j pending => ?_, ?_, ?_⟩
    · rw [State.withLif_lif, NoticeSet.has_put] at pending
      split at pending
      · cases pending
      · exact h.enabled j pending
    · cases k
      case rotor => rfl
      all_goals exact h.rotor
    · cases k
      case order => rfl
      all_goals exact h.order
  · exact h

/-- A new mask takes a disabled kind's notice and change set together (R173). -/
theorem setMask (h : NoticeInv s) (m : NoticeSet) : NoticeInv (s.setMask m) := by
  refine ⟨fun k pending => ?_, ?_, ?_⟩
  · simp only [State.setMask, State.withOrl_lif, State.withRsq_lif, State.withLif_lif, NoticeSet.has_inter,
      Bool.and_eq_true] at pending ⊢
    exact pending.2
  · simp only [State.setMask, State.withOrl_lif, State.withRsq_lif, State.withLif_lif, State.withOrl_rsq,
      State.withRsq_rsq, NoticeSet.inter, h.rotor]
    cases m.rotor <;> simp
  · simp only [State.setMask, State.withOrl_lif, State.withRsq_lif, State.withLif_lif, State.withOrl_orl,
      NoticeSet.inter, h.order]
    cases m.order <;> simp

end NoticeInv

/-- After a reset no change set holds anything, and START is pending, with HALT CHANGE where the line is low (R187). -/
theorem State.takeReset_noticeInv (s : State) (cause : ResetCause) (t : Tick) (line : StopLevel) :
    NoticeInv (s.takeReset cause t line) := by
  have after_ := s.takeReset_afterReset cause t line
  refine ⟨fun k _ => after_.lifMask k, ?_, ?_⟩
  · rw [after_.rsqChanged]; exact after_.lifNotices .rotor
  · rw [after_.orl.2]; exact after_.lifNotices .order

/-! ## Both invariants from one state to another -/

/-- From s to t both invariants are kept, that of the order list and that of the notices. -/
structure BooksKept (s t : State) : Prop where
  orders : OrderInv s → OrderInv t
  notices : NoticeInv s → NoticeInv t

/-- From s to t nothing changes that either invariant speaks of. -/
structure SameBooks (s t : State) : Prop where
  orl : t.orl = s.orl
  mode : t.evt.mode = s.evt.mode
  pendingNotices : t.lif.pendingNotices = s.lif.pendingNotices
  mask : t.lif.mask = s.lif.mask
  changed : t.rsq.changed = s.rsq.changed

theorem SameBooks.kept {s t : State} (same : SameBooks s t) : BooksKept s t := by
  obtain ⟨orl, mode, pendingNotices, mask, changed⟩ := same
  refine ⟨fun h => h.congr (by rw [orl]) mode, fun h => ⟨?_, ?_, ?_⟩⟩
  · rw [pendingNotices, mask]; exact h.enabled
  · rw [pendingNotices, changed]; exact h.rotor
  · rw [pendingNotices, orl]; exact h.order

namespace BooksKept

theorem refl (s : State) : BooksKept s s := ⟨id, id⟩

theorem trans {s t u : State} (h : BooksKept s t) (k : BooksKept t u) : BooksKept s u :=
  ⟨k.orders ∘ h.orders, k.notices ∘ h.notices⟩

/-- A branch keeps both when both its arms do. -/
theorem ite {c : Prop} [Decidable c] {s t u : State} (ht : BooksKept s t) (hu : BooksKept s u) :
    BooksKept s (if c then t else u) := by
  split
  · exact ht
  · exact hu

/-- A choice between two answers keeps both when both answers do. -/
theorem answer_ite {c : Prop} [Decidable c] {s : State} {a b : Answer} (ha : BooksKept s a.state)
    (hb : BooksKept s b.state) : BooksKept s (if c then a else b).state := by
  split
  · exact ha
  · exact hb

/-- What the rotors and the link do keeps the order list (R92). -/
theorem of_bankFrame {s t : State} (frame : BankFrame s t) (notices : NoticeInv s → NoticeInv t) : BooksKept s t :=
  ⟨fun h => h.congr frame.orders (by rw [frame.evt]), notices⟩

end BooksKept

theorem State.withTick_booksKept (s : State) (x : Tick) : BooksKept s (s.withTick x) :=
  SameBooks.kept ⟨rfl, rfl, rfl, rfl, rfl⟩
theorem State.withFmu_booksKept (s : State) (x : Fmu) : BooksKept s (s.withFmu x) :=
  SameBooks.kept ⟨rfl, rfl, rfl, rfl, rfl⟩
theorem State.withDse_booksKept (s : State) (x : Dse) : BooksKept s (s.withDse x) :=
  SameBooks.kept ⟨rfl, rfl, rfl, rfl, rfl⟩
theorem State.withRbi_booksKept (s : State) (x : Rbi) : BooksKept s (s.withRbi x) :=
  SameBooks.kept ⟨rfl, rfl, rfl, rfl, rfl⟩
theorem State.withStu_booksKept (s : State) (x : Stu) : BooksKept s (s.withStu x) :=
  SameBooks.kept ⟨rfl, rfl, rfl, rfl, rfl⟩
theorem State.setRotor_booksKept (s : State) (i : Slot) (r : RotorRecord) : BooksKept s (s.setRotor i r) :=
  SameBooks.kept ⟨rfl, rfl, rfl, rfl, rfl⟩
theorem State.setAttempts_booksKept (s : State) (i : Slot) (n : Nat) : BooksKept s (s.setAttempts i n) :=
  s.setRotor_booksKept i _
theorem State.withRsq_booksKept (s : State) {x : Rsq} (changed : x.changed = s.rsq.changed := by rfl) :
    BooksKept s (s.withRsq x) :=
  SameBooks.kept ⟨rfl, rfl, rfl, rfl, changed⟩
theorem State.withLif_booksKept (s : State) {x : Lif} (pendingNotices : x.pendingNotices = s.lif.pendingNotices := by rfl)
    (mask : x.mask = s.lif.mask := by rfl) : BooksKept s (s.withLif x) :=
  SameBooks.kept ⟨rfl, rfl, pendingNotices, mask, rfl⟩
theorem State.advance_booksKept (s : State) (dt : Nat) : BooksKept s (s.advance dt) := s.withTick_booksKept _
theorem State.advanceTo_booksKept (s : State) (t : Tick) : BooksKept s (s.advanceTo t) :=
  .ite (s.withTick_booksKept t) (.refl s)
theorem State.raise_booksKept (s : State) (f : SummaryFlag) : BooksKept s (s.raise f) := s.withStu_booksKept _

theorem State.addMeasurementNoticeIf_booksKept (s : State) (b : Bool) :
    BooksKept s (s.addNoticeIf b .measurement) :=
  .ite (.of_bankFrame (s.addNotice_bankFrame .measurement) fun h => h.addNotice .measurement) (.refl s)

theorem State.noteRotor_booksKept (s : State) (i : Slot) : BooksKept s (s.noteRotor i) :=
  .of_bankFrame (s.noteRotor_bankFrame i) fun h => h.noteRotor i

theorem State.changeRotor_booksKept (s : State) (i : Slot) (st : RotorState) (cause : Option RotorCause) :
    BooksKept s (s.changeRotor i st cause) :=
  (s.setRotor_booksKept i _).trans (State.noteRotor_booksKept _ i)

theorem State.leaveRoad_booksKept (s : State) (i : Slot) : BooksKept s (s.leaveRoad i) := s.withRsq_booksKept

/-! ## The Rotor Sequencer (chapter 07) -/

theorem State.admitAll_booksKept (fuel : Nat) (s : State) : BooksKept s (State.admitAll fuel s) := by
  induction fuel generalizing s with
  | zero => exact .refl s
  | succ fuel ih =>
    obtain same | ⟨_, i, rest, hm, -, -, admits⟩ := State.admit_cases (fuel + 1) s
    · rw [same]; exact .refl s
    · cases hm
      rw [admits]
      exact ((s.withRsq_booksKept).trans (State.changeRotor_booksKept _ i _ _)).trans (ih _)

theorem State.handOver_booksKept (s : State) : BooksKept s s.handOver := by
  obtain ⟨same, -⟩ | ⟨i, rest, -, -, hands⟩ := s.handOver_cases
  · rw [same]; exact .refl s
  · rw [hands]
    exact (s.withRsq_booksKept).trans <| (State.setAttempts_booksKept _ i _).trans <|
      State.changeRotor_booksKept _ i _ _

theorem State.handOn_booksKept (s : State) : BooksKept s s.handOn :=
  (State.admitAll_booksKept _ s).trans (State.handOver_booksKept _)

theorem State.joinSpinUp_booksKept (s : State) (i : Slot) : BooksKept s (s.joinSpinUp i) :=
  (s.leaveRoad_booksKept i).trans <| (State.withRsq_booksKept _).trans <|
    (State.changeRotor_booksKept _ i _ _).trans (State.handOn_booksKept _)

theorem State.joinSync_booksKept (s : State) (i : Slot) : BooksKept s (s.joinSync i) :=
  (s.leaveRoad_booksKept i).trans <| (State.withRsq_booksKept _).trans <|
    (State.changeRotor_booksKept _ i _ _).trans (State.handOn_booksKept _)

theorem State.brake_booksKept (s : State) (i : Slot) (cause : RotorCause) : BooksKept s (s.brake i cause) :=
  (s.leaveRoad_booksKept i).trans <| (State.setRotor_booksKept _ i _).trans <|
    (State.changeRotor_booksKept _ i _ _).trans (State.handOn_booksKept _)

theorem State.settle_booksKept (s : State) (i : Slot) (cause : Option RotorCause) : BooksKept s (s.settle i cause) :=
  (s.leaveRoad_booksKept i).trans <| (State.setAttempts_booksKept _ i _).trans <|
    (State.changeRotor_booksKept _ i _ _).trans (State.handOn_booksKept _)

theorem State.tripOnly_booksKept (s : State) (i : Slot) (cause : RotorCause) : BooksKept s (s.tripOnly i cause) :=
  (s.leaveRoad_booksKept i).trans <| (State.setRotor_booksKept _ i _).trans <|
    (State.changeRotor_booksKept _ i _ _).trans (State.raise_booksKept _ _)

theorem State.trip_booksKept (s : State) (i : Slot) (cause : RotorCause) : BooksKept s (s.trip i cause) :=
  (s.tripOnly_booksKept i cause).trans (State.handOn_booksKept _)

theorem State.tripFault_booksKept (s : State) (i : Slot) (code : FaultCode) : BooksKept s (s.tripFault i code) :=
  (s.setRotor_booksKept i _).trans (State.trip_booksKept _ i _)

theorem State.tripAll_booksKept (s : State) : BooksKept s s.tripAll := by
  unfold State.tripAll
  generalize allSlots = slots
  induction slots generalizing s with
  | nil => exact .refl s
  | cons i rest ih => exact (BooksKept.ite (s.tripOnly_booksKept i .stop) (.refl s)).trans (ih _)

theorem State.probeReply_booksKept (s : State) (i : Slot) : BooksKept s (s.probeReply i) :=
  .ite (s.tripFault_booksKept i _) <| .ite (s.changeRotor_booksKept i _ _) <| .ite (s.trip_booksKept i _) <|
    .ite (s.joinSync_booksKept i) (s.joinSpinUp_booksKept i)

theorem State.progress_booksKept (s : State) (i : Slot) : BooksKept s (s.progress i) := by
  have locked : BooksKept s (((s.leaveRoad i).setAttempts i 0).changeRotor i .online none).handOn :=
    (s.leaveRoad_booksKept i).trans <| (State.setAttempts_booksKept _ i _).trans <|
      (State.changeRotor_booksKept _ i _ _).trans (State.handOn_booksKept _)
  simp only [State.progress]
  split
  case h_4 => exact .ite (s.joinSpinUp_booksKept i) (.refl s)
  case h_6 => exact .ite (s.joinSync_booksKept i) (.refl s)
  case h_7 => exact .ite (s.joinSpinUp_booksKept i) (.refl s)
  case h_8 => exact .ite locked (.refl s)
  case h_10 => exact .ite (s.settle_booksKept i none) (.refl s)
  all_goals exact .refl s

theorem State.sequenceReply_booksKept (s : State) (i : Slot) : BooksKept s (s.sequenceReply i) := by
  have tested : BooksKept s (s.replyTests i) :=
    .ite (s.tripFault_booksKept i _) <| .ite (s.trip_booksKept i _) (s.progress_booksKept i)
  unfold State.sequenceReply
  split
  case h_1 | h_11 => exact .refl s
  case h_2 => exact s.probeReply_booksKept i
  all_goals exact tested

theorem State.sequenceLate_booksKept (s : State) (i : Slot) : BooksKept s (s.sequenceLate i) := by
  have rewritten (u : State) : BooksKept u (u.rewriteLost i) :=
    .ite (.refl u) ((u.setRotor_booksKept i _).trans (State.noteRotor_booksKept _ i))
  have tripped : BooksKept s (s.lateTrip i) :=
    (s.setRotor_booksKept i _).trans (.ite (State.trip_booksKept _ i _) (.refl _))
  unfold State.sequenceLate
  split
  case h_1 => exact .refl s
  case h_2 =>
    exact (s.leaveRoad_booksKept i).trans ((State.setRotor_booksKept _ i _).trans (State.noteRotor_booksKept _ i))
  case h_3 => exact (s.setRotor_booksKept i _).trans (.ite (rewritten _) (.refl _))
  all_goals exact tripped

/-! ## The Rotor Bus Interface (chapter 08) -/

theorem State.endRound_booksKept (s : State) : BooksKept s s.endRound := by
  apply SameBooks.kept
  constructor <;> simp

theorem State.continueRound_booksKept (s : State) : BooksKept s s.continueRound := by
  apply SameBooks.kept
  constructor <;> simp

theorem State.pollNext_booksKept (s : State) : BooksKept s s.pollNext := by
  have sent (u : State) (r : Option Round) (i : Slot) (c : PollCommand) (v : Int) :
      BooksKept u ((u.withRbi { u.rbi with round := r }).sendPoll i c v) :=
    (u.withRbi_booksKept _).trans (State.withRbi_booksKept _ _)
  unfold State.pollNext
  split
  · unfold State.takeTurn
    split
    · exact .ite (.ite (sent s _ _ _ _) (.refl s))
        ((s.withRbi_booksKept _).trans (State.continueRound_booksKept _))
    · exact .ite (sent s _ _ _ _) (.refl s)
    · exact s.endRound_booksKept
  · exact .refl s

theorem State.takeReport_booksKept (s : State) (p : Poll) (m : ModuleReport) : BooksKept s (s.takeReport p m) :=
  ((s.withRbi_booksKept _).trans
    (.ite (.refl _) ((State.setRotor_booksKept _ _ _).trans (State.sequenceReply_booksKept _ _)))).trans
      (State.continueRound_booksKept _)

theorem State.busBytes_booksKept (s : State) (bytes : List Byte) : BooksKept s (s.busBytes bytes) := by
  have received (u : State) (frame : List Byte) : BooksKept u (u.busFrame frame) := by
    unfold State.busFrame
    split
    · exact .ite (u.takeReport_booksKept _ _) (.refl u)
    · exact .refl u
  obtain ⟨-, h⟩ | ⟨-, -, h⟩ | ⟨frame, -, -, h⟩ := s.busBytes_cases bytes <;> rw [h]
  · exact s.withRbi_booksKept _
  · exact s.withRbi_booksKept _
  · exact (s.withRbi_booksKept _).trans (received _ frame)

theorem State.windowCloses_booksKept (s : State) : BooksKept s s.windowCloses := by
  have closed (u : State) (p : Poll) : BooksKept u (u.closeWindow p) :=
    ((u.withRbi_booksKept _).trans (.ite (.refl _) (State.sequenceLate_booksKept _ _))).trans
      (State.continueRound_booksKept _)
  unfold State.windowCloses
  split
  · exact .refl s
  · exact (s.advanceTo_booksKept _).trans (closed _ _)

/-- A rotor timer's expiry keeps both when what it does keeps them. -/
theorem State.timerExpires_booksKept (s : State) (i : Slot) (st : RotorState) {act : State → State}
    (h : ∀ s, BooksKept s (act s)) : BooksKept s (s.timerExpires i st act) := by
  unfold State.timerExpires
  split
  · exact .refl s
  · exact .ite ((s.advanceTo_booksKept _).trans (h _)) (.refl s)

/-! ## The Link Interface (chapter 09) -/

theorem State.formReply_booksKept (s : State) (r : Request) (code : ResultCode) (body : List Byte) :
    BooksKept s (s.formReply r code body) := s.withLif_booksKept

theorem State.abandonFrame_booksKept (s : State) : BooksKept s s.abandonFrame :=
  (s.withLif_booksKept).trans (State.raise_booksKept _ _)

theorem State.offerRequest_booksKept (s : State) (r : Request) : BooksKept s (s.offerRequest r) := by
  have checked (u : State) : BooksKept u (u.checkRequest r) := by
    unfold State.checkRequest
    split
    · exact u.formReply_booksKept r _ _
    · split
      · exact .refl u
      · exact .ite (.refl u) (u.formReply_booksKept r _ _)
  unfold State.offerRequest
  split
  · exact (s.withLif_booksKept).trans (State.raise_booksKept _ _)
  · exact (s.withLif_booksKept).trans (checked _)

theorem State.checkFrame_booksKept (s : State) (frame : List Byte) : BooksKept s (s.checkFrame frame) :=
  (s.withLif_booksKept).trans (.ite (State.offerRequest_booksKept _ _) (State.abandonFrame_booksKept _))

theorem State.completeFrame_booksKept (s : State) : BooksKept s s.completeFrame := by
  unfold State.completeFrame
  split
  case h_3 => exact s.checkFrame_booksKept _
  all_goals exact .refl s

theorem State.gapExpires_booksKept (s : State) : BooksKept s s.gapExpires := by
  unfold State.gapExpires
  split
  · exact .refl s
  · exact (s.advanceTo_booksKept _).trans ((State.withLif_booksKept _).trans (State.raise_booksKept _ _))

theorem State.takeByte_booksKept (s : State) (b : Byte) (broken : Bool) : BooksKept s (s.takeByte b broken) := by
  have hunted (u : State) : BooksKept u (u.huntByte b broken) := .ite (u.withLif_booksKept) (.refl u)
  have joined (bytes : List Byte) : BooksKept s (s.joinByte bytes b) :=
    .ite (s.withLif_booksKept) <| .ite s.abandonFrame_booksKept <|
      .ite (s.withLif_booksKept) (s.withLif_booksKept)
  unfold State.takeByte
  split
  · exact hunted s
  · exact .ite s.abandonFrame_booksKept (joined _)
  · exact (s.checkFrame_booksKept _).trans (hunted _)

theorem State.beginReply_booksKept (s : State) : BooksKept s s.beginReply := by
  unfold State.beginReply
  split
  · exact s.withLif_booksKept
  · exact .refl s

theorem State.beginNotice_booksKept (s : State) (k : NoticeKind) : BooksKept s (s.beginNotice k) :=
  .of_bankFrame (s.beginNotice_bankFrame k) fun h => h.beginNotice k

theorem State.endNotice_booksKept (s : State) : BooksKept s s.endNotice := by
  unfold State.endNotice
  split
  · exact .ite (.refl s) (s.withLif_booksKept)
  · exact .refl s

theorem State.takeReset_booksKept (s u : State) (cause : ResetCause) (t : Tick) (line : StopLevel) :
    BooksKept s (u.takeReset cause t line) :=
  ⟨fun _ => u.takeReset_orderInv cause t line, fun _ => u.takeReset_noticeInv cause t line⟩

theorem State.endReply_booksKept (s : State) (line : StopLevel) : BooksKept s (s.endReply line) := by
  unfold State.endReply
  split
  · exact .ite (.ite (s.takeReset_booksKept s _ _ line) (s.withLif_booksKept)) (.refl s)
  · exact .refl s

/-! ## Samples and the stop line (R6, R52, R53) -/

namespace NoticeInv

variable {s : State}

theorem openEvent (h : NoticeInv s) (entry : HostMode) (t : Tick) (df rocof : Int) (cause : Triggers) :
    NoticeInv (s.openEvent entry t df rocof cause) :=
  ((h.withEvt _).reviseOrders _).addNotice .event

theorem endEvent (h : NoticeInv s) (cause : EventEnd) (plant : Nat) : NoticeInv (s.endEvent cause plant) :=
  (((State.withDse_booksKept _ _).notices (h.withEvt _)).reviseOrders _).addNotice .event

theorem monitored {t : State} (h : NoticeInv s) (monitored : Monitored s t) : NoticeInv t := by
  cases monitored with
  | followed follows calm => exact h.withEvt _
  | opened mode => exact (h.withEvt _).openEvent _ _ _ _ _
  | ended follows mode cause_ne => exact (h.withEvt _).endEvent _ _

theorem demandRequest (h : NoticeInv s) (plant : Nat) : NoticeInv (s.demandRequest plant) := by
  have expired := h.reviseOrders (Order.expire plant)
  unfold State.demandRequest State.selectOrder
  split
  · split
    · exact expired.reviseOrders _
    · exact expired
  · exact expired

theorem accountOrder (h : NoticeInv s) (d : DispatchRecord) : NoticeInv (s.accountOrder d) := by
  unfold State.accountOrder
  split
  · exact h
  · exact h.reviseOrders _

/-- What a dispatch does beside the orders is no concern of the notices' (R92). -/
theorem dispatch (h : NoticeInv s) (sm : Sample) : NoticeInv (s.dispatch sm) := by
  have requested : NoticeInv (s.requested sm) := by
    refine NoticeInv.demandRequest (SameBooks.kept ?_ |>.notices h) _
    constructor <;> simp
  have computed : NoticeInv (s.computeDispatch sm).1 := by
    refine SameBooks.kept ?_ |>.notices requested
    constructor <;> simp [State.computeDispatch, State.frequencyPass_derived, State.requested]
  have taken : NoticeInv ((s.computeDispatch sm).1.takeSetpoints (s.computeDispatch sm).2) := by
    refine SameBooks.kept ?_ |>.notices computed
    constructor <;> simp
  refine SameBooks.kept ?_ |>.notices (taken.accountOrder (s.computeDispatch sm).2)
  constructor <;> simp [State.dispatch, State.consume, State.countEvent]

theorem passage (h : NoticeInv s) (t : Tick) (valid : Bool) : NoticeInv (s.passage t valid) := by
  have measured : BooksKept s (s.measure t valid).1 :=
    (s.withFmu_booksKept _).trans (State.addMeasurementNoticeIf_booksKept _ _)
  exact ((measured.notices h).monitored (State.monitor_monitored _ _)).dispatch _

/-- The notices of a stop assertion: the EVT's, then those of the trips and of the cancelled orders (R111, R140). -/
theorem assertStop (h : NoticeInv s) : NoticeInv s.assertStop := by
  have after_ {u : State} (hu : NoticeInv u) (now : Nat) :
      NoticeInv (((u.addNotice .halt).tripAll).cancelAll now) :=
    ((State.tripAll_booksKept _).notices (hu.addNotice .halt)).reviseOrders _
  refine after_ ?_ _
  cases s.evt.mode
  case event => exact (h.withEvt _).endEvent _ _
  case halted => exact h.withEvt _
  all_goals exact (h.withEvt _).withEvt _

theorem releaseStop (h : NoticeInv s) : NoticeInv s.releaseStop :=
  (h.withEvt _).addNotice .halt

end NoticeInv

theorem State.passage_booksKept (s : State) (t : Tick) (valid : Bool) : BooksKept s (s.passage t valid) :=
  ⟨fun h => h.passage t valid, fun h => h.passage t valid⟩

theorem State.edge_booksKept (s : State) : BooksKept s s.edge := by
  cases last : s.fmu.lastEdge with
  | none => rw [State.edge_first last]; exact s.withFmu_booksKept _
  | some last' =>
    rw [State.edge_next last]
    exact (s.withFmu_booksKept _).trans (State.passage_booksKept _ _ _)

theorem State.missingEdge_booksKept (s : State) : BooksKept s s.missingEdge :=
  (s.advanceTo_booksKept _).trans ((State.withFmu_booksKept _ _).trans (State.passage_booksKept _ _ _))

theorem State.assertStop_booksKept (s : State) : BooksKept s s.assertStop :=
  ⟨fun h => h.assertStop, fun h => h.assertStop⟩

theorem State.releaseStop_booksKept (s : State) : BooksKept s s.releaseStop :=
  ⟨fun h => h.releaseStop, fun h => h.releaseStop⟩

end Sys2Proof.Machine
end

section
/-! O54 and O55: the requests, and then every command and every step. -/

namespace Sys2Proof.Machine

/-! ## The owners of the requests (chapters 02, 03, 09, 10) -/

/-- SET MODE chooses neither EVENT nor HALTED, and leaves HALTED to the stop line (R34, R35). -/
theorem ownSetMode_booksKept (s : State) (p : List Byte) : BooksKept s (ownSetMode s p).state := by
  have chosen (m : HostMode) : BooksKept s (s.withEvt { s.evt with mode := modeOfHost m }) := by
    obtain ⟨notEvent, notHalted⟩ := modeOfHost_ne m
    refine ⟨fun h => ?_, fun h => h.withEvt _⟩
    exact ⟨h.atMost, h.distinct, h.oneActive, fun event => absurd event notEvent, fun halted => absurd halted notHalted,
      h.records⟩
  unfold ownSetMode
  split
  · exact .refl s
  · split
    case h_4 => exact SameBooks.kept ⟨rfl, rfl, rfl, rfl, rfl⟩
    case h_5 => exact .refl s
    all_goals exact chosen _

theorem ownSetMeasurement_booksKept (s : State) (p : List Byte) : BooksKept s (ownSetMeasurement s p).state := by
  refine .answer_ite (.refl s) ?_
  split
  · exact .refl s
  · have configured (u : Fmu) : BooksKept s ((s.withFmu u).withEvt { s.evt with memory := none }) :=
      SameBooks.kept ⟨rfl, rfl, rfl, rfl, rfl⟩
    exact (configured _).trans (State.addMeasurementNoticeIf_booksKept _ _)

theorem ownSetEvent_booksKept (s : State) (p : List Byte) : BooksKept s (ownSetEvent s p).state := by
  unfold ownSetEvent
  split
  · exact .refl s
  · exact SameBooks.kept ⟨rfl, rfl, rfl, rfl, rfl⟩

theorem ownSetBankLimits_booksKept (s : State) (p : List Byte) : BooksKept s (ownSetBankLimits s p).state :=
  .answer_ite (.refl s) (s.withDse_booksKept _)

theorem ownSetCurve_booksKept (s : State) (p : List Byte) : BooksKept s (ownSetCurve s p).state :=
  .answer_ite (.refl s) (.answer_ite (.refl s) (s.withDse_booksKept _))

theorem ownSetNotices_booksKept (s : State) (p : List Byte) : BooksKept s (ownSetNotices s p).state := by
  unfold ownSetNotices
  split
  · exact .refl s
  · exact ⟨fun h => h.congr rfl rfl, fun h => h.setMask _⟩

theorem ownRestart_booksKept (s : State) (p : List Byte) : BooksKept s (ownRestart s p).state :=
  .answer_ite (.refl s) (.answer_ite (.refl s) (s.withStu_booksKept _))

theorem ownSnapshotPart0_booksKept (s : State) (p : List Byte) : BooksKept s (ownSnapshotPart0 s p).state :=
  .answer_ite (s.withStu_booksKept _) (.refl s)

theorem ownSnapshotPart1_booksKept (s : State) (p : List Byte) : BooksKept s (ownSnapshotPart1 s p).state := by
  unfold ownSnapshotPart1
  split
  · exact .refl s
  · exact s.withStu_booksKept _

/-! ## The owners of the requests (chapters 04 and 07) -/

theorem ownEnrol_booksKept (s : State) (p : List Byte) : BooksKept s (ownEnrol s p).state := by
  have enrolled (i : Slot) (r : RotorRecord) : BooksKept s (s.enrol i r) :=
    (s.setRotor_booksKept i r).trans ((State.noteRotor_booksKept _ i).trans (State.withRbi_booksKept _ _))
  unfold ownEnrol
  split
  · exact .refl s
  · refine .answer_ite (.refl s) (.answer_ite (.refl s) ?_)
    split
    · exact .answer_ite (.refl s) (enrolled _ _)
    · exact .refl s

theorem ownRelease_booksKept (s : State) (p : List Byte) : BooksKept s (ownRelease s p).state := by
  have released (i : Slot) : BooksKept s (s.releaseSlot i) :=
    (s.setRotor_booksKept i _).trans ((State.noteRotor_booksKept _ i).trans (State.withRbi_booksKept _ _))
  unfold ownRelease
  split
  · exact .refl s
  · exact .answer_ite (released _) (.refl s)

theorem ownSpinUp_booksKept (s : State) (p : List Byte) : BooksKept s (ownSpinUp s p).state := by
  have lifted (i : Slot) : BooksKept s (s.startLift i) :=
    (s.withRsq_booksKept).trans (State.changeRotor_booksKept _ i _ _)
  unfold ownSpinUp
  split
  · exact .refl s
  · exact .answer_ite (.refl s) (.answer_ite (.refl s) (lifted _))

theorem ownPark_booksKept (s : State) (p : List Byte) : BooksKept s (ownPark s p).state := by
  have braked (i : Slot) : BooksKept s (s.brake i .host) := s.brake_booksKept i .host
  unfold ownPark
  split
  · exact .refl s
  · split
    case h_4 => exact .answer_ite (s.settle_booksKept _ _) (braked _)
    case h_9 => exact .answer_ite (.refl s) (braked _)
    case h_5 | h_6 | h_7 | h_8 => exact braked _
    all_goals exact .refl s

theorem ownResetFault_booksKept (s : State) (p : List Byte) : BooksKept s (ownResetFault s p).state := by
  unfold ownResetFault
  split
  · exact .refl s
  · exact .answer_ite ((s.setRotor_booksKept _ _).trans (State.settle_booksKept _ _ _)) (.refl s)

theorem ownSetRotorLimits_booksKept (s : State) (p : List Byte) : BooksKept s (ownSetRotorLimits s p).state := by
  unfold ownSetRotorLimits
  split
  · exact .refl s
  · exact .answer_ite (.refl s) (s.setRotor_booksKept _ _)

theorem ownSetRotorRole_booksKept (s : State) (p : List Byte) : BooksKept s (ownSetRotorRole s p).state := by
  unfold ownSetRotorRole
  split
  · exact .refl s
  · refine .answer_ite (.refl s) ?_
    split
    · exact s.setRotor_booksKept _ _
    · exact .refl s

theorem ownRotorStatus_booksKept (s : State) (p : List Byte) : BooksKept s (ownRotorStatus s p).state := by
  unfold ownRotorStatus
  split
  · exact .refl s
  · exact .answer_ite (.refl s) (.refl s)

theorem afterRotorStatus_booksKept (s : State) (p : List Byte) : BooksKept s (afterRotorStatus s p) := by
  unfold afterRotorStatus
  split
  · exact .refl s
  · exact .ite (s.setRotor_booksKept _ _) (.refl s)

/-! ## The owners of the requests (chapter 06) -/

/-- An order admitted: its id is new, it waits, and all its quota is still to deliver (R95, R99). -/
theorem OrderInv.placeOrder {s : State} (h : OrderInv s) {o : OrderForm} (running : s.evt.mode ≠ .halted)
    (room : s.orl.orders.length < 8) (new : s.orl.find o.id = none) (now : Nat) :
    OrderInv (s.withOrl { s.orl with orders := s.orl.orders ++ [admittedOrder o now] }) where
  atMost := by simpa using room
  distinct := by
    have others : ∀ x ∈ s.orl.orders, x.id ≠ o.id := by simpa [Orl.find] using new
    simpa [admittedOrder, List.nodup_append] using ⟨h.distinct, others⟩
  oneActive := by simpa [admittedOrder] using h.oneActive
  event := fun event x listed => by
    obtain old | rfl := List.mem_append.mp listed |>.imp_right List.mem_singleton.mp
    · exact h.event event x old
    · exact nofun
  halted := fun halted => absurd halted running
  records := fun x listed => by
    obtain old | rfl := List.mem_append.mp listed |>.imp_right List.mem_singleton.mp
    · exact h.records x old
    · exact ⟨le_rfl, Nat.zero_le _, 1, le_rfl, by simp only [admittedOrder]; omega⟩

theorem ownPlaceOrder_booksKept (s : State) (p : List Byte) : BooksKept s (ownPlaceOrder s p).state := by
  unfold ownPlaceOrder
  split
  · exact .refl s
  · next sent _ =>
    dsimp only
    split
    · exact .refl s
    · next running =>
      split
      · exact .refl s
      · next room =>
        split
        · exact .refl s
        · next new =>
          refine .answer_ite (.refl s) (.answer_ite (.refl s) ⟨fun h => ?_, fun h => ⟨h.enabled, h.rotor, h.order⟩⟩)
          exact h.placeOrder running (Nat.lt_of_not_le room) (Option.not_isSome_iff_eq_none.mp new) _

/-- A revision that the host asks for keeps both, if in HALTED it leaves ended what has ended. -/
theorem State.reviseOrder_booksKept (s : State) (id : Nat) {f : Order → Order} (calm : CalmRevision f)
    (ended : OrderInv s → s.evt.mode = .halted → ∀ o, o.status.terminal = true → (f o).status.terminal = true) :
    BooksKept s (s.reviseOrder id f) := by
  refine ⟨fun h => ?_, fun h => h.reviseOrders _⟩
  refine h.revised (s.reviseOrders_orders _) calm.onlyIf fun o listed => ?_
  obtain ⟨event, halted⟩ := h.statuses listed
  rw [State.reviseOrder, State.reviseOrders_evt]
  split
  · exact ⟨fun mode active => event mode (calm.active o active), fun mode => ended h mode o (halted mode)⟩
  · exact ⟨event, halted⟩

theorem ownCancelOrder_booksKept (s : State) (p : List Byte) : BooksKept s (ownCancelOrder s p).state := by
  refine .answer_ite (.refl s) ?_
  split
  · exact .refl s
  · refine .answer_ite (.refl s) (s.reviseOrder_booksKept _ (.cancel .host _) fun _ _ o ended => ?_)
    rwa [Order.cancel, if_pos ended]

/-- In HALTED no order is suspended, so none is resumed (R111). -/
theorem ownResumeOrder_booksKept (s : State) (p : List Byte) : BooksKept s (ownResumeOrder s p).state := by
  refine .answer_ite (.refl s) ?_
  split
  · exact .refl s
  · next o found =>
    split
    case h_1 status =>
      refine s.reviseOrder_booksKept _ (.withStatus (status := .waiting) nofun fun o => o.ended) fun h halted => ?_
      have ended := h.halted halted o (List.mem_of_find?_eq_some found)
      rw [status] at ended
      cases ended
    all_goals exact .refl s

theorem ownOrderStatus_booksKept (s : State) (p : List Byte) : BooksKept s (ownOrderStatus s p).state := by
  refine .answer_ite (.refl s) ?_
  split <;> exact .refl s

/-- A record that leaves the list leaves the rest of it as it was (R112). -/
theorem State.retireOrder_booksKept (s : State) (id : Nat) : BooksKept s (s.retireOrder id) := by
  have orders : (s.retireOrder id).orl.orders = s.orl.orders.filter fun o => o.id != id := by
    simp only [State.retireOrder]
    split <;> rfl
  have mode : (s.retireOrder id).evt.mode = s.evt.mode := by
    simp only [State.retireOrder]
    split <;> rfl
  have rest : (s.orl.orders.filter fun o => o.id != id).Sublist s.orl.orders := List.filter_sublist
  refine ⟨fun h => ?_, fun h => h.retireOrder id⟩
  constructor <;> (try rw [mode]) <;> rw [orders]
  case atMost => exact rest.length_le.trans h.atMost
  case distinct => exact h.distinct.sublist (rest.map _)
  case oneActive => exact (rest.filter _).length_le.trans h.oneActive
  case event => exact fun event o listed => h.event event o (rest.subset listed)
  case halted => exact fun halted o listed => h.halted halted o (rest.subset listed)
  case records => exact fun o listed => h.records o (rest.subset listed)

theorem afterOrderStatus_booksKept (s : State) (p : List Byte) : BooksKept s (afterOrderStatus s p) := by
  unfold afterOrderStatus
  split
  · exact .refl s
  · exact .ite (s.retireOrder_booksKept _) (.refl s)

/-! ## Every command -/

namespace BooksKept

section
variable {c : Instr} {s t : State} {f : State → State} {k : RequestKind} {suits : List Byte → Bool}
  {owner : State → List Byte → Answer} {after_ : State → List Byte → State}

/-- A command keeps both when what the part does for it does. -/
theorem taking (meaning : exec c s = s.taking f) (he : exec c s = .next t) (kept : BooksKept s (f s)) :
    BooksKept s t := by
  rw [meaning] at he
  cases up : s.supply with
  | up => rw [State.taking_up up] at he; cases he; exact kept
  | down => rw [State.taking_down up] at he; cases he; exact .refl s

/-- The taking of a request keeps both when the owner does, and what follows the reply does. -/
theorem request (meaning : exec c s = s.taking fun s => s.takeRequest k suits owner after_) (he : exec c s = .next t)
    (owned : ∀ p, BooksKept s (owner s p).state) (followed : ∀ s p, BooksKept s (after_ s p)) : BooksKept s t := by
  refine taking meaning he ?_
  obtain same | ⟨r, -, -, -, -, answered⟩ := s.takeRequest_cases k suits owner after_
  · rw [same]; exact .refl s
  · rw [answered]
    exact ((owned r.payload).trans (State.formReply_booksKept _ _ _ _)).trans (followed _ _)

/-- A request that nothing follows. -/
theorem plainRequest (meaning : exec c s = s.taking fun s => s.takeRequest k suits owner nothingAfter)
    (he : exec c s = .next t) (owned : ∀ p, BooksKept s (owner s p).state) : BooksKept s t :=
  request meaning he owned fun s _ => .refl s

end

end BooksKept

/-- Every command keeps what the spec says always holds of the order list and of the notices. -/
theorem exec_booksKept (c : Instr) {s t : State} (he : exec c s = .next t) : BooksKept s t := by
  have advanced (dt : Nat) : BooksKept s (s.advance dt) := s.advance_booksKept dt
  cases c with
  | zeroCrossingEdge dt => exact .taking (exec_zeroCrossingEdge dt s) he ((advanced dt).trans (State.edge_booksKept _))
  | missingEdgeTimeout => exact .taking (exec_missingEdgeTimeout s) he s.missingEdge_booksKept
  | stopAssertion dt steady =>
    exact .taking (exec_stopAssertion dt steady s) he
      (.ite ((advanced dt).trans (State.assertStop_booksKept _)) (advanced dt))
  | stopRelease dt steady =>
    exact .taking (exec_stopRelease dt steady s) he
      (.ite ((advanced dt).trans (State.releaseStop_booksKept _)) (advanced dt))
  | powerOn line => cases he; exact s.takeReset_booksKept s _ _ line
  | supplyDip line => cases he; exact s.takeReset_booksKept s _ _ line
  | frameCompleted => exact .taking (exec_frameCompleted s) he s.completeFrame_booksKept
  | gapTimerExpiry => exact .taking (exec_gapTimerExpiry s) he s.gapExpires_booksKept
  | replySend => exact .taking (exec_replySend s) he s.beginReply_booksKept
  | requestSlotRelease dt line =>
    exact .taking (exec_requestSlotRelease dt line s) he ((advanced dt).trans (State.endReply_booksKept _ line))
  | start => exact .taking (exec_start s) he (s.beginNotice_booksKept _)
  | eventChange => exact .taking (exec_eventChange s) he (s.beginNotice_booksKept _)
  | rotorChange => exact .taking (exec_rotorChange s) he (s.beginNotice_booksKept _)
  | orderChange => exact .taking (exec_orderChange s) he (s.beginNotice_booksKept _)
  | measurementChange => exact .taking (exec_measurementChange s) he (s.beginNotice_booksKept _)
  | haltChange => exact .taking (exec_haltChange s) he (s.beginNotice_booksKept _)
  | identify => exact .plainRequest (exec_identify s) he fun _ => .refl s
  | status => exact .plainRequest (exec_status s) he fun _ => .refl s
  | clearSummary =>
    exact .plainRequest (exec_clearSummary s) he fun _ => SameBooks.kept ⟨rfl, rfl, rfl, rfl, rfl⟩
  | setClock => exact .plainRequest (exec_setClock s) he fun _ => s.withStu_booksKept _
  | setMode => exact .plainRequest (exec_setMode s) he (ownSetMode_booksKept s)
  | setMeasurement => exact .plainRequest (exec_setMeasurement s) he (ownSetMeasurement_booksKept s)
  | setEvent => exact .plainRequest (exec_setEvent s) he (ownSetEvent_booksKept s)
  | setBankLimits => exact .plainRequest (exec_setBankLimits s) he (ownSetBankLimits_booksKept s)
  | setCurve => exact .plainRequest (exec_setCurve s) he (ownSetCurve_booksKept s)
  | readCurve => exact .plainRequest (exec_readCurve s) he fun _ => .refl s
  | readEvents => exact .plainRequest (exec_readEvents s) he fun _ => .refl s
  | setNotices => exact .plainRequest (exec_setNotices s) he (ownSetNotices_booksKept s)
  | restart => exact .plainRequest (exec_restart s) he (ownRestart_booksKept s)
  | snapshotPart0 => exact .plainRequest (exec_snapshotPart0 s) he (ownSnapshotPart0_booksKept s)
  | snapshotPart1 => exact .plainRequest (exec_snapshotPart1 s) he (ownSnapshotPart1_booksKept s)
  | enrol => exact .plainRequest (exec_enrol s) he (ownEnrol_booksKept s)
  | release => exact .plainRequest (exec_release s) he (ownRelease_booksKept s)
  | spinUp => exact .plainRequest (exec_spinUp s) he (ownSpinUp_booksKept s)
  | park => exact .plainRequest (exec_park s) he (ownPark_booksKept s)
  | resetFault => exact .plainRequest (exec_resetFault s) he (ownResetFault_booksKept s)
  | setRotorLimits => exact .plainRequest (exec_setRotorLimits s) he (ownSetRotorLimits_booksKept s)
  | setRotorRole => exact .plainRequest (exec_setRotorRole s) he (ownSetRotorRole_booksKept s)
  | rotorStatus =>
    exact .request (exec_rotorStatus s) he (ownRotorStatus_booksKept s) afterRotorStatus_booksKept
  | placeOrder => exact .plainRequest (exec_placeOrder s) he (ownPlaceOrder_booksKept s)
  | cancelOrder => exact .plainRequest (exec_cancelOrder s) he (ownCancelOrder_booksKept s)
  | resumeOrder => exact .plainRequest (exec_resumeOrder s) he (ownResumeOrder_booksKept s)
  | orderStatus =>
    exact .request (exec_orderStatus s) he (ownOrderStatus_booksKept s) afterOrderStatus_booksKept
  | listOrders => exact .plainRequest (exec_listOrders s) he fun _ => .refl s
  | poll dt => exact .taking (exec_poll dt s) he ((advanced dt).trans (State.pollNext_booksKept _))
  | moduleReply dt bytes =>
    exact .taking (exec_moduleReply dt bytes s) he ((advanced dt).trans (State.busBytes_booksKept _ bytes))
  | replyWindowClose => exact .taking (exec_replyWindowClose s) he s.windowCloses_booksKept
  | liftTimerExpiry i =>
    exact .taking (exec_liftTimerExpiry i s) he (s.timerExpires_booksKept i _ fun s => s.trip_booksKept i _)
  | spinupTimerExpiry i =>
    exact .taking (exec_spinupTimerExpiry i s) he (s.timerExpires_booksKept i _ fun s => s.brake_booksKept i _)
  | syncTimerExpiry i =>
    exact .taking (exec_syncTimerExpiry i s) he (s.timerExpires_booksKept i _ fun s =>
      .ite (s.joinSync_booksKept i) (s.brake_booksKept i _))
  | linkByteReceived dt byte broken =>
    exact .taking (exec_linkByteReceived dt byte broken s) he
      ((advanced dt).trans (State.takeByte_booksKept _ byte broken))
  | noticeFrameEnd dt =>
    exact .taking (exec_noticeFrameEnd dt s) he ((advanced dt).trans (State.endNotice_booksKept _))
  | supplyFall dt =>
    exact .taking (exec_supplyFall dt s) he (SameBooks.kept ⟨rfl, rfl, rfl, rfl, rfl⟩)

/-- Every step keeps both: the idle step changes nothing, and the queue is no part of either. -/
theorem step_booksKept {s t : State} (stepped : step s = .next t) : BooksKept s t := by
  cases waiting : s.pending with
  | nil => simp only [step, waiting] at stepped; cases stepped; exact .refl s
  | cons c rest =>
    simp only [step, waiting] at stepped
    have queued : BooksKept s (s.withPending rest) := SameBooks.kept ⟨rfl, rfl, rfl, rfl, rfl⟩
    exact queued.trans (exec_booksKept c stepped)

/-- Settles O54: a step keeps the order list's part of the books. -/
theorem stepKeepsOrderInv : Obligations.StepKeepsOrderInv := fun _ _ h stepped => (step_booksKept stepped).orders h

/-- Settles O55: a step keeps the notices' part of the books. -/
theorem stepKeepsNoticeInv : Obligations.StepKeepsNoticeInv := fun _ _ h stepped =>
  (step_booksKept stepped).notices h

end Sys2Proof.Machine
end

section
/-! The accounting of a dispatch result to an order (R103 to R106): O22. -/

namespace Sys2Proof.Machine

section
variable (o : Order) (units : Nat) (holds : RepeatCondition → Nat → Bool) (plant : Nat)

/-- A result that leaves something to deliver (R103). -/
theorem Order.account_delivers (left : (units + o.residue) / 10000 < o.remaining) :
    o.account units false holds plant =
      { o with
        remaining := o.remaining - (units + o.residue) / 10000
        residue := (units + o.residue) % 10000
        delivered := o.delivered + (units + o.residue) / 10000 } := by
  have goesOn : (o.credit units).remaining ≠ 0 := Nat.sub_ne_zero_of_lt left
  rw [Order.account, if_neg Bool.false_ne_true, if_neg goesOn, Order.credit, unitsPerJ, Nat.min_eq_left left.le]

/-- A result that completes the run is acted on with nothing left of the quota (R103, R104). -/
theorem Order.account_completes (delivered : o.remaining ≤ (units + o.residue) / 10000) :
    o.account units false holds plant =
      Order.complete
        { o with
          remaining := 0
          residue := (units + o.residue) % 10000
          delivered := o.delivered + o.remaining }
        holds plant := by
  have credited : o.credit units =
      { o with remaining := 0, residue := (units + o.residue) % 10000, delivered := o.delivered + o.remaining } := by
    rw [Order.credit, unitsPerJ, Nat.min_eq_right delivered, Nat.sub_eq_zero_of_le delivered]
  rw [Order.account, if_neg Bool.false_ne_true, credited, if_pos rfl]

/-- A run with no repeat left ends the order (R104). -/
theorem Order.complete_done (last : ∀ r, o.repeats = some r → r.count = 0) :
    o.complete holds plant = { o with status := .done .quota, ended := some plant } := by
  unfold Order.complete
  split
  · rfl
  · next r repeats => rw [if_pos (last r repeats)]

/-- A run with a repeat left is followed by another where the condition holds (R104). -/
theorem Order.complete_repeats {r : Repeat} (repeats : o.repeats = some r) (left : r.count ≠ 0)
    (met : holds r.condition r.x = true) :
    o.complete holds plant =
      { o with repeats := some { r with count := r.count - 1 }, remaining := o.quota * 1000, residue := 0 } := by
  simp only [Order.complete, repeats, if_neg left, if_pos met]

/-- Where the condition does not hold, the repeat is the end (R104). -/
theorem Order.complete_fails {r : Repeat} (repeats : o.repeats = some r) (left : r.count ≠ 0)
    (unmet : holds r.condition r.x = false) :
    o.complete holds plant =
      { o with
        repeats := some { r with count := r.count - 1 }, status := .done .condition, ended := some plant } := by
  simp only [Order.complete, repeats, if_neg left, unmet, Bool.false_eq_true, if_false]

end

/-- ABOVE and BELOW ask for an ONLINE rotor of the group, ALWAYS for nothing (R105). -/
theorem repeatHolds_iff (t : State) (g : Fin 4) (x : Nat) :
    let online := allSlots.filter fun i => (t.rotor i).state == .online && (t.rotor i).group == g
    let soc := 1000 * (online.map fun i => (t.rotor i).eCap * (t.rotor i).soc / 1000).sum /
      (online.map fun i => (t.rotor i).eCap).sum
    repeatHolds t g .always x = true ∧ (repeatHolds t g .above x = true ↔ online ≠ [] ∧ x < soc) ∧
      (repeatHolds t g .below x = true ↔ online ≠ [] ∧ soc < x) :=
  ⟨rfl, decide_eq_true_iff, decide_eq_true_iff⟩

/-- Settles O22: the accounting by whether the result completes a run, and then by the repeat part; the condition by the
statements' own test of it. -/
theorem orderAccounting : Obligations.OrderAccounting := by
  refine ⟨fun o units holds plant => ⟨rfl, o.account_delivers units holds plant, fun completes => ?_⟩, fun t g x => ?_⟩
  · rw [o.account_completes units holds plant completes]
    exact ⟨fun r repeats left => ⟨Order.complete_repeats _ holds plant repeats left,
      Order.complete_fails _ holds plant repeats left⟩, fun last => Order.complete_done _ holds plant last⟩
  · rw [← congrFun (repeatHolds_eq t) g]
    exact repeatHolds_iff t g x

end Sys2Proof.Machine
end


section
/-! The requests about one order: CANCEL ORDER and RESUME ORDER (R109, R110), O43. The record that an id names first, then
one answer of an owner a case. -/

namespace Sys2Proof.Machine

/-! ## The record that an id names (R95) -/

/-- An id that no record holds finds none. -/
theorem Orl.find_eq_none {l : Orl} {id : Nat} (absent : ∀ o ∈ l.orders, o.id ≠ id) : l.find id = none :=
  List.find?_eq_none.mpr fun o listed found => absent o listed (beq_iff_eq.mp found)

/-- The list of s holds the record o in its place, and no other with its id, which is not 0. -/
structure HoldsOrder (s : State) (id : Nat) (before : List Order) (o : Order) (after_ : List Order) : Prop where
  positive : id ≠ 0
  orders : s.orl.orders = before ++ o :: after_
  named : o.id = id
  others : ∀ x ∈ before ++ after_, x.id ≠ id

theorem OrderInv.holdsOrder {s : State} (h : OrderInv s) {id : Nat} {before after_ : List Order} {o : Order}
    (positive : id ≠ 0) (orders : s.orl.orders = before ++ o :: after_) (named : o.id = id) :
    HoldsOrder s id before o after_ := by
  refine ⟨positive, orders, named, fun x listed same => ?_⟩
  have distinct := h.distinct
  rw [orders, List.map_append, List.map_cons, List.nodup_middle, List.nodup_cons, ← List.map_append] at distinct
  exact distinct.1 (List.mem_map.mpr ⟨x, listed, same.trans named.symm⟩)

namespace HoldsOrder

variable {s : State} {id : Nat} {before after_ : List Order} {o : Order} (h : HoldsOrder s id before o after_)
include h

theorem beforeOthers {x : Order} (listed : x ∈ before) : x.id ≠ id := h.others x (List.mem_append_left _ listed)

theorem afterOthers {x : Order} (listed : x ∈ after_) : x.id ≠ id := h.others x (List.mem_append_right _ listed)

theorem find : s.orl.find id = some o := by
  have skipped : before.find? (fun x => x.id == id) = none :=
    List.find?_eq_none.mpr fun x listed found => h.beforeOthers listed (beq_iff_eq.mp found)
  rw [Orl.find, h.orders, List.find?_append, skipped, Option.none_or]
  exact List.find?_cons_of_pos (beq_iff_eq.mpr h.named)

/-- A revision of the record with the id leaves every other as it is. -/
theorem map (f : Order → Order) :
    (s.orl.orders.map fun x => if x.id = id then f x else x) = before ++ f o :: after_ := by
  have kept {l : List Order} (others : ∀ x ∈ l, x.id ≠ id) : (l.map fun x => if x.id = id then f x else x) = l :=
    List.map_congr_left (fun x listed => if_neg (others x listed)) |>.trans l.map_id
  rw [h.orders, List.map_append, List.map_cons, if_pos h.named, kept fun _ => h.beforeOthers, kept fun _ => h.afterOthers]

/-- The record leaves the list. -/
theorem filter : (s.orl.orders.filter fun x => x.id != id) = before ++ after_ := by
  have kept {l : List Order} (others : ∀ x ∈ l, x.id ≠ id) : (l.filter fun x => x.id != id) = l :=
    List.filter_eq_self.mpr fun x listed => bne_iff_ne.mpr (others x listed)
  rw [h.orders, List.filter_append, List.filter_cons_of_neg (by simp [h.named]), kept fun _ => h.beforeOthers,
    kept fun _ => h.afterOthers]

/-- A revision of the record brings its id and no other. -/
theorem enteredIds {f : Order → Order} (entered : enteredId o (f o) = some id) :
    s.enteredIds (fun x => if x.id = id then f x else x) = [id] := by
  have kept {l : List Order} (others : ∀ x ∈ l, x.id ≠ id) :
      (l.filterMap fun x => enteredId x (if x.id = id then f x else x)) = [] :=
    List.filterMap_eq_nil_iff.mpr fun x listed => enteredId_of_waiting (.inl (by rw [if_neg (others x listed)]))
  have named : enteredId o (if o.id = id then f o else o) = some id := by rw [if_pos h.named, entered]
  rw [State.enteredIds, h.orders]
  simp only [List.filterMap_append, List.filterMap_cons, named, kept fun _ => h.beforeOthers,
    kept fun _ => h.afterOthers, List.nil_append]

end HoldsOrder

/-- A revision that brings one id: the id joins the set, once, and the notice is pending, while the kind is enabled
(R114). -/
theorem State.reviseOrders_of_enters_one {s : State} {f : Order → Order} {id : Nat} (ids : s.enteredIds f = [id]) :
    s.reviseOrders f =
      { s with
        orl :=
          { orders := s.orl.orders.map f
            changed := if s.lif.mask.order = true ∧ id ∉ s.orl.changed then s.orl.changed ++ [id] else s.orl.changed }
        lif := { s.lif with pendingNotices :=
          { s.lif.pendingNotices with order := s.lif.pendingNotices.order || s.lif.mask.order } } } := by
  have enabled : s.lif.mask.has .order = s.lif.mask.order := rfl
  rw [State.enteredIds] at ids
  simp only [State.reviseOrders, ids, enabled]
  cases mask : s.lif.mask.order with
  | false => simp [State.withOrl]
  | true => by_cases held : id ∈ s.orl.changed <;>
      simp [State.addNotice_eq, State.withOrl, State.withLif, NoticeSet.put, NoticeSet.has, insertIds, mask, held]

/-! ## An id of 0, and one that no record holds (R109, R110) -/

section
variable {s : State} {p : List Byte}

theorem ownCancelOrder_zero (zero : field p 0 2 = 0) : ownCancelOrder s p = refuse s .badValue := by
  simp only [ownCancelOrder, if_pos zero]

theorem ownCancelOrder_absent (positive : field p 0 2 ≠ 0) (absent : s.orl.find (field p 0 2) = none) :
    ownCancelOrder s p = refuse s .noSuch := by
  simp only [ownCancelOrder, if_neg positive, absent]

theorem ownResumeOrder_zero (zero : field p 0 2 = 0) : ownResumeOrder s p = refuse s .badValue := by
  simp only [ownResumeOrder, if_pos zero]

theorem ownResumeOrder_absent (positive : field p 0 2 ≠ 0) (absent : s.orl.find (field p 0 2) = none) :
    ownResumeOrder s p = refuse s .noSuch := by
  simp only [ownResumeOrder, if_neg positive, absent]

/-! ## CANCEL ORDER (R110) -/

variable {before after_ : List Order} {o : Order} (h : HoldsOrder s (field p 0 2) before o after_)
include h

theorem ownCancelOrder_ended (ended : o.status.terminal = true) : ownCancelOrder s p = refuse s .wrongState := by
  simp only [ownCancelOrder, if_neg h.positive, h.find, if_pos ended]

theorem ownCancelOrder_cancels (going : o.status.terminal = false) :
    ownCancelOrder s p = accept
      { s with
        orl :=
          { orders := before ++ ({ o with status := .cancelled .host, ended := some s.plantTime } : Order) :: after_
            changed :=
              if s.lif.mask.order = true ∧ field p 0 2 ∉ s.orl.changed then s.orl.changed ++ [field p 0 2]
              else s.orl.changed }
        lif := { s.lif with pendingNotices :=
          { s.lif.pendingNotices with order := s.lif.pendingNotices.order || s.lif.mask.order } } } false := by
  have cancelled : o.cancel .host s.plantTime = { o with status := .cancelled .host, ended := some s.plantTime } := by
    rw [Order.cancel, going, if_neg Bool.false_ne_true]
  have entered : enteredId o (o.cancel .host s.plantTime) = some (field p 0 2) := by
    rw [cancelled]
    refine enteredId_eq_some.mpr ⟨fun same => ?_, nofun, h.named⟩
    rw [← same] at going
    cases going
  have notEnded : ¬ o.status.terminal = true := ne_true_of_eq_false going
  simp only [ownCancelOrder, if_neg h.positive, h.find, if_neg notEnded]
  rw [State.reviseOrder, State.reviseOrders_of_enters_one (h.enteredIds entered), h.map, cancelled]

/-! ## RESUME ORDER (R109) -/

/-- An entry to WAITING is not noted (R114). -/
theorem ownResumeOrder_resumes (status : o.status = .suspended .exhausted) :
    ownResumeOrder s p = accept
      { s with orl := { s.orl with orders := before ++ ({ o with status := .waiting } : Order) :: after_ } } false := by
  have unnoted (x : Order) : enteredId x (if x.id = field p 0 2 then { x with status := .waiting } else x) = none := by
    apply enteredId_of_waiting
    split
    · exact .inr rfl
    · exact .inl rfl
  simp only [ownResumeOrder, if_neg h.positive, h.find, status]
  rw [State.reviseOrder, State.reviseOrders_of_enters_none _ unnoted, h.map]
  rfl

theorem ownResumeOrder_inEvent (status : o.status = .suspended .event) :
    ownResumeOrder s p = refuse s .inEvent := by
  simp only [ownResumeOrder, if_neg h.positive, h.find, status]

theorem ownResumeOrder_notSuspended (status : ∀ cause, o.status ≠ .suspended cause) :
    ownResumeOrder s p = refuse s .wrongState := by
  simp only [ownResumeOrder, if_neg h.positive, h.find]
  split
  case h_1 suspended => exact absurd suspended (status _)
  case h_2 suspended => exact absurd suspended (status _)
  all_goals rfl

end

/-- Settles O43, by the answers of the two owners. -/
theorem cancelAndResumeOrder : Obligations.CancelAndResumeOrder := by
  refine ⟨fun s tag p asks => ?_, fun s tag p asks => ?_⟩
  · rw [exec_cancelOrder, State.taking_request asks rfl ownCancelOrder]
    refine ⟨fun zero => ?_, fun positive absent => ?_, fun before o after_ positive orders named inv =>
      have h := inv.holdsOrder positive orders named
      ⟨fun ended => ?_, fun going => ?_⟩⟩
    · rw [ownCancelOrder_zero zero]
      rfl
    · rw [ownCancelOrder_absent positive (Orl.find_eq_none absent)]
      rfl
    · rw [ownCancelOrder_ended h ended]
      rfl
    · rw [ownCancelOrder_cancels h going]
      rfl
  · rw [exec_resumeOrder, State.taking_request asks rfl ownResumeOrder]
    refine ⟨fun zero => ?_, fun positive absent => ?_, fun before o after_ positive orders named inv =>
      have h := inv.holdsOrder positive orders named
      ⟨fun exhausted => ?_, fun event => ?_, fun other => ?_⟩⟩
    · rw [ownResumeOrder_zero zero]
      rfl
    · rw [ownResumeOrder_absent positive (Orl.find_eq_none absent)]
      rfl
    · rw [ownResumeOrder_resumes h exhausted]
      rfl
    · rw [ownResumeOrder_inEvent h event]
      rfl
    · rw [ownResumeOrder_notSuspended h other]
      rfl

end Sys2Proof.Machine
end


section
/-! ORDER STATUS (R112): O44. A record is reported and, when it has ended, retired. What follows the reply looks the id up
again without its refusal of 0, so that a record with the id 0 is retired by a request that has been refused: no run
comes there (R98 refuses the id), but the statement is about every state. -/

namespace Sys2Proof.Machine

/-! ## A record that the id names -/

/-- ORDER STATUS in the slot: the owner's answer, and then the retirement (R112, R165). -/
theorem State.taking_orderStatus {s : State} {tag : Byte} {p : List Byte} (asks : s.asks .orderStatus tag p) :
    exec .orderStatus s = .next (afterOrderStatus ((ownOrderStatus s p).state.formReply
      ⟨requestKindByte .orderStatus, tag, p, false⟩ (ownOrderStatus s p).code (ownOrderStatus s p).body) p) := by
  obtain ⟨up, slot⟩ := asks
  rw [exec_orderStatus, State.taking_up up, State.takeRequest_slot slot anyPayload rfl]

/-- The retirement of a record whose id may be in the ORDER CHANGE set: the notice stays pending exactly while another id
is (R112, R114). -/
theorem HoldsOrder.retireOrder {s : State} {id : Nat} {before after_ : List Order} {o : Order}
    (h : HoldsOrder s id before o after_) (notice : s.lif.pendingNotices.order = !s.orl.changed.isEmpty) :
    s.retireOrder id =
      { s with
        orl := { orders := before ++ after_, changed := s.orl.changed.filter fun x => x ≠ id }
        lif := { s.lif with pendingNotices := { s.lif.pendingNotices with
          order := !(s.orl.changed.filter fun x => x ≠ id).isEmpty } } } := by
  have test : (fun x : Nat => x != id) = fun x => decide (x ≠ id) := by
    funext x
    by_cases same : x = id <;> simp [same]
  simp only [State.retireOrder, h.filter, test]
  split
  · next emptied => rw [emptied]; rfl
  · next left =>
    have pending : s.lif.pendingNotices.order = true := by
      rw [notice, Bool.not_eq_true', List.isEmpty_eq_false_iff]
      intro none_
      simp [none_] at left
    rw [Bool.eq_false_of_not_eq_true left, Bool.not_false, ← pending]
    rfl

section
variable {s : State} {tag : Byte} {p : List Byte} (asks : s.asks .orderStatus tag p) {before after_ : List Order}
  {o : Order} (h : HoldsOrder s (field p 0 2) before o after_)
include asks h

/-- A record that has not ended is reported, and stays. -/
theorem State.orderStatus_reports (going : o.status.terminal = false) :
    exec .orderStatus s = answered s .orderStatus tag p .ok o.statusBody := by
  have found (r : Request) : (s.formReply r .ok o.statusBody).orl.find (field p 0 2) = some o := h.find
  simp only [State.taking_orderStatus asks, ownOrderStatus, if_neg h.positive, h.find, report, afterOrderStatus, found,
    going, Bool.false_eq_true, if_false]
  rfl

/-- A record that has ended is reported, and leaves the list (R112). -/
theorem State.orderStatus_retires (inv : NoticeInv s) (ended : o.status.terminal = true) :
    ∃ replied, answered s .orderStatus tag p .ok o.statusBody = .next replied ∧
      exec .orderStatus s =
        .next { replied with
          orl := { orders := before ++ after_, changed := s.orl.changed.filter fun x => x ≠ field p 0 2 }
          lif := { replied.lif with pendingNotices := { s.lif.pendingNotices with
            order := !(s.orl.changed.filter fun x => x ≠ field p 0 2).isEmpty } } } := by
  have found (r : Request) : (s.formReply r .ok o.statusBody).orl.find (field p 0 2) = some o := h.find
  have held (r : Request) : HoldsOrder (s.formReply r .ok o.statusBody) (field p 0 2) before o after_ :=
    ⟨h.positive, h.orders, h.named, h.others⟩
  refine ⟨_, rfl, ?_⟩
  simp only [State.taking_orderStatus asks, ownOrderStatus, if_neg h.positive, h.find, report, afterOrderStatus, found,
    ended, if_true]
  rw [h.named, (held _).retireOrder inv.order]
  rfl

end

/-! ## The obligation -/

/-- A record with the id 0 that has expired. -/
def expiredZero : Order where
  id := 0
  direction := .discharge
  group := 0
  power := 1
  quota := 1
  remaining := 1000
  residue := 0
  startTime := none
  deadline := some 0
  repeats := none
  status := .expired
  placed := 0
  activated := none
  ended := some 0
  delivered := 0

/-- The part after a reset, but that its list holds such a record, and an ORDER STATUS that names the id 0 is in the
slot. -/
def askedForZero : State :=
  { State.reset with
    orl := { Orl.reset with orders := [expiredZero] }
    lif := { Lif.reset with slot := some ⟨requestKindByte .orderStatus, 0, [0, 0], false⟩ } }

/-- The orders that an outcome leaves. -/
def ordersLeft : Host.Outcome State Fault Refusal → List Order
  | .next t => t.orl.orders
  | .fault _ => []
  | .refused _ => []

/-- Refutes O44: the id 0 is refused with BAD_VALUE, but the record that holds it leaves the list all the same. -/
theorem not_orderStatusReportsThenRetires : ¬ Obligations.OrderStatusReportsThenRetires := by
  intro h
  obtain ⟨zero, -⟩ := h askedForZero 0 [0, 0] ⟨rfl, rfl⟩
  have same := congrArg ordersLeft (zero rfl)
  have left : ordersLeft (exec .orderStatus askedForZero) = [] := rfl
  have kept : ordersLeft (answered askedForZero .orderStatus 0 [0, 0] .badValue []) = [expiredZero] := rfl
  rw [left, kept] at same
  cases same

end Sys2Proof.Machine
end


section
/-! PLACE ORDER (R98, R99): O42. What the payload's presence mask says first, then what is read from a payload, then one
answer of the owner a case. -/

namespace Sys2Proof.Machine

/-! ## The presence mask (R194) -/

/-- The payload's start time is present (R194). -/
abbrev hasStart (p : List Byte) : Prop := field p 0 1 % 2 = 1

/-- The payload's deadline is present (R194). -/
abbrev hasDeadline (p : List Byte) : Prop := field p 0 1 / 2 % 2 = 1

/-- The payload's repeat part is present (R194). -/
abbrev hasRepeat (p : List Byte) : Prop := field p 0 1 / 4 % 2 = 1

/-- Where the deadline stands, after the start time (R194). -/
def deadlineAt (p : List Byte) : Nat := 11 + (if hasStart p then 6 else 0)

/-- Where the repeat part stands, after the deadline (R194). -/
def repeatAt (p : List Byte) : Nat := deadlineAt p + (if hasDeadline p then 6 else 0)

/-- A bit of a one-byte field. -/
theorem byteOf_field_getLsbD (p : List Byte) (k : Nat) {i : Nat} (h : i < 8) :
    (byteOf (field p k 1)).getLsbD i = decide (field p k 1 / 2 ^ i % 2 = 1) := by
  rw [byteOf, BitVec.getLsbD_ofNat, Nat.testBit_eq_decide_div_mod_eq, decide_eq_true h, Bool.true_and]

section
variable (p : List Byte)

theorem mask_bit_zero : (byteOf (field p 0 1)).getLsbD 0 = decide (hasStart p) := by
  rw [byteOf_field_getLsbD p 0 (by decide), pow_zero, Nat.div_one]

theorem mask_bit_one : (byteOf (field p 0 1)).getLsbD 1 = decide (hasDeadline p) :=
  byteOf_field_getLsbD p 0 (by decide)

theorem mask_bit_two : (byteOf (field p 0 1)).getLsbD 2 = decide (hasRepeat p) :=
  byteOf_field_getLsbD p 0 (by decide)

theorem mask_toNat : (byteOf (field p 0 1)).toNat = field p 0 1 := byteOf_toNat (field_lt p 0 1)

/-- The length that the mask announces ends the repeat part. -/
theorem orderLength_eq : orderLength (byteOf (field p 0 1)) = repeatAt p + (if hasRepeat p then 4 else 0) := by
  simp only [orderLength, repeatAt, deadlineAt, mask_bit_zero, mask_bit_one, mask_bit_two, decide_eq_true_eq]

end

/-! ## The codes (R98) -/

theorem directionOfCode_directionCode (d : Direction) : directionOfCode (directionCode d) = some d := by
  cases d <;> rfl

theorem directionOfCode_eq_none {v : Nat} (h : v = 0 ∨ 2 < v) : directionOfCode v = none := by
  unfold directionOfCode
  split
  case h_3 => rfl
  all_goals omega

theorem conditionOfCode_conditionCode (c : RepeatCondition) : conditionOfCode (conditionCode c) = some c := by
  cases c <;> rfl

theorem conditionOfCode_eq_none {v : Nat} (h : v = 0 ∨ 3 < v) : conditionOfCode v = none := by
  unfold conditionOfCode
  split
  case h_4 => rfl
  all_goals omega

/-! ## What is read from a payload (R98) -/

/-- The mask is in range, and the payload is as long as it says. -/
structure SuitsMask (p : List Byte) : Prop where
  known : field p 0 1 < 8
  length : p.length = repeatAt p + (if hasRepeat p then 4 else 0)

/-- A well-formed payload carries these codes, its repeat condition where it has one. -/
structure CarriesOrder (p : List Byte) (direction : Direction) (group : Fin 4) (condition : RepeatCondition) : Prop
    extends SuitsMask p where
  id : field p 1 2 ≠ 0
  direction : field p 3 1 = directionCode direction
  group : field p 4 1 = group.val
  condition : hasRepeat p → field p (repeatAt p + 1) 1 = conditionCode condition

/-- The order that a well-formed payload asks for. -/
def sentOrder (p : List Byte) (direction : Direction) (group : Fin 4) (condition : RepeatCondition) : OrderForm where
  id := field p 1 2
  direction := direction
  group := group
  power := field p 5 2
  quota := field p 7 4
  startTime := if hasStart p then some (field p 11 6) else none
  deadline := if hasDeadline p then some (field p (deadlineAt p) 6) else none
  repeats := if hasRepeat p then some ⟨field p (repeatAt p) 1, condition, field p (repeatAt p + 2) 2⟩ else none

section
variable {p : List Byte}

theorem SuitsMask.not_nil (h : SuitsMask p) : ¬p.length = 0 := by
  have length := h.length
  simp only [repeatAt, deadlineAt] at length
  omega

theorem readOrder_empty (h : p = []) : readOrder p = .error .badLength := by rw [h]; rfl

/-- An empty payload's mask reads 0. -/
theorem not_nil_of_mask (h : 8 ≤ field p 0 1) : ¬p.length = 0 := by
  intro empty
  rw [List.eq_nil_of_length_eq_zero empty] at h
  exact absurd h (by decide)

theorem readOrder_badMask (h : 8 ≤ field p 0 1) : readOrder p = .error .badValue := by
  simp only [readOrder, mask_toNat, if_neg (not_nil_of_mask h), if_pos h]

theorem readOrder_badLength (sent : p ≠ []) (known : field p 0 1 < 8)
    (h : p.length ≠ repeatAt p + (if hasRepeat p then 4 else 0)) : readOrder p = .error .badLength := by
  simp only [readOrder, mask_toNat, orderLength_eq, if_neg (mt List.eq_nil_of_length_eq_zero sent),
    if_neg (Nat.not_le.mpr known), if_pos h]

theorem readOrder_badId (h : SuitsMask p) (id : field p 1 2 = 0) : readOrder p = .error .badValue := by
  simp only [readOrder, mask_toNat, orderLength_eq, if_neg h.not_nil, if_neg (Nat.not_le.mpr h.known),
    if_neg (not_not.mpr h.length), if_pos id]

/-- The repeat part of a payload is where the two times leave it. -/
theorem readRepeat_eq (p : List Byte) :
    readRepeat p ((byteOf (field p 0 1)).getLsbD 2)
        (11 + (if (byteOf (field p 0 1)).getLsbD 0 then 6 else 0) + (if (byteOf (field p 0 1)).getLsbD 1 then 6 else 0)) =
      readRepeat p (decide (hasRepeat p)) (repeatAt p) := by
  simp only [repeatAt, deadlineAt, mask_bit_zero, mask_bit_one, mask_bit_two, decide_eq_true_eq]

/-- Past the id, an unknown code is all that can be wrong. -/
theorem readOrder_badCode (h : SuitsMask p)
    (unknown : directionOfCode (field p 3 1) = none ∨ groupOfCode (field p 4 1) = none ∨
      readRepeat p (decide (hasRepeat p)) (repeatAt p) = .error .badValue) : readOrder p = .error .badValue := by
  by_cases id : field p 1 2 = 0
  · exact readOrder_badId h id
  · simp only [readOrder, mask_toNat, orderLength_eq, if_neg h.not_nil, if_neg (Nat.not_le.mpr h.known),
      if_neg (not_not.mpr h.length), if_neg id, readRepeat_eq]
    obtain direction | group | rep := unknown
    · simp only [direction]
    · rw [group]
      cases directionOfCode (field p 3 1) <;> rfl
    · rw [rep]
      cases directionOfCode (field p 3 1) <;> cases groupOfCode (field p 4 1) <;> rfl

theorem readRepeat_badCondition (present : hasRepeat p)
    (unknown : conditionOfCode (field p (repeatAt p + 1) 1) = none) :
    readRepeat p (decide (hasRepeat p)) (repeatAt p) = .error .badValue := by
  simp only [readRepeat, decide_eq_true present, if_true, unknown]

variable {direction : Direction} {group : Fin 4} {condition : RepeatCondition}

theorem CarriesOrder.readRepeat (h : CarriesOrder p direction group condition) :
    readRepeat p (decide (hasRepeat p)) (repeatAt p) = .ok (sentOrder p direction group condition).repeats := by
  by_cases present : hasRepeat p
  · simp only [Machine.readRepeat, sentOrder, decide_eq_true present, if_pos present, if_true, h.condition present,
      conditionOfCode_conditionCode]
  · simp only [Machine.readRepeat, sentOrder, decide_eq_false present, if_neg present, Bool.false_eq_true, if_false]

theorem CarriesOrder.readOrder (h : CarriesOrder p direction group condition) :
    readOrder p = .ok (sentOrder p direction group condition) := by
  simp only [Machine.readOrder, mask_toNat, orderLength_eq, if_neg h.not_nil, if_neg (Nat.not_le.mpr h.known),
    if_neg (not_not.mpr h.length), if_neg h.id, readRepeat_eq, h.readRepeat, h.direction, directionOfCode_directionCode,
    h.group, groupOfCode_val]
  simp only [sentOrder, deadlineAt, mask_bit_zero, mask_bit_one, decide_eq_true_eq]

/-- Every field that R98 bounds is in range, or the form is refused. -/
theorem readOrder_badValue (h : SuitsMask p)
    (wrong : field p 1 2 = 0 ∨ field p 3 1 = 0 ∨ 2 < field p 3 1 ∨ 3 < field p 4 1 ∨
      (hasRepeat p ∧ (field p (repeatAt p + 1) 1 = 0 ∨ 3 < field p (repeatAt p + 1) 1))) :
    readOrder p = .error .badValue := by
  obtain id | none | direction | group | ⟨present, condition⟩ := wrong
  · exact readOrder_badId h id
  · exact readOrder_badCode h (.inl (directionOfCode_eq_none (.inl none)))
  · exact readOrder_badCode h (.inl (directionOfCode_eq_none (.inr direction)))
  · exact readOrder_badCode h (.inr (.inl (groupOfCode_eq_none group)))
  · exact readOrder_badCode h (.inr (.inr (readRepeat_badCondition present (conditionOfCode_eq_none condition))))

end

/-! ## The clamped form (R99) -/

section
variable (p : List Byte) (direction : Direction) (group : Fin 4) (condition : RepeatCondition)

/-- Six bytes hold no time past the largest (R191). -/
theorem clampNat_time (k : Nat) : clampNat 0 maxPlantTime (field p k 6) = field p k 6 :=
  clampNat_within (Nat.zero_le _) (Nat.le_sub_one_of_lt (field_lt p k 6))

/-- One byte holds no count past the largest. -/
theorem clampNat_count (k : Nat) : clampNat 1 255 (field p k 1) = max 1 (field p k 1) :=
  congrArg (max 1) (Nat.min_eq_right (Nat.le_sub_one_of_lt (field_lt p k 1)))

/-- A clamp changes the power, the quota and the repeat part; no time. -/
theorem sentOrder_clamp :
    (sentOrder p direction group condition).clamp =
      { sentOrder p direction group condition with
        power := max 1 (min 8000 (field p 5 2))
        quota := max 1 (min 6400000 (field p 7 4))
        repeats :=
          if hasRepeat p then
            some ⟨max 1 (field p (repeatAt p) 1), condition, min 1000 (field p (repeatAt p + 2) 2)⟩
          else none } := by
  simp only [OrderForm.clamp, sentOrder, apply_ite (Option.map _), Option.map_some, Option.map_none, clampNat_time,
    clampNat_count, clampNat_zero 1000]
  rfl

/-- The clamp changes nothing exactly where power, quota and repeat part are in range. -/
theorem sentOrder_clamp_eq_iff :
    (sentOrder p direction group condition).clamp = sentOrder p direction group condition ↔
      (1 ≤ field p 5 2 ∧ field p 5 2 ≤ 8000) ∧ (1 ≤ field p 7 4 ∧ field p 7 4 ≤ 6400000) ∧
        (hasRepeat p → 1 ≤ field p (repeatAt p) 1 ∧ field p (repeatAt p + 2) 2 ≤ 1000) := by
  rw [sentOrder_clamp]
  by_cases present : hasRepeat p
  · simp only [sentOrder, if_pos present, imp_iff_right present, OrderForm.mk.injEq, Option.some.injEq, Repeat.mk.injEq,
      true_and]
    omega
  · simp only [sentOrder, if_neg present, iff_true_intro (absurd · present), OrderForm.mk.injEq, true_and, and_true]
    omega

end

/-! ## The times (R99) -/

theorem deadlineBeforeStart_iff (o : OrderForm) :
    deadlineBeforeStart o = true ↔ ∃ a b, o.startTime = some a ∧ o.deadline = some b ∧ b ≤ a := by
  unfold deadlineBeforeStart
  split
  case h_1 a b start deadline => simp [start, deadline]
  case h_2 absent =>
    refine iff_of_false Bool.false_ne_true ?_
    rintro ⟨a, b, start, deadline, -⟩
    exact absent a b start deadline

theorem deadlineCome_iff (o : OrderForm) (now : Nat) :
    deadlineCome o now = true ↔ ∃ b, o.deadline = some b ∧ b ≤ now := by
  unfold deadlineCome
  split
  case h_1 b deadline => simp [deadline]
  case h_2 absent => simp [absent]

/-! ## PLACE ORDER's owner (R98, R99) -/

section
variable {s : State} {p : List Byte}

theorem ownPlaceOrder_badForm {code : ResultCode} (s : State) (bad : readOrder p = .error code) :
    ownPlaceOrder s p = refuse s code := by
  simp only [ownPlaceOrder, bad]

variable {sent : OrderForm} (read : readOrder p = .ok sent)
include read

theorem ownPlaceOrder_halted (halted : s.evt.mode = .halted) : ownPlaceOrder s p = refuse s .halted := by
  simp only [ownPlaceOrder, read, if_pos halted]

variable (running : s.evt.mode ≠ .halted)
include running

theorem ownPlaceOrder_full (full : 8 ≤ s.orl.orders.length) : ownPlaceOrder s p = refuse s .full := by
  simp only [ownPlaceOrder, read, if_neg running, maxOrders, if_pos full]

variable (room : s.orl.orders.length < 8)
include room

theorem ownPlaceOrder_duplicate (held : ∃ o ∈ s.orl.orders, o.id = sent.id) :
    ownPlaceOrder s p = refuse s .duplicate := by
  have found : (s.orl.find sent.clamp.id).isSome = true := by simpa [Orl.find, OrderForm.clamp] using held
  simp only [ownPlaceOrder, read, if_neg running, maxOrders, if_neg (Nat.not_le.mpr room), if_pos found]

variable (new : ∀ o ∈ s.orl.orders, o.id ≠ sent.id)
include new

/-- Past the id, the two checks of the times are all that can refuse. -/
theorem ownPlaceOrder_new :
    ownPlaceOrder s p =
      if deadlineBeforeStart sent.clamp then refuse s .inconsistent
      else if deadlineCome sent.clamp s.plantTime then refuse s .tooLate
      else accept (s.withOrl { s.orl with orders := s.orl.orders ++ [admittedOrder sent.clamp s.plantTime] })
        (sent.clamp != sent) := by
  have absent : s.orl.find sent.clamp.id = none := Orl.find_eq_none new
  simp only [ownPlaceOrder, read, if_neg running, maxOrders, if_neg (Nat.not_le.mpr room), absent, Option.isSome_none,
    Bool.false_eq_true, if_false]

end

section
variable {s : State} {p : List Byte} {direction : Direction} {group : Fin 4} {condition : RepeatCondition}
  (h : CarriesOrder p direction group condition) (running : s.evt.mode ≠ .halted) (room : s.orl.orders.length < 8)
  (new : ∀ o ∈ s.orl.orders, o.id ≠ field p 1 2)
include h running room new

theorem ownPlaceOrder_inconsistent
    (early : ∃ a b, (sentOrder p direction group condition).startTime = some a ∧
      (sentOrder p direction group condition).deadline = some b ∧ b ≤ a) :
    ownPlaceOrder s p = refuse s .inconsistent := by
  rw [ownPlaceOrder_new h.readOrder running room new, sentOrder_clamp]
  exact if_pos ((deadlineBeforeStart_iff _).mpr early)

variable (ordered : ∀ a b, (sentOrder p direction group condition).startTime = some a →
    (sentOrder p direction group condition).deadline = some b → a < b)
include ordered

/-- The times are in order: the deadline alone can refuse. -/
theorem ownPlaceOrder_ordered :
    ownPlaceOrder s p =
      if deadlineCome (sentOrder p direction group condition).clamp s.plantTime then refuse s .tooLate
      else accept (s.withOrl { s.orl with
          orders := s.orl.orders ++ [admittedOrder (sentOrder p direction group condition).clamp s.plantTime] })
        ((sentOrder p direction group condition).clamp != sentOrder p direction group condition) := by
  rw [ownPlaceOrder_new h.readOrder running room new]
  refine if_neg fun early => ?_
  rw [sentOrder_clamp] at early
  obtain ⟨a, b, start, deadline, le⟩ := (deadlineBeforeStart_iff _).mp early
  exact absurd (ordered a b start deadline) (Nat.not_lt.mpr le)

theorem ownPlaceOrder_tooLate
    (come : ∃ b, (sentOrder p direction group condition).deadline = some b ∧ b ≤ s.plantTime) :
    ownPlaceOrder s p = refuse s .tooLate := by
  rw [ownPlaceOrder_ordered h running room new ordered, sentOrder_clamp]
  exact if_pos ((deadlineCome_iff _ _).mpr come)

/-- The order joins the tail of the list; the code says whether anything was clamped. -/
theorem ownPlaceOrder_accepts
    (ahead : ∀ b, (sentOrder p direction group condition).deadline = some b → s.plantTime < b) :
    ownPlaceOrder s p =
      ⟨s.withOrl { s.orl with
          orders := s.orl.orders ++ [admittedOrder (sentOrder p direction group condition).clamp s.plantTime] },
        if (1 ≤ field p 5 2 ∧ field p 5 2 ≤ 8000) ∧ (1 ≤ field p 7 4 ∧ field p 7 4 ≤ 6400000) ∧
            (hasRepeat p → 1 ≤ field p (repeatAt p) 1 ∧ field p (repeatAt p + 2) 2 ≤ 1000) then .ok else .clamped, []⟩ := by
  rw [ownPlaceOrder_ordered h running room new ordered, if_neg, accept]
  · congr 1
    exact acceptedCode_eq_ite (bne_eq_false_iff_eq.trans (sentOrder_clamp_eq_iff p direction group condition))
  · rw [deadlineCome_iff, sentOrder_clamp]
    rintro ⟨b, deadline, le⟩
    exact absurd (ahead b deadline) (Nat.not_lt.mpr le)

end

/-- Settles O42, by what is read from the payload and then by the owner's answers in their order. -/
theorem placeOrderAdmits : Obligations.PlaceOrderAdmits := by
  intro s tag p asks
  rw [exec_placeOrder, State.taking_request asks rfl ownPlaceOrder]
  refine ⟨fun empty => ?_, fun unknown => ?_, fun sent known length => ?_, fun known length => ⟨fun wrong => ?_, ?_⟩⟩
  · rw [ownPlaceOrder_badForm s (readOrder_empty empty)]
    rfl
  · rw [ownPlaceOrder_badForm s (readOrder_badMask unknown)]
    rfl
  · rw [ownPlaceOrder_badForm s (readOrder_badLength sent known length)]
    rfl
  · rw [ownPlaceOrder_badForm s (readOrder_badValue ⟨known, length⟩ wrong)]
    rfl
  · intro direction group condition id directed grouped conditioned
    have h : CarriesOrder p direction group condition :=
      { known := known, length := length, id := id, group := grouped
        direction := directed.trans (by cases direction <;> rfl)
        condition := fun present => (conditioned present).trans (by cases condition <;> rfl) }
    refine ⟨fun halted => ?_, fun running full => ?_, fun running room held => ?_, fun running room new =>
      ⟨fun early => ?_, fun ordered come => ?_, fun ordered ahead => ?_⟩⟩
    · rw [ownPlaceOrder_halted h.readOrder halted]
      rfl
    · rw [ownPlaceOrder_full h.readOrder running full]
      rfl
    · rw [ownPlaceOrder_duplicate h.readOrder running room held]
      rfl
    · rw [ownPlaceOrder_inconsistent h running room new early]
      rfl
    · rw [ownPlaceOrder_tooLate h running room new ordered come]
      rfl
    · rw [ownPlaceOrder_accepts h running room new ordered ahead, sentOrder_clamp]
      rfl

end Sys2Proof.Machine
end

section
/-! Handing on keeps what the spec says always holds of the RSQ (R124, R130, R133, R140): between a move and what it hands
on, the queues, the unit and the timers already agree with the states of the rotors, and only a rotor may wait for a
resource that is free; handing on takes each such rotor off its queue. -/

namespace Sys2Proof.Machine

/-- In HALTED no rotor is moving (R140). -/
theorem RoadInv.running {s : State} (road : RoadInv s) {i : Slot} (moving : movingState (s.rotor i).state = true) :
    s.evt.mode ≠ .halted := fun halted => by
  rw [road.halted halted i] at moving
  cases moving

/-! ## What is left of the queues and the unit when they have been handed on -/

namespace Handed

variable {u t : State} (handed : Handed u t)
include handed

/-- A slot that has not been admitted waits on (R130). -/
theorem mem_spinUpQueue (once : u.rsq.spinUpQueue.Nodup) (j : Slot) :
    j ∈ t.rsq.spinUpQueue ↔ j ∈ u.rsq.spinUpQueue ∧ j ∉ u.admits := by
  have parts : u.admits ++ t.rsq.spinUpQueue = u.rsq.spinUpQueue := by
    rw [handed.spinUpQueue, State.admits, List.take_append_drop]
  have apart : u.admits.Disjoint t.rsq.spinUpQueue := List.disjoint_of_nodup_append (parts ▸ once)
  rw [← parts, List.mem_append]
  exact ⟨fun waits => ⟨.inr waits, fun admitted => apart admitted waits⟩, fun ⟨either, out⟩ => either.resolve_left out⟩

/-- A slot that has not been handed the unit waits on (R133). -/
theorem mem_syncQueue (once : u.rsq.syncQueue.Nodup) (j : Slot) :
    j ∈ t.rsq.syncQueue ↔ j ∈ u.rsq.syncQueue ∧ u.handsUnitTo ≠ some j := by
  rw [handed.syncQueue, State.handsUnitTo]
  split
  · cases queue : u.rsq.syncQueue with
    | nil => simp
    | cons i rest =>
      obtain ⟨out, -⟩ := List.nodup_cons.mp (queue ▸ once)
      simp only [List.tail_cons, List.mem_cons, List.head?_cons, ne_eq, Option.some.injEq]
      constructor
      · exact fun waits => ⟨.inr waits, fun same => out (same ▸ waits)⟩
      · exact fun ⟨either, other⟩ => either.resolve_left (Ne.symm other)
  · simp

/-- The unit is with the slot that had it, or with the one that it has been handed to (R133). -/
theorem syncUnit_iff (j : Slot) :
    t.rsq.syncUnit = some j ↔ u.rsq.syncUnit = some j ∨ u.handsUnitTo = some j := by
  rw [handed.syncUnit, State.handsUnitTo]
  split
  · next free => simp [free]
  · simp

/-- A rotor waits for the unit only while another has it (R133). -/
theorem syncWaits (waits : t.rsq.syncQueue ≠ []) : t.rsq.syncUnit ≠ none := by
  rw [handed.syncQueue] at waits
  rw [handed.syncUnit]
  split at waits
  · next free =>
    rw [if_pos free]
    cases queue : u.rsq.syncQueue with
    | nil => rw [queue] at waits; exact absurd rfl waits
    | cons => nofun
  · next busy => rwa [if_neg busy]

end Handed

namespace Moved

variable {s u : State} {i : Slot} {tripped : Bool}

section
variable (moved : Moved s u i tripped) (road : RoadInv s)
include moved road

/-! ## Between a move and what it hands on -/

theorem spinUpHolds (j : Slot) : j ∈ u.rsq.spinUpQueue ↔ (u.rotor j).state = .spinupWait := by
  rw [moved.spinUp, mem_waitingThen]
  by_cases same : j = i
  · simp [same]
  · simp [same, moved.others j same, road.spinUpHolds j]

theorem syncHolds (j : Slot) : j ∈ u.rsq.syncQueue ↔ (u.rotor j).state = .syncWait := by
  rw [moved.sync, mem_waitingThen]
  by_cases same : j = i
  · simp [same]
  · simp [same, moved.others j same, road.syncHolds j]

theorem unitHolds (j : Slot) : u.rsq.syncUnit = some j ↔ (u.rotor j).state = .syncing := by
  obtain ⟨-, -, unit, -, -⟩ := s.rsq.leave_spec i
  have left : u.rsq.syncUnit = (s.rsq.leave i).syncUnit := moved.unit
  rw [left, unit]
  by_cases same : j = i
  · simp [same, moved.settled.2]
  · simp [same, moved.others j same, road.unit j]

theorem timed (idle : timedState (u.rotor i).state = false) (j : Slot) :
    (u.rsq.timer j).isSome = timedState (u.rotor j).state := by
  rw [moved.timer]
  by_cases same : j = i
  · rw [if_pos same, same, idle]
    rfl
  · rw [if_neg same, road.timed j, moved.others j same]

theorem accelerating_le_four : u.accelerating.length ≤ 4 := by
  have before := road.four
  rw [s.accelerating_length i] at before
  rw [u.accelerating_length i, State.acceleratingBut_congr moved.others, if_neg moved.settled.1]
  omega

theorem halted_still (running : movingState (u.rotor i).state = true → s.evt.mode ≠ .halted)
    (halted : s.evt.mode = .halted) (j : Slot) : movingState (u.rotor j).state = false := by
  by_cases same : j = i
  · rw [same]
    exact Bool.eq_false_of_not_eq_true fun moving => running moving halted
  · rw [moved.others j same]
    exact road.halted halted j

/-! ## When it has been handed on -/

/-- The rotors that accelerate are those that did, and the slots admitted (R130). -/
theorem accelerating_handOn : u.handOn.accelerating.length = u.accelerating.length + u.admits.length := by
  have once (v : State) : v.accelerating.Nodup := (List.nodup_finRange 16).filter _
  have admitsOnce : u.admits.Nodup := (moved.ready road).once.sublist (List.take_sublist _ _)
  have apart : ∀ j ∈ u.accelerating, j ∉ u.admits := fun j accelerates admitted => by
    have waits := moved.admits_state road admitted
    rw [(u.mem_accelerating j).mp accelerates] at waits
    cases waits
  have both : (u.accelerating ++ u.admits).Nodup := (once u).append admitsOnce apart
  have same : u.handOn.accelerating.Perm (u.accelerating ++ u.admits) := by
    refine (List.perm_ext_iff_of_nodup (once _) both).mpr fun j => ?_
    rw [List.mem_append, State.mem_accelerating, State.mem_accelerating, moved.state_handOn road]
    split
    · next admitted => simp [admitted]
    · next out =>
      split
      · next next => simp [out, moved.handsUnitTo_state road next]
      · simp [out]
  rw [same.length_eq, List.length_append]

theorem spinUpHolds_handOn (j : Slot) :
    j ∈ u.handOn.rsq.spinUpQueue ↔ (u.handOn.rotor j).state = .spinupWait := by
  rw [(moved.handed road).mem_spinUpQueue (moved.ready road).once, moved.spinUpHolds road, moved.state_handOn road]
  split
  · next admitted => simp [admitted]
  · next out =>
    split
    · next next => simp [moved.handsUnitTo_state road next]
    · simp [out]

theorem syncHolds_handOn (j : Slot) :
    j ∈ u.handOn.rsq.syncQueue ↔ (u.handOn.rotor j).state = .syncWait := by
  have once : u.rsq.syncQueue.Nodup := moved.sync ▸ nodup_waitingThen road.syncOnce i _
  rw [(moved.handed road).mem_syncQueue once, moved.syncHolds road, moved.state_handOn road]
  split
  · next admitted => simp [moved.admits_state road admitted]
  · split
    · next next => simp [next]
    · next other => simp [other]

theorem unitHolds_handOn (j : Slot) : u.handOn.rsq.syncUnit = some j ↔ (u.handOn.rotor j).state = .syncing := by
  rw [(moved.handed road).syncUnit_iff, moved.unitHolds road, moved.state_handOn road]
  split
  · next admitted =>
    have out : u.handsUnitTo ≠ some j := fun next => (moved.ready road).not_admitted next admitted
    simp [moved.admits_state road admitted, out]
  · split
    · next next => simp [next]
    · next other => simp [other]

theorem timed_handOn (idle : timedState (u.rotor i).state = false) (j : Slot) :
    (u.handOn.rsq.timer j).isSome = timedState (u.handOn.rotor j).state := by
  have handed := moved.handed road
  rw [moved.state_handOn road]
  split
  · next admitted => rw [(handed.admitted j admitted).2]; rfl
  · next out =>
    split
    · next next => rw [(handed.unit j next).2]; rfl
    · next other => rw [(handed.kept j out other).2, moved.timed road idle]

theorem spinUpWaits_handOn (waits : u.handOn.rsq.spinUpQueue ≠ []) : u.handOn.accelerating.length = 4 := by
  have atMost := moved.accelerating_le_four road
  rw [(moved.handed road).spinUpQueue, ne_eq, List.drop_eq_nil_iff, Nat.not_le] at waits
  rw [moved.accelerating_handOn road, State.admits, List.length_take]
  omega

/-- A slot that is handed something was on its way already, so in HALTED nothing is handed on (R140). -/
theorem halted_still_handOn (running : movingState (u.rotor i).state = true → s.evt.mode ≠ .halted)
    (halted : s.evt.mode = .halted) (j : Slot) : movingState (u.handOn.rotor j).state = false := by
  have still := moved.halted_still road running halted j
  rw [moved.state_handOn road]
  split
  · next admitted => rw [moved.admits_state road admitted] at still; cases still
  · split
    · next next => rw [moved.handsUnitTo_state road next] at still; cases still
    · exact still

/-- A move, with what it hands on, keeps what the spec says always holds of the RSQ. -/
theorem roadInv (idle : timedState (u.rotor i).state = false)
    (running : movingState (u.rotor i).state = true → s.evt.mode ≠ .halted) : RoadInv u.handOn where
  spinUpOnce := by
    rw [(moved.handed road).spinUpQueue]
    exact (moved.ready road).once.sublist (List.drop_sublist _ _)
  spinUpHolds := moved.spinUpHolds_handOn road
  syncOnce := by
    have once : u.rsq.syncQueue.Nodup := moved.sync ▸ nodup_waitingThen road.syncOnce i _
    rw [(moved.handed road).syncQueue]
    split
    · exact once.sublist (List.tail_sublist _)
    · exact once
  syncHolds := moved.syncHolds_handOn road
  unit := moved.unitHolds_handOn road
  four := by
    have atMost := moved.accelerating_le_four road
    rw [moved.accelerating_handOn road, State.admits, List.length_take]
    omega
  timed := moved.timed_handOn road idle
  spinUpWaits := moved.spinUpWaits_handOn road
  syncWaits := (moved.handed road).syncWaits
  halted := fun halted => by
    have evt : u.handOn.evt = s.evt := by
      obtain ⟨-, -, evt, -⟩ := (moved.moveFrame road).blocks
      exact evt
    exact moved.halted_still_handOn road running (evt ▸ halted)

end

end Moved

end Sys2Proof.Machine
end

section
/-! What the spec says always holds of the RSQ (`RoadInv`) through the lifecycle moves. An operation that leaves the states
of the rotors, the queues, the unit and the timers keeps it (`LifecycleFrame`); a slot that is on no queue and has neither
a spin-up slot nor the unit may change to another such state (`RoadInv.changeBeside`); every other move takes its slot
off the road, or to the tail of a queue, and hands on (`Moved.roadInv`). -/

namespace Sys2Proof.Machine

/-! ## What leaves the lifecycle as it is -/

/-- From s to t every rotor keeps its state and the RSQ all but its ROTOR CHANGE set, and the bank does not become
HALTED. -/
structure LifecycleFrame (s t : State) : Prop where
  states : ∀ i, (t.rotor i).state = (s.rotor i).state
  rsq : t.rsq = { s.rsq with changed := t.rsq.changed }
  mode : t.evt.mode = .halted → s.evt.mode = .halted

namespace LifecycleFrame

theorem refl (s : State) : LifecycleFrame s s := ⟨fun _ => rfl, rfl, id⟩

theorem trans {s t u : State} (h : LifecycleFrame s t) (k : LifecycleFrame t u) : LifecycleFrame s u :=
  ⟨fun i => (k.states i).trans (h.states i), by rw [k.rsq, h.rsq], h.mode ∘ k.mode⟩

theorem ite {c : Prop} [Decidable c] {s t u : State} (ht : LifecycleFrame s t) (hu : LifecycleFrame s u) :
    LifecycleFrame s (if c then t else u) := by
  split
  · exact ht
  · exact hu

theorem answer_ite {c : Prop} [Decidable c] {s : State} {a b : Answer} (ha : LifecycleFrame s a.state)
    (hb : LifecycleFrame s b.state) : LifecycleFrame s (if c then a else b).state := by
  split
  · exact ha
  · exact hb

/-- An operation that touches neither the records nor the RSQ, and the mode not but to leave HALTED. -/
theorem of_eq {s t : State} (rotors : t.rotors = s.rotors) (rsq : t.rsq = s.rsq)
    (mode : t.evt.mode = .halted → s.evt.mode = .halted) : LifecycleFrame s t :=
  ⟨fun i => by rw [State.rotor_congr rotors], by rw [rsq], mode⟩

theorem roadInv {s t : State} (frame : LifecycleFrame s t) (road : RoadInv s) : RoadInv t := by
  obtain ⟨states, rsq, mode⟩ := frame
  have accelerating : t.accelerating = s.accelerating := List.filter_congr fun i _ => by rw [states]
  have timer (i : Slot) : t.rsq.timer i = s.rsq.timer i := by rw [rsq]; rfl
  refine ⟨?_, fun i => ?_, ?_, fun i => ?_, fun i => ?_, ?_, fun i => ?_, ?_, ?_, fun halted i => ?_⟩
  · rw [rsq]; exact road.spinUpOnce
  · rw [states, rsq]; exact road.spinUpHolds i
  · rw [rsq]; exact road.syncOnce
  · rw [states, rsq]; exact road.syncHolds i
  · rw [states, rsq]; exact road.unit i
  · rw [accelerating]; exact road.four
  · rw [timer, states]; exact road.timed i
  · rw [accelerating, rsq]; exact road.spinUpWaits
  · rw [rsq]; exact road.syncWaits
  · rw [states]; exact road.halted (mode halted) i

end LifecycleFrame

theorem State.advance_lifecycleFrame (s : State) (dt : Nat) : LifecycleFrame s (s.advance dt) := .of_eq rfl rfl id
theorem State.withFmu_lifecycleFrame (s : State) (x : Fmu) : LifecycleFrame s (s.withFmu x) := .of_eq rfl rfl id
theorem State.withDse_lifecycleFrame (s : State) (x : Dse) : LifecycleFrame s (s.withDse x) := .of_eq rfl rfl id
theorem State.withRbi_lifecycleFrame (s : State) (x : Rbi) : LifecycleFrame s (s.withRbi x) := .of_eq rfl rfl id
theorem State.withOrl_lifecycleFrame (s : State) (x : Orl) : LifecycleFrame s (s.withOrl x) := .of_eq rfl rfl id
theorem State.withLif_lifecycleFrame (s : State) (x : Lif) : LifecycleFrame s (s.withLif x) := .of_eq rfl rfl id
theorem State.withStu_lifecycleFrame (s : State) (x : Stu) : LifecycleFrame s (s.withStu x) := .of_eq rfl rfl id
theorem State.raise_lifecycleFrame (s : State) (f : SummaryFlag) : LifecycleFrame s (s.raise f) :=
  s.withStu_lifecycleFrame _

theorem State.advanceTo_lifecycleFrame (s : State) (t : Tick) : LifecycleFrame s (s.advanceTo t) :=
  .of_eq (by simp) (by simp) (by simp)

theorem State.reviseOrders_lifecycleFrame (s : State) (f : Order → Order) : LifecycleFrame s (s.reviseOrders f) :=
  .of_eq (by simp) (by simp) (by simp)

theorem State.noteRotor_lifecycleFrame (s : State) (i : Slot) : LifecycleFrame s (s.noteRotor i) :=
  ⟨fun j => by rw [State.rotor_congr (State.noteRotor_rotors s i)], by rw [State.noteRotor_rsq], by simp⟩

/-- A record rewritten, its state as before. -/
theorem State.rewrite_lifecycleFrame (s : State) {i : Slot} {r : RotorRecord} (state : r.state = (s.rotor i).state) :
    LifecycleFrame s (s.setRotor i r) := by
  refine ⟨fun j => ?_, rfl, id⟩
  rw [State.rotor_setRotor]
  split
  · next same => rw [state, same]
  · rfl

/-! ## A slot beside the road -/

/-- A rotor that does not move has no resource of the RSQ (R124, R130, R133, R140). -/
theorem offRoad_of_still {st : RotorState} (still : movingState st = false) :
    onTheRoad st = false ∧ timedState st = false := by
  cases st
  case offline | probing | parked | tripped => exact ⟨rfl, rfl⟩
  all_goals cases still

namespace RoadInv

variable {s : State} (road : RoadInv s) {i : Slot}
include road

theorem waits_nowhere (off : onTheRoad (s.rotor i).state = false) :
    i ∉ s.rsq.spinUpQueue ∧ i ∉ s.rsq.syncQueue ∧ s.rsq.syncUnit ≠ some i := by
  refine ⟨fun waits => ?_, fun waits => ?_, fun own => ?_⟩
  · rw [(road.spinUpHolds i).mp waits] at off; cases off
  · rw [(road.syncHolds i).mp waits] at off; cases off
  · rw [(road.unit i).mp own] at off; cases off

theorem stopped (untimed : timedState (s.rotor i).state = false) : s.rsq.timer i = none := by
  have timed := road.timed i
  rw [untimed] at timed
  exact Option.isNone_iff_eq_none.mp (Option.isSome_eq_false_iff.mp timed)

/-- A slot in a state that names no resource is off the road. -/
theorem offRoad (off : onTheRoad (s.rotor i).state = false) (untimed : timedState (s.rotor i).state = false) :
    Machine.offRoad s i := by
  obtain ⟨notSpinUp, notSync, notUnit⟩ := road.waits_nowhere off
  exact ⟨notSpinUp, notSync, notUnit, road.stopped untimed⟩

theorem leave_eq_self (off : onTheRoad (s.rotor i).state = false) (untimed : timedState (s.rotor i).state = false) :
    s.rsq.leave i = s.rsq := by
  obtain ⟨notSpinUp, notSync, notUnit, stopped⟩ := road.offRoad off untimed
  exact Rsq.leave_eq_self notSpinUp notSync notUnit stopped

/-- A slot that has no resource changes to another state that names none, with its timer set as that state asks. -/
theorem changeBeside (before : onTheRoad (s.rotor i).state = false) {r : RotorRecord}
    (after_ : onTheRoad r.state = false) {timer : Option Tick} (timed : timer.isSome = timedState r.state)
    (running : movingState r.state = true → s.evt.mode ≠ .halted) :
    RoadInv ((s.withRsq (s.rsq.setTimer i timer)).setRotor i r) := by
  have record (j : Slot) : ((s.withRsq (s.rsq.setTimer i timer)).setRotor i r).rotor j =
      if j = i then r else s.rotor j := State.rotor_setRotor _ i j r
  have holds {st : RotorState} (named : onTheRoad st = true) (j : Slot) :
      (((s.withRsq (s.rsq.setTimer i timer)).setRotor i r).rotor j).state = st ↔ (s.rotor j).state = st := by
    rw [record]
    split
    · next same =>
      rw [same]
      refine iff_of_false (fun state => ?_) (fun state => ?_)
      · rw [state, named] at after_; cases after_
      · rw [state, named] at before; cases before
    · rfl
  have accelerating : ((s.withRsq (s.rsq.setTimer i timer)).setRotor i r).accelerating = s.accelerating :=
    List.filter_congr fun j _ => Bool.eq_iff_iff.mpr (by simpa using holds (st := .accelerating) rfl j)
  refine ⟨road.spinUpOnce, fun j => ?_, road.syncOnce, fun j => ?_, fun j => ?_, ?_, fun j => ?_, fun waits => ?_,
    road.syncWaits, fun halted j => ?_⟩
  · rw [holds rfl]; exact road.spinUpHolds j
  · rw [holds rfl]; exact road.syncHolds j
  · rw [holds rfl]; exact road.unit j
  · rw [accelerating]; exact road.four
  · have ran : ((s.withRsq (s.rsq.setTimer i timer)).setRotor i r).rsq.timer j =
        if j = i then timer else s.rsq.timer j := Rsq.timer_setTimer s.rsq i j timer
    rw [record, ran]
    split
    · exact timed
    · exact road.timed j
  · rw [accelerating]; exact road.spinUpWaits waits
  · rw [record]
    split
    · exact Bool.eq_false_of_not_eq_true fun moving => running moving halted
    · exact road.halted halted j

/-- Such a change of a rotor that does not move before it or after it. -/
theorem setStill (before : movingState (s.rotor i).state = false) {r : RotorRecord}
    (after_ : movingState r.state = false) : RoadInv (s.setRotor i r) := by
  obtain ⟨off, untimed⟩ := offRoad_of_still before
  obtain ⟨off', untimed'⟩ := offRoad_of_still after_
  have kept : s.rsq.setTimer i none = s.rsq := by
    rw [← road.stopped untimed]
    exact congrArg (fun timers => { s.rsq with timers := timers }) (Vector.set_getElem_self _)
  have changed := road.changeBeside off off' (timer := none) untimed'.symm fun moving => by
    rw [after_] at moving; cases moving
  rw [kept] at changed
  exact changed

end RoadInv

/-! ## Moves (R127 to R141) -/

namespace Beside

variable {s w : State} {i : Slot} (beside : Beside s w i) (rsq : w.rsq = s.rsq)
include beside rsq

/-- A slot that leaves the road, its record rewritten, for a state that names no queue. -/
theorem leaves (r : RotorRecord) {st : RotorState} (cause : Option RotorCause)
    (off : onTheRoad st = false) :
    Moved s (((w.leaveRoad i).setRotor i r).changeRotor i st cause) i false := by
  have differs {st' : RotorState} (on : onTheRoad st' = true) : st ≠ st' := fun same => by
    rw [same, on] at off; cases off
  exact ((beside.withRsq _).setRotor r).movedOff cause ⟨differs rfl, differs rfl⟩ ⟨differs rfl, differs rfl⟩
    (congrArg (Rsq.leave · i) rsq)

/-- A slot that joins the tail of the spin-up queue (R130). -/
theorem joinsSpinUp : Moved s
    (((w.leaveRoad i).withRsq { (w.leaveRoad i).rsq with
      spinUpQueue := (w.leaveRoad i).rsq.spinUpQueue ++ [i] }).changeRotor i .spinupWait none) i false := by
  refine ((beside.withRsq _).withRsq _).moved none ⟨nofun, nofun⟩ ?_
  simp [State.leaveRoad, rsq, waitingThen, Rsq.leave]

/-- A slot that joins the tail of the sync queue (R132). -/
theorem joinsSync : Moved s
    (((w.leaveRoad i).withRsq { (w.leaveRoad i).rsq with
      syncQueue := (w.leaveRoad i).rsq.syncQueue ++ [i] }).changeRotor i .syncWait none) i false := by
  refine ((beside.withRsq _).withRsq _).moved none ⟨nofun, nofun⟩ ?_
  simp [State.leaveRoad, rsq, waitingThen, Rsq.leave]

end Beside

theorem State.changeRotor_state (s : State) (i : Slot) (st : RotorState) (cause : Option RotorCause) :
    ((s.changeRotor i st cause).rotor i).state = st := by
  rw [State.rotor_changeRotor, if_pos rfl]

namespace RoadInv

variable {s : State} (road : RoadInv s) {i : Slot}
include road

/-- What every move off the road has in common. -/
theorem leavesRoad (r : RotorRecord) {st : RotorState} (cause : Option RotorCause) (off : onTheRoad st = false)
    (untimed : timedState st = false) (running : movingState st = true → s.evt.mode ≠ .halted) :
    RoadInv (((s.leaveRoad i).setRotor i r).changeRotor i st cause).handOn := by
  have moved := (Beside.refl s i).leaves rfl r cause off
  have state := State.changeRotor_state ((s.leaveRoad i).setRotor i r) i st cause
  exact moved.roadInv road (by rw [state]; exact untimed) (by rw [state]; exact running)

/-- A record rewritten, its state as before. -/
theorem rewrite {r : RotorRecord} (state : r.state = (s.rotor i).state) : RoadInv (s.setRotor i r) :=
  (s.rewrite_lifecycleFrame state).roadInv road

theorem settle (cause : Option RotorCause) : RoadInv (s.settle i cause) :=
  road.leavesRoad _ cause rfl rfl nofun

theorem locked (running : s.evt.mode ≠ .halted) :
    RoadInv (((s.leaveRoad i).setAttempts i 0).changeRotor i .online none).handOn :=
  road.leavesRoad _ none rfl rfl fun _ => running

theorem brake (running : s.evt.mode ≠ .halted) (cause : RotorCause) : RoadInv (s.brake i cause) :=
  road.leavesRoad _ (some cause) rfl rfl fun _ => running

theorem trip (cause : RotorCause) : RoadInv (s.trip i cause) := by
  have moved := ((Beside.refl s i).leaves rfl ((s.leaveRoad i).rotor i).zeroed (st := .tripped) (some cause) rfl).raised
  have state : ((s.tripOnly i cause).rotor i).state = .tripped := by rw [State.rotor_tripOnly, if_pos rfl]; rfl
  exact Moved.roadInv (u := s.tripOnly i cause) moved road (by rw [state]; rfl) (by rw [state]; nofun)

theorem tripFault (code : FaultCode) : RoadInv (s.tripFault i code) := by
  have latched : RoadInv (s.setRotor i { s.rotor i with latched := code }) := road.rewrite rfl
  exact latched.trip .fault

theorem joinSpinUp (running : s.evt.mode ≠ .halted) : RoadInv (s.joinSpinUp i) :=
  ((Beside.refl s i).joinsSpinUp rfl).roadInv road (by rw [State.changeRotor_state]; rfl) fun _ => running

theorem joinSync (running : s.evt.mode ≠ .halted) : RoadInv (s.joinSync i) :=
  ((Beside.refl s i).joinsSync rfl).roadInv road (by rw [State.changeRotor_state]; rfl) fun _ => running

theorem changeStill (before : movingState (s.rotor i).state = false) {st : RotorState}
    (after_ : movingState st = false) (cause : Option RotorCause) : RoadInv (s.changeRotor i st cause) :=
  (State.noteRotor_lifecycleFrame _ i).roadInv (road.setStill before after_)

/-! ## Replies and late polls (R122, R123, R126, R127) -/

theorem probeReply (probing : (s.rotor i).state = .probing) : RoadInv (s.probeReply i) := by
  simp only [State.probeReply]
  split
  · exact road.tripFault _
  · split
    · exact road.changeStill (by rw [probing]; rfl) rfl none
    · split
      · exact road.trip .stop
      · next running =>
        split
        · exact road.joinSync running
        · exact road.joinSpinUp running

theorem progress : RoadInv (s.progress i) := by
  have running {st : RotorState} (state : (s.rotor i).state = st) (moving : movingState st = true) :
      s.evt.mode ≠ .halted := road.running (state ▸ moving)
  simp only [State.progress]
  split
  case h_4 state => split; exacts [road.joinSpinUp (running state rfl), road]
  case h_6 state => split; exacts [road.joinSync (running state rfl), road]
  case h_7 state => split; exacts [road.joinSpinUp (running state rfl), road]
  case h_8 state => split; exacts [road.locked (running state rfl), road]
  case h_10 => split; exacts [road.settle none, road]
  all_goals exact road

theorem replyTests : RoadInv (s.replyTests i) := by
  simp only [State.replyTests]
  split
  · exact road.tripFault _
  · split
    · exact road.trip .moduleRestart
    · exact road.progress

theorem sequenceReply : RoadInv (s.sequenceReply i) := by
  unfold State.sequenceReply
  split
  case h_1 => exact road
  case h_2 probing => exact road.probeReply probing
  case h_11 => exact road
  all_goals exact road.replyTests

/-- A late poll that is counted and does not move the rotor yet (R154). -/
theorem countLate : RoadInv (s.setRotor i (s.rotor i).countLate) := road.rewrite rfl

theorem lateTrip : RoadInv (s.lateTrip i) := by
  simp only [State.lateTrip]
  split
  · exact RoadInv.trip road.countLate .lost
  · exact road.countLate

/-- A PROBING slot has left the road before it is emptied (R126). -/
theorem probeFailed (probing : (s.rotor i).state = .probing) : RoadInv (s.probeFailed i) := by
  have still : movingState (s.rotor i).state = false := by rw [probing]; rfl
  obtain ⟨off, untimed⟩ := offRoad_of_still still
  have left : s.leaveRoad i = s := congrArg s.withRsq (road.leave_eq_self off untimed)
  rw [State.probeFailed, left]
  exact (State.noteRotor_lifecycleFrame _ i).roadInv (road.setStill still rfl)

theorem rewriteLost : RoadInv (s.rewriteLost i) := by
  unfold State.rewriteLost
  split
  · exact road
  · exact (State.noteRotor_lifecycleFrame _ i).roadInv (road.rewrite rfl)

theorem sequenceLate : RoadInv (s.sequenceLate i) := by
  unfold State.sequenceLate
  split
  case h_1 => exact road
  case h_2 probing => exact road.probeFailed probing
  case h_3 =>
    dsimp only
    split
    · exact RoadInv.rewriteLost road.countLate
    · exact road.countLate
  all_goals exact road.lateTrip

end RoadInv

end Sys2Proof.Machine
end

section
/-! What the spec says always holds of the RSQ, through everything else that an arrival can do: the rounds and polls of the
rotor bus, the rotor timers, the link, resets, the stop line, samples, the requests. -/

namespace Sys2Proof.Machine

/-! ## The rotor bus (chapter 08) -/

theorem State.endRound_lifecycleFrame (s : State) : LifecycleFrame s s.endRound := .of_eq (by simp) (by simp) (by simp)

theorem State.continueRound_lifecycleFrame (s : State) : LifecycleFrame s s.continueRound :=
  .of_eq (by simp) (by simp) (by simp)

/-- A turn sends a poll, or passes a slot over (R149). -/
theorem State.pollNext_lifecycleFrame (s : State) : LifecycleFrame s s.pollNext := by
  have sent (b : Rbi) (i : Slot) (c : PollCommand) (v : Int) : LifecycleFrame s ((s.withRbi b).sendPoll i c v) :=
    .of_eq rfl rfl id
  unfold State.pollNext
  split
  · unfold State.takeTurn
    split
    · exact .ite (.ite (sent _ _ _ _) (.refl s))
        ((s.withRbi_lifecycleFrame _).trans (State.continueRound_lifecycleFrame _))
    · exact .ite (sent _ _ _ _) (.refl s)
    · exact s.endRound_lifecycleFrame
  · exact .refl s

namespace RoadInv

variable {s : State} (road : RoadInv s)
include road

/-- The end of a poll, whatever follows it, and the round that goes on (R153, R154, R156). -/
theorem afterPoll {abandoned : Bool} {f : State → State} (act : ∀ u, RoadInv u → RoadInv (f u)) :
    RoadInv (State.continueRound
      (if abandoned then s.withRbi { s.rbi with inFlight := none }
        else f (s.withRbi { s.rbi with inFlight := none }))) := by
  have ended := (s.withRbi_lifecycleFrame { s.rbi with inFlight := none }).roadInv road
  refine (State.continueRound_lifecycleFrame _).roadInv ?_
  split
  · exact ended
  · exact act _ ended

theorem busFrame (frame : List Byte) : RoadInv (s.busFrame frame) := by
  unfold State.busFrame
  split
  · next p m _ _ =>
    split
    · refine road.afterPoll (f := fun u => u.deliver p m) fun u hu => ?_
      have reported : RoadInv (u.setRotor p.slot
          (((u.rotor p.slot).takeReport m).takeAck m.flags.limitsAck p.offered)) :=
        hu.rewrite (RotorRecord.takeAck_state _ _ _)
      exact reported.sequenceReply
    · exact road
  · exact road

theorem busBytes (bytes : List Byte) : RoadInv (s.busBytes bytes) := by
  have holding (l : List Byte) := (s.withRbi_lifecycleFrame { s.rbi with assembly := l }).roadInv road
  obtain ⟨-, held⟩ | ⟨-, -, held⟩ | ⟨frame, -, -, held⟩ := s.busBytes_cases bytes <;> rw [held]
  · exact holding _
  · exact holding _
  · exact (holding _).busFrame frame

theorem windowCloses : RoadInv s.windowCloses := by
  unfold State.windowCloses
  split
  · exact road
  · next p _ =>
    exact ((s.advanceTo_lifecycleFrame _).roadInv road).afterPoll (f := fun u => u.sequenceLate p.slot) fun u hu =>
      hu.sequenceLate

/-! ## The rotor timers (R124) -/

/-- A timer belongs to the states of a moving rotor, so none expires in HALTED (R124, R140). -/
theorem timerExpires {i : Slot} {st : RotorState} {act : State → State} (moving : movingState st = true)
    (kept : ∀ u, RoadInv u → u.evt.mode ≠ .halted → RoadInv (act u)) : RoadInv (s.timerExpires i st act) := by
  unfold State.timerExpires
  split
  · exact road
  · next t _ =>
    split
    · next state =>
      have later := (s.advanceTo_lifecycleFrame t).roadInv road
      refine kept _ later (later.running (i := i) ?_)
      rw [State.rotor_congr (State.advanceTo_rotors s t), state]
      exact moving
    · exact road

theorem syncFails {i : Slot} (running : s.evt.mode ≠ .halted) : RoadInv (s.syncFails i) := by
  unfold State.syncFails
  split
  · exact road.joinSync running
  · exact road.brake running .syncFail

end RoadInv

/-! ## The Link Interface (chapter 09) -/

theorem State.formReply_lifecycleFrame (s : State) (r : Request) (code : ResultCode) (body : List Byte) :
    LifecycleFrame s (s.formReply r code body) := s.withLif_lifecycleFrame _

theorem State.abandonFrame_lifecycleFrame (s : State) : LifecycleFrame s s.abandonFrame :=
  (s.withLif_lifecycleFrame _).trans (State.raise_lifecycleFrame _ _)

theorem State.checkRequest_lifecycleFrame (s : State) (r : Request) : LifecycleFrame s (s.checkRequest r) := by
  unfold State.checkRequest
  split
  · exact s.formReply_lifecycleFrame r _ _
  · split
    · exact .refl s
    · exact .ite (.refl s) (s.formReply_lifecycleFrame r _ _)

theorem State.checkFrame_lifecycleFrame (s : State) (frame : List Byte) : LifecycleFrame s (s.checkFrame frame) := by
  have offered (s : State) (r : Request) : LifecycleFrame s (s.offerRequest r) := by
    unfold State.offerRequest
    split
    · exact (s.withLif_lifecycleFrame _).trans (State.raise_lifecycleFrame _ _)
    · exact (s.withLif_lifecycleFrame _).trans (State.checkRequest_lifecycleFrame _ r)
  exact (s.withLif_lifecycleFrame _).trans (.ite (offered _ _) (State.abandonFrame_lifecycleFrame _))

theorem State.completeFrame_lifecycleFrame (s : State) : LifecycleFrame s s.completeFrame := by
  unfold State.completeFrame
  split
  · exact .refl s
  · exact .refl s
  · exact s.checkFrame_lifecycleFrame _

theorem State.gapExpires_lifecycleFrame (s : State) : LifecycleFrame s s.gapExpires := by
  unfold State.gapExpires
  split
  · exact .refl s
  · exact (s.advanceTo_lifecycleFrame _).trans <|
      (State.withLif_lifecycleFrame _ _).trans (State.raise_lifecycleFrame _ _)

theorem State.takeByte_lifecycleFrame (s : State) (b : Byte) (broken : Bool) :
    LifecycleFrame s (s.takeByte b broken) := by
  have hunted (s : State) : LifecycleFrame s (s.huntByte b broken) := .ite (s.withLif_lifecycleFrame _) (.refl s)
  have joined (bytes : List Byte) : LifecycleFrame s (s.joinByte bytes b) :=
    .ite (s.withLif_lifecycleFrame _) <| .ite s.abandonFrame_lifecycleFrame <|
      .ite (s.withLif_lifecycleFrame _) (s.withLif_lifecycleFrame _)
  unfold State.takeByte
  split
  · exact hunted s
  · exact .ite s.abandonFrame_lifecycleFrame (joined _)
  · exact (s.checkFrame_lifecycleFrame _).trans (hunted _)

theorem State.beginReply_lifecycleFrame (s : State) : LifecycleFrame s s.beginReply := by
  unfold State.beginReply
  split
  · exact s.withLif_lifecycleFrame _
  · exact .refl s

/-- A notice that is begun empties its own change set (R172). -/
theorem State.beginNotice_lifecycleFrame (s : State) (k : NoticeKind) : LifecycleFrame s (s.beginNotice k) := by
  have emptied : LifecycleFrame s (s.emptyChangeSet k) := by cases k <;> exact ⟨fun _ => rfl, rfl, id⟩
  exact .ite (emptied.trans (State.withLif_lifecycleFrame _ _)) (.refl s)

theorem State.endNotice_lifecycleFrame (s : State) : LifecycleFrame s s.endNotice := by
  unfold State.endNotice
  split
  · exact .ite (.refl s) (s.withLif_lifecycleFrame _)
  · exact .refl s

/-! ## Resets, the stop line and samples (R6, R52, R53, R140, R184) -/

/-- With nothing waiting, the unit free, every timer stopped and no rotor moving there is nothing to agree on. -/
theorem roadInv_of_still {s : State} (still : ∀ i, movingState (s.rotor i).state = false)
    (queues : s.rsq.spinUpQueue = [] ∧ s.rsq.syncQueue = [] ∧ s.rsq.syncUnit = none)
    (stopped : ∀ i, s.rsq.timer i = none) : RoadInv s := by
  obtain ⟨spinUp, sync, unit⟩ := queues
  have differs {st : RotorState} (moving : movingState st = true) (i : Slot) : (s.rotor i).state ≠ st := fun state => by
    have quiet := still i
    rw [state, moving] at quiet
    cases quiet
  have nobody : s.accelerating = [] := List.eq_nil_iff_forall_not_mem.mpr fun i accelerates =>
    differs rfl i ((s.mem_accelerating i).mp accelerates)
  refine ⟨?_, fun i => ?_, ?_, fun i => ?_, fun i => ?_, ?_, fun i => ?_, fun waits => absurd spinUp waits,
    fun waits => absurd sync waits, fun _ => still⟩
  · rw [spinUp]; exact List.nodup_nil
  · rw [spinUp]; exact iff_of_false List.not_mem_nil (differs rfl i)
  · rw [sync]; exact List.nodup_nil
  · rw [sync]; exact iff_of_false List.not_mem_nil (differs rfl i)
  · rw [unit]; exact iff_of_false nofun (differs rfl i)
  · rw [nobody]; exact Nat.zero_le 4
  · rw [stopped, (offRoad_of_still (still i)).2]; rfl

theorem State.takeReset_roadInv (s : State) (cause : ResetCause) (t : Tick) (line : StopLevel) :
    RoadInv (s.takeReset cause t line) := by
  have after_ := s.takeReset_afterReset cause t line
  refine roadInv_of_still (fun i => ?_) after_.rsqQueues after_.rsqTimers
  rw [(after_.rotorStates i).1]
  rfl

namespace RoadInv

variable {s : State} (road : RoadInv s)
include road

theorem endReply (line : StopLevel) : RoadInv (s.endReply line) := by
  unfold State.endReply
  split
  · split
    · split
      · exact s.takeReset_roadInv _ _ line
      · exact (s.withLif_lifecycleFrame _).roadInv road
    · exact road
  · exact road

/-- A stop assertion trips every rotor that moves, and leaves the road empty (R140). -/
theorem assertStop : RoadInv s.assertStop := by
  have trips := s.assertStop_stopTaken.trips
  refine roadInv_of_still (fun i => ?_) (trips.road_empty road) fun i => ?_ <;>
    by_cases moving : movingState (s.rotor i).state = true
  · rw [trips.record i moving]; rfl
  · rw [(trips.kept i moving).1]; exact Bool.eq_false_of_not_eq_true moving
  · obtain ⟨-, -, -, stopped⟩ := trips.road i moving
    exact stopped
  · have still := Bool.eq_false_of_not_eq_true moving
    rw [(trips.kept i moving).2]
    exact road.stopped (offRoad_of_still still).2

end RoadInv

theorem State.releaseStop_lifecycleFrame (s : State) : LifecycleFrame s s.releaseStop := by
  rw [State.releaseStop_eq]
  exact .of_eq rfl rfl nofun

/-- The handling of a sample brings no bank to HALTED (R42 to R51). -/
theorem Monitored.mode_of_halted {s t : State} (monitored : Monitored s t) (halted : t.evt.mode = .halted) :
    s.evt.mode = .halted := by
  cases monitored with
  | followed follows calm =>
    obtain ⟨memory, recovery, change, -, rfl⟩ := follows
    exact halted
  | opened mode =>
    rw [State.openEvent_evt] at halted
    cases halted
  | ended follows mode cause_ne =>
    rw [State.endEvent_evt] at halted
    exact absurd ((modeAfter_cases _ _).2.mp halted) cause_ne

theorem State.passage_lifecycleFrame (s : State) (t : Tick) (valid : Bool) : LifecycleFrame s (s.passage t valid) := by
  have rsq : (s.passage t valid).rsq = s.rsq := (s.passage_sampleFrame t valid).rsq.trans (by simp [State.measure])
  refine ⟨s.passage_rotor_state t valid, by rw [rsq], fun halted => ?_⟩
  rw [State.passage_evt] at halted
  have before := (State.monitor_monitored _ _).mode_of_halted halted
  rwa [State.measure_evt] at before

theorem State.edge_lifecycleFrame (s : State) : LifecycleFrame s s.edge := by
  cases last : s.fmu.lastEdge with
  | none => rw [State.edge_first last]; exact s.withFmu_lifecycleFrame _
  | some last' =>
    rw [State.edge_next last]
    exact (s.withFmu_lifecycleFrame _).trans (State.passage_lifecycleFrame _ _ _)

theorem State.missingEdge_lifecycleFrame (s : State) : LifecycleFrame s s.missingEdge :=
  (s.advanceTo_lifecycleFrame _).trans <| (State.withFmu_lifecycleFrame _ _).trans (State.passage_lifecycleFrame _ _ _)

end Sys2Proof.Machine
end

section
/-! Every command keeps what the spec says always holds of the RSQ: the requests, and then every command. This settles
O52. -/

namespace Sys2Proof.Machine

/-! ## The owners of the requests (chapters 02, 03, 09, 10) -/

/-- SET MODE chooses among the host's modes (R35). -/
theorem ownSetMode_lifecycleFrame (s : State) (p : List Byte) : LifecycleFrame s (ownSetMode s p).state := by
  have chosen (m : HostMode) : LifecycleFrame s (s.withEvt { s.evt with mode := modeOfHost m }) :=
    .of_eq rfl rfl fun halted => absurd halted (modeOfHost_ne m).2
  unfold ownSetMode
  split
  · exact .refl s
  · split
    case h_4 => exact .of_eq rfl rfl id
    case h_5 => exact .refl s
    all_goals exact chosen _

theorem ownSetMeasurement_lifecycleFrame (s : State) (p : List Byte) :
    LifecycleFrame s (ownSetMeasurement s p).state := by
  have set (nom : Nominal) (n w : Nat) : LifecycleFrame s (s.setMeasurement nom n w) :=
    .of_eq (by simp [State.setMeasurement]) (by simp [State.setMeasurement]) (by simp [State.setMeasurement])
  unfold ownSetMeasurement
  refine .answer_ite (.refl s) ?_
  split
  · exact .refl s
  · exact set _ _ _

theorem ownSetEvent_lifecycleFrame (s : State) (p : List Byte) : LifecycleFrame s (ownSetEvent s p).state := by
  unfold ownSetEvent
  split
  · exact .refl s
  · exact .of_eq rfl rfl id

theorem ownSetBankLimits_lifecycleFrame (s : State) (p : List Byte) : LifecycleFrame s (ownSetBankLimits s p).state :=
  .answer_ite (.refl s) (s.withDse_lifecycleFrame _)

theorem ownSetCurve_lifecycleFrame (s : State) (p : List Byte) : LifecycleFrame s (ownSetCurve s p).state :=
  .answer_ite (.refl s) (.answer_ite (.refl s) (s.withDse_lifecycleFrame _))

/-- SET NOTICES writes no part of the RSQ but its change set (R173). -/
theorem ownSetNotices_lifecycleFrame (s : State) (p : List Byte) : LifecycleFrame s (ownSetNotices s p).state := by
  unfold ownSetNotices
  split
  · exact .refl s
  · exact ⟨fun _ => rfl, rfl, id⟩

theorem ownRestart_lifecycleFrame (s : State) (p : List Byte) : LifecycleFrame s (ownRestart s p).state :=
  .answer_ite (.refl s) (.answer_ite (.refl s) (s.withStu_lifecycleFrame _))

theorem ownSnapshotPart0_lifecycleFrame (s : State) (p : List Byte) :
    LifecycleFrame s (ownSnapshotPart0 s p).state := .answer_ite (s.withStu_lifecycleFrame _) (.refl s)

theorem ownSnapshotPart1_lifecycleFrame (s : State) (p : List Byte) :
    LifecycleFrame s (ownSnapshotPart1 s p).state := by
  unfold ownSnapshotPart1
  split
  · exact .refl s
  · exact s.withStu_lifecycleFrame _

/-! ## The owners of the requests (chapter 06) -/

theorem ownPlaceOrder_lifecycleFrame (s : State) (p : List Byte) : LifecycleFrame s (ownPlaceOrder s p).state := by
  unfold ownPlaceOrder
  split
  · exact .refl s
  · exact .answer_ite (.refl s) <| .answer_ite (.refl s) <| .answer_ite (.refl s) <| .answer_ite (.refl s) <|
      .answer_ite (.refl s) (s.withOrl_lifecycleFrame _)

theorem ownCancelOrder_lifecycleFrame (s : State) (p : List Byte) : LifecycleFrame s (ownCancelOrder s p).state := by
  refine .answer_ite (.refl s) ?_
  split
  · exact .refl s
  · exact .answer_ite (.refl s) (s.reviseOrders_lifecycleFrame _)

theorem ownResumeOrder_lifecycleFrame (s : State) (p : List Byte) : LifecycleFrame s (ownResumeOrder s p).state := by
  refine .answer_ite (.refl s) ?_
  split
  · exact .refl s
  · split
    case h_1 => exact s.reviseOrders_lifecycleFrame _
    all_goals exact .refl s

theorem ownOrderStatus_lifecycleFrame (s : State) (p : List Byte) : LifecycleFrame s (ownOrderStatus s p).state := by
  refine .answer_ite (.refl s) ?_
  split <;> exact .refl s

theorem afterOrderStatus_lifecycleFrame (s : State) (p : List Byte) : LifecycleFrame s (afterOrderStatus s p) := by
  have retired (id : Nat) : LifecycleFrame s (s.retireOrder id) :=
    .ite ((s.withOrl_lifecycleFrame _).trans (State.withLif_lifecycleFrame _ _)) (s.withOrl_lifecycleFrame _)
  unfold afterOrderStatus
  split
  · exact .refl s
  · exact .ite (retired _) (.refl s)

/-! ## The owners of the requests (chapters 04 and 07) -/

theorem ownSetRotorLimits_lifecycleFrame (s : State) (p : List Byte) :
    LifecycleFrame s (ownSetRotorLimits s p).state := by
  unfold ownSetRotorLimits
  split
  · exact .refl s
  · exact .answer_ite (.refl s) (s.rewrite_lifecycleFrame rfl)

theorem ownSetRotorRole_lifecycleFrame (s : State) (p : List Byte) :
    LifecycleFrame s (ownSetRotorRole s p).state := by
  unfold ownSetRotorRole
  split
  · exact .refl s
  · refine .answer_ite (.refl s) ?_
    split
    · exact s.rewrite_lifecycleFrame rfl
    · exact .refl s

theorem ownRotorStatus_lifecycleFrame (s : State) (p : List Byte) : LifecycleFrame s (ownRotorStatus s p).state := by
  unfold ownRotorStatus
  split
  · exact .refl s
  · exact .answer_ite (.refl s) (.refl s)

theorem afterRotorStatus_lifecycleFrame (s : State) (p : List Byte) : LifecycleFrame s (afterRotorStatus s p) := by
  unfold afterRotorStatus
  split
  · exact .refl s
  · exact .ite (s.rewrite_lifecycleFrame rfl) (.refl s)

namespace RoadInv

variable {s : State} (road : RoadInv s) (p : List Byte)
include road

/-- An OFFLINE slot becomes PROBING (R125). -/
theorem ownEnrol : RoadInv (ownEnrol s p).state := by
  have enrolled {i : Slot} (offline : (s.rotor i).state = .offline) (group : Fin 4) (roles : Roles)
      (e : EnrolLimits) : RoadInv (s.enrol i (enrolledRecord group roles e)) := by
    have probing : RoadInv (s.setRotor i (enrolledRecord group roles e)) :=
      road.setStill (by rw [offline]; rfl) rfl
    exact ((State.noteRotor_lifecycleFrame _ i).trans (State.withRbi_lifecycleFrame _ _)).roadInv probing
  unfold Machine.ownEnrol
  split
  · exact road
  · split
    · exact road
    · split
      · exact road
      · next offline =>
        split
        · dsimp only
          split
          · exact road
          · exact enrolled (not_not.mp offline) _ _ _
        · exact road

/-- A PARKED or TRIPPED slot becomes OFFLINE (R142). -/
theorem ownRelease : RoadInv (ownRelease s p).state := by
  have released {i : Slot} (may : mayRelease (s.rotor i) = true) : RoadInv (s.releaseSlot i) := by
    have still : movingState (s.rotor i).state = false := by
      simp only [mayRelease, Bool.or_eq_true, Bool.and_eq_true, beq_iff_eq] at may
      obtain parked | ⟨tripped, -⟩ := may
      · rw [parked]; rfl
      · rw [tripped]; rfl
    have emptied : RoadInv (s.setRotor i RotorRecord.empty) := road.setStill still rfl
    exact ((State.noteRotor_lifecycleFrame _ i).trans (State.withRbi_lifecycleFrame _ _)).roadInv emptied
  unfold Machine.ownRelease
  split
  · exact road
  · split
    · next may => exact released may
    · exact road

/-- A PARKED rotor becomes LIFTING, with its timer (R124, R128). -/
theorem ownSpinUp : RoadInv (ownSpinUp s p).state := by
  have lifted {i : Slot} (parked : (s.rotor i).state = .parked) (running : s.evt.mode ≠ .halted) :
      RoadInv (s.startLift i) := by
    have off : onTheRoad (s.rotor i).state = false := by rw [parked]; rfl
    exact (State.noteRotor_lifecycleFrame _ i).roadInv (road.changeBeside off rfl rfl fun _ => running)
  unfold Machine.ownSpinUp
  split
  · exact road
  · split
    · exact road
    · next running =>
      split
      · exact road
      · next parked => exact lifted (not_not.mp parked) running

theorem ownPark : RoadInv (ownPark s p).state := by
  have braked {i : Slot} {st : RotorState} (state : (s.rotor i).state = st) (moving : movingState st = true) :
      RoadInv (s.brake i .host) := road.brake (road.running (state ▸ moving)) .host
  unfold Machine.ownPark
  split
  · exact road
  · split
    case h_4 state => split; exacts [road.settle _, braked state rfl]
    case h_9 state => split; exacts [road, braked state rfl]
    case h_5 state | h_6 state | h_7 state | h_8 state => exact braked state rfl
    all_goals exact road

theorem ownResetFault : RoadInv (ownResetFault s p).state := by
  have reset (i : Slot) : RoadInv ((s.setRotor i { s.rotor i with latched := .none }).settle i (some .host)) := by
    have cleared : RoadInv (s.setRotor i { s.rotor i with latched := .none }) := road.rewrite rfl
    exact cleared.settle _
  unfold Machine.ownResetFault
  split
  · exact road
  · split
    · exact reset _
    · exact road

end RoadInv

/-! ## Every command -/

namespace RoadInv

section
variable {c : Instr} {s t : State} {f : State → State} {k : RequestKind} {suits : List Byte → Bool}
  {owner : State → List Byte → Answer} {after_ : State → List Byte → State} (road : RoadInv s)
include road

/-- A command keeps it when what the part does for it does. -/
theorem taking (meaning : exec c s = s.taking f) (he : exec c s = .next t) (kept : RoadInv (f s)) : RoadInv t := by
  rw [meaning] at he
  cases up : s.supply with
  | up => rw [State.taking_up up] at he; cases he; exact kept
  | down => rw [State.taking_down up] at he; cases he; exact road

theorem framed (meaning : exec c s = s.taking f) (he : exec c s = .next t) (frame : LifecycleFrame s (f s)) :
    RoadInv t := road.taking meaning he (frame.roadInv road)

/-- The taking of a request keeps it when its owner does: what follows the reply moves no rotor. -/
theorem request (meaning : exec c s = s.taking fun s => s.takeRequest k suits owner after_) (he : exec c s = .next t)
    (owned : ∀ p, RoadInv (owner s p).state) (followed : ∀ u p, LifecycleFrame u (after_ u p)) : RoadInv t := by
  refine road.taking meaning he ?_
  obtain same | ⟨r, -, -, -, -, answered⟩ := s.takeRequest_cases k suits owner after_
  · rw [same]; exact road
  · rw [answered]
    exact ((State.formReply_lifecycleFrame _ _ _ _).trans (followed _ _)).roadInv (owned r.payload)

/-- A request that nothing follows. -/
theorem plainRequest (meaning : exec c s = s.taking fun s => s.takeRequest k suits owner nothingAfter)
    (he : exec c s = .next t) (owned : ∀ p, RoadInv (owner s p).state) : RoadInv t :=
  road.request meaning he owned fun u _ => .refl u

/-- A request whose owner moves no rotor. -/
theorem keptRequest (meaning : exec c s = s.taking fun s => s.takeRequest k suits owner nothingAfter)
    (he : exec c s = .next t) (owned : ∀ p, LifecycleFrame s (owner s p).state) : RoadInv t :=
  road.plainRequest meaning he fun p => (owned p).roadInv road

end

end RoadInv

/-- Every command keeps the queues, the spin-up slots, the unit and the timers in agreement with the lifecycle states. -/
theorem exec_roadInv (c : Instr) {s t : State} (road : RoadInv s) (he : exec c s = .next t) : RoadInv t := by
  have advanced (dt : Nat) : LifecycleFrame s (s.advance dt) := s.advance_lifecycleFrame dt
  have later (dt : Nat) : RoadInv (s.advance dt) := (advanced dt).roadInv road
  cases c with
  | zeroCrossingEdge dt =>
    exact road.framed (exec_zeroCrossingEdge dt s) he ((advanced dt).trans (State.edge_lifecycleFrame _))
  | missingEdgeTimeout => exact road.framed (exec_missingEdgeTimeout s) he s.missingEdge_lifecycleFrame
  | stopAssertion dt steady =>
    refine road.taking (exec_stopAssertion dt steady s) he ?_
    split
    · exact (later dt).assertStop
    · exact later dt
  | stopRelease dt steady =>
    exact road.framed (exec_stopRelease dt steady s) he
      (.ite ((advanced dt).trans (State.releaseStop_lifecycleFrame _)) (advanced dt))
  | powerOn line => cases he; exact s.takeReset_roadInv _ _ line
  | supplyDip line => cases he; exact s.takeReset_roadInv _ _ line
  | frameCompleted => exact road.framed (exec_frameCompleted s) he s.completeFrame_lifecycleFrame
  | gapTimerExpiry => exact road.framed (exec_gapTimerExpiry s) he s.gapExpires_lifecycleFrame
  | replySend => exact road.framed (exec_replySend s) he s.beginReply_lifecycleFrame
  | requestSlotRelease dt line => exact road.taking (exec_requestSlotRelease dt line s) he ((later dt).endReply line)
  | start => exact road.framed (exec_start s) he (s.beginNotice_lifecycleFrame _)
  | eventChange => exact road.framed (exec_eventChange s) he (s.beginNotice_lifecycleFrame _)
  | rotorChange => exact road.framed (exec_rotorChange s) he (s.beginNotice_lifecycleFrame _)
  | orderChange => exact road.framed (exec_orderChange s) he (s.beginNotice_lifecycleFrame _)
  | measurementChange => exact road.framed (exec_measurementChange s) he (s.beginNotice_lifecycleFrame _)
  | haltChange => exact road.framed (exec_haltChange s) he (s.beginNotice_lifecycleFrame _)
  | identify => exact road.keptRequest (exec_identify s) he fun _ => .refl s
  | status => exact road.keptRequest (exec_status s) he fun _ => .refl s
  | clearSummary => exact road.keptRequest (exec_clearSummary s) he fun _ => .of_eq rfl rfl id
  | setClock => exact road.keptRequest (exec_setClock s) he fun _ => s.withStu_lifecycleFrame _
  | setMode => exact road.keptRequest (exec_setMode s) he (ownSetMode_lifecycleFrame s)
  | setMeasurement => exact road.keptRequest (exec_setMeasurement s) he (ownSetMeasurement_lifecycleFrame s)
  | setEvent => exact road.keptRequest (exec_setEvent s) he (ownSetEvent_lifecycleFrame s)
  | setBankLimits => exact road.keptRequest (exec_setBankLimits s) he (ownSetBankLimits_lifecycleFrame s)
  | setCurve => exact road.keptRequest (exec_setCurve s) he (ownSetCurve_lifecycleFrame s)
  | readCurve => exact road.keptRequest (exec_readCurve s) he fun _ => .refl s
  | readEvents => exact road.keptRequest (exec_readEvents s) he fun _ => .refl s
  | setNotices => exact road.keptRequest (exec_setNotices s) he (ownSetNotices_lifecycleFrame s)
  | restart => exact road.keptRequest (exec_restart s) he (ownRestart_lifecycleFrame s)
  | snapshotPart0 => exact road.keptRequest (exec_snapshotPart0 s) he (ownSnapshotPart0_lifecycleFrame s)
  | snapshotPart1 => exact road.keptRequest (exec_snapshotPart1 s) he (ownSnapshotPart1_lifecycleFrame s)
  | enrol => exact road.plainRequest (exec_enrol s) he road.ownEnrol
  | release => exact road.plainRequest (exec_release s) he road.ownRelease
  | spinUp => exact road.plainRequest (exec_spinUp s) he road.ownSpinUp
  | park => exact road.plainRequest (exec_park s) he road.ownPark
  | resetFault => exact road.plainRequest (exec_resetFault s) he road.ownResetFault
  | setRotorLimits => exact road.keptRequest (exec_setRotorLimits s) he (ownSetRotorLimits_lifecycleFrame s)
  | setRotorRole => exact road.keptRequest (exec_setRotorRole s) he (ownSetRotorRole_lifecycleFrame s)
  | rotorStatus =>
    exact road.request (exec_rotorStatus s) he (fun p => (ownRotorStatus_lifecycleFrame s p).roadInv road)
      afterRotorStatus_lifecycleFrame
  | placeOrder => exact road.keptRequest (exec_placeOrder s) he (ownPlaceOrder_lifecycleFrame s)
  | cancelOrder => exact road.keptRequest (exec_cancelOrder s) he (ownCancelOrder_lifecycleFrame s)
  | resumeOrder => exact road.keptRequest (exec_resumeOrder s) he (ownResumeOrder_lifecycleFrame s)
  | orderStatus =>
    exact road.request (exec_orderStatus s) he (fun p => (ownOrderStatus_lifecycleFrame s p).roadInv road)
      afterOrderStatus_lifecycleFrame
  | listOrders => exact road.keptRequest (exec_listOrders s) he fun _ => .refl s
  | poll dt => exact road.framed (exec_poll dt s) he ((advanced dt).trans (State.pollNext_lifecycleFrame _))
  | moduleReply dt bytes => exact road.taking (exec_moduleReply dt bytes s) he ((later dt).busBytes bytes)
  | replyWindowClose => exact road.taking (exec_replyWindowClose s) he road.windowCloses
  | liftTimerExpiry i =>
    exact road.taking (exec_liftTimerExpiry i s) he <|
      road.timerExpires rfl fun _ hu _ => hu.trip .liftTimeout
  | spinupTimerExpiry i =>
    exact road.taking (exec_spinupTimerExpiry i s) he <|
      road.timerExpires rfl fun _ hu running => hu.brake running .spinupTimeout
  | syncTimerExpiry i =>
    exact road.taking (exec_syncTimerExpiry i s) he <|
      road.timerExpires rfl fun _ hu running => hu.syncFails running
  | linkByteReceived dt byte broken =>
    exact road.framed (exec_linkByteReceived dt byte broken s) he
      ((advanced dt).trans (State.takeByte_lifecycleFrame _ byte broken))
  | noticeFrameEnd dt =>
    exact road.framed (exec_noticeFrameEnd dt s) he ((advanced dt).trans (State.endNotice_lifecycleFrame _))
  | supplyFall dt => exact road.framed (exec_supplyFall dt s) he (.of_eq rfl rfl id)

/-- Settles O52: the idle step changes nothing, the queue of commands is no part of the RSQ, and every command keeps the
invariant. -/
theorem stepKeepsRoadInv : Obligations.StepKeepsRoadInv := fun s t road stepped => by
  cases waiting : s.pending with
  | nil => simp only [step, waiting] at stepped; cases stepped; exact road
  | cons c rest =>
    simp only [step, waiting] at stepped
    exact exec_roadInv c (road.withPending rest) stepped

end Sys2Proof.Machine
end

section
/-! The requests that move one rotor beside the road: RELEASE (R142, R144, R158), O37; SPIN UP (R124, R128) and RESET FAULT
(R141), O38. Each writes one record and notes the change (`RecordNoted`); RESET FAULT also lets go of what the rotor has
and hands it on, which for a rotor that does not move is nothing. -/

namespace Sys2Proof.Machine

/-! ## One record written, and noted (R144) -/

/-- From s to u the record of slot i has been written as given and its change noted, and nothing else has been touched. -/
structure RecordNoted (s u : State) (i : Slot) (r : RotorRecord) : Prop where
  frame : u = { s with rotors := u.rotors, rsq := { s.rsq with changed := u.rsq.changed }, lif := u.lif }
  noted : rotorNoted s u i
  others : ∀ j, j ≠ i → u.rotor j = s.rotor j
  record : u.rotor i = r

theorem State.setRotor_noteRotor (s : State) (i : Slot) (r : RotorRecord) :
    RecordNoted s ((s.setRotor i r).noteRotor i) i r := by
  have rotor (j : Slot) : ((s.setRotor i r).noteRotor i).rotor j = if j = i then r else s.rotor j :=
    (State.rotor_congr (State.noteRotor_rotors _ i) j).trans (s.rotor_setRotor i j r)
  refine ⟨?_, ⟨congrArg Rsq.changed (State.noteRotor_rsq (s.setRotor i r) i), State.noteRotor_lif (s.setRotor i r) i⟩,
    fun j other => by rw [rotor, if_neg other], by rw [rotor, if_pos rfl]⟩
  simp only [State.noteRotor, State.addNotice_eq]
  split <;> rfl

theorem State.changeRotor_recordNoted (s : State) (i : Slot) (st : RotorState) (cause : RotorCause) :
    RecordNoted s (s.changeRotor i st (some cause)) i { s.rotor i with state := st, cause := some cause } :=
  s.setRotor_noteRotor i _

/-- What the record was rewritten to first makes no difference. -/
theorem RecordNoted.of_setRotor {s u : State} {i : Slot} {r before : RotorRecord}
    (written : RecordNoted (s.setRotor i before) u i r) : RecordNoted s u i r :=
  ⟨written.frame, written.noted, fun j other =>
    (written.others j other).trans (State.rotor_setRotor_ne s other before), written.record⟩

/-! ## RELEASE (R142, R158) -/

theorem mayRelease_iff (r : RotorRecord) :
    mayRelease r = true ↔ r.state = .parked ∨ (r.state = .tripped ∧ r.cause = some .lost) := by
  simp only [mayRelease, Bool.or_eq_true, Bool.and_eq_true, beq_iff_eq]

section
variable {s : State} {p : List Byte} {i : Slot}

theorem ownRelease_badSlot (unnamed : namesNoSlot p) : ownRelease s p = refuse s .badValue := by
  simp only [ownRelease, slotOfCode_of_namesNoSlot unnamed]

theorem ownRelease_named (named : namesSlot p i) :
    ownRelease s p =
      if mayRelease (s.rotor i) = true then accept (s.releaseSlot i) false else refuse s .wrongState := by
  simp only [ownRelease, slotOfCode_of_namesSlot named]

end

theorem State.releaseSlot_eq (s : State) (i : Slot) :
    s.releaseSlot i = ((s.setRotor i RotorRecord.empty).noteRotor i).withRbi (s.rbi.abandonPollTo i) := by
  simp [State.releaseSlot]

/-- Settles O37: RELEASE writes the empty record and abandons the poll. -/
theorem releaseEmptiesSlot : Obligations.ReleaseEmptiesSlot := by
  intro s tag p i asks accepted
  rw [exec_release, State.taking_request asks rfl ownRelease]
  refine ⟨fun unnamed => ?_, fun named refused => ?_, fun named may => ?_⟩
  · rw [ownRelease_badSlot unnamed]
    rfl
  · rw [ownRelease_named named, if_neg (mt (mayRelease_iff _).mp refused)]
    rfl
  · obtain ⟨frame, noted, others, record⟩ := s.setRotor_noteRotor i RotorRecord.empty
    rw [ownRelease_named named, if_pos ((mayRelease_iff _).mpr may), State.releaseSlot_eq]
    refine ⟨_, rfl, ?_, noted, others, record, fun idle => ?_, fun poll flight => ?_⟩
    · exact congrArg (State.withRbi · (s.rbi.abandonPollTo i)) frame
    · exact congrArg (Option.map _) idle
    · exact congrArg (Option.map _) flight

/-! ## SPIN UP (R124, R128) -/

section
variable {s : State} {p : List Byte} {i : Slot}

theorem ownSpinUp_badSlot (unnamed : namesNoSlot p) : ownSpinUp s p = refuse s .badValue := by
  simp only [ownSpinUp, slotOfCode_of_namesNoSlot unnamed]

variable (named : namesSlot p i)
include named

theorem ownSpinUp_halted (halted : s.evt.mode = .halted) : ownSpinUp s p = refuse s .halted := by
  simp only [ownSpinUp, slotOfCode_of_namesSlot named, if_pos halted]

theorem ownSpinUp_wrongState (running : s.evt.mode ≠ .halted) (state : (s.rotor i).state ≠ .parked) :
    ownSpinUp s p = refuse s .wrongState := by
  simp only [ownSpinUp, slotOfCode_of_namesSlot named, if_neg running, if_pos state]

theorem ownSpinUp_accepts (running : s.evt.mode ≠ .halted) (parked : (s.rotor i).state = .parked) :
    ownSpinUp s p = accept (s.startLift i) false := by
  simp only [ownSpinUp, slotOfCode_of_namesSlot named, if_neg running, if_neg (not_not.mpr parked)]

end

/-- A lift starts with its timer (R124, R128). -/
theorem State.startLift_lifts (s : State) (i : Slot) :
    let u := s.startLift i
    u = { s with
        rotors := u.rotors, rsq := { s.rsq with timers := u.rsq.timers, changed := u.rsq.changed }, lif := u.lif } ∧
      rotorNoted s u i ∧ (∀ j, j ≠ i → u.rotor j = s.rotor j ∧ u.rsq.timer j = s.rsq.timer j) ∧
      u.rotor i = { s.rotor i with state := .lifting, cause := some .host } ∧
      u.rsq.timer i = some (s.tickCount + 50000000#64) := by
  intro u
  obtain ⟨frame, noted, others, record⟩ := State.changeRotor_recordNoted
    (s.withRsq (s.rsq.setTimer i (some (tickAfter s.tickCount liftTicks)))) i .lifting .host
  have timers : u.rsq.timers = (s.rsq.setTimer i (some (tickAfter s.tickCount liftTicks))).timers :=
    congrArg (fun v : State => v.rsq.timers) frame
  have timer (j : Slot) : u.rsq.timer j = if j = i then some (s.tickCount + 50000000#64) else s.rsq.timer j := by
    rw [Rsq.timer, timers]
    exact Rsq.timer_setTimer s.rsq i j _
  refine ⟨frame.trans ?_, noted, fun j other => ⟨others j other, by rw [timer, if_neg other]⟩, record,
    by rw [timer, if_pos rfl]⟩
  rw [timers]
  rfl

/-! ## RESET FAULT (R141) -/

theorem mayReset_iff (r : RotorRecord) :
    mayReset r = true ↔
      r.state = .tripped ∧ r.flags.atRest = true ∧ r.faultCode = .none ∧ r.lateCount = 0 := by
  simp only [mayReset, Bool.and_eq_true, beq_iff_eq, and_assoc]

section
variable {s : State} {p : List Byte} {i : Slot}

theorem ownResetFault_badSlot (unnamed : namesNoSlot p) : ownResetFault s p = refuse s .badValue := by
  simp only [ownResetFault, slotOfCode_of_namesNoSlot unnamed]

theorem ownResetFault_named (named : namesSlot p i) :
    ownResetFault s p =
      if mayReset (s.rotor i) = true then
        accept ((s.setRotor i { s.rotor i with latched := .none }).settle i (some .host)) false
      else refuse s .wrongState := by
  simp only [ownResetFault, slotOfCode_of_namesSlot named]

end

/-- A slot that had no resource and joins no queue leaves nothing to hand on: no rotor waits for what is free (R130,
R133). -/
theorem Moved.handOn_eq_self {s u : State} {i : Slot} {tripped : Bool} (moved : Moved s u i tripped) (road : RoadInv s)
    (before : onTheRoad (s.rotor i).state = false) (after_ : onTheRoad (u.rotor i).state = false) : u.handOn = u := by
  have waited {st : RotorState} (on : onTheRoad st = true) {j : Slot} (state : (u.rotor j).state = st) :
      (s.rotor j).state = st := by
    by_cases same : j = i
    · rw [same] at state
      rw [state, on] at after_
      cases after_
    · rw [← moved.others j same, state]
  obtain ⟨-, -, notUnit⟩ := road.waits_nowhere before
  refine State.handOn_eq_self (fun waits => ?_) (fun waits => ?_) <;>
    obtain ⟨j, listed⟩ := List.exists_mem_of_ne_nil _ waits
  · have waiting := waited rfl ((moved.spinUpHolds road j).mp listed)
    have full := road.spinUpWaits (List.ne_nil_of_mem ((road.spinUpHolds j).mpr waiting))
    have idle : (s.rotor i).state ≠ .accelerating := fun state => by rw [state] at before; cases before
    rw [s.accelerating_length i, if_neg idle] at full
    rw [u.accelerating_length i, State.acceleratingBut_congr moved.others, if_neg moved.settled.1]
    exact full
  · have waiting := waited rfl ((moved.syncHolds road j).mp listed)
    rw [moved.unit, if_neg notUnit]
    exact road.syncWaits (List.ne_nil_of_mem ((road.syncHolds j).mpr waiting))

/-- A rotor that does not move has nothing to let go of, and nothing is handed on when it settles (R141). -/
theorem State.settle_still {s : State} (road : RoadInv s) {i : Slot} (still : movingState (s.rotor i).state = false)
    (cause : Option RotorCause) : s.settle i cause = (s.setAttempts i 0).changeRotor i .parked cause := by
  obtain ⟨off, untimed⟩ := offRoad_of_still still
  have left : s.leaveRoad i = s := congrArg s.withRsq (road.leave_eq_self off untimed)
  have moved := (Beside.refl s i).leaves rfl { s.rotor i with attempts := 0 } (st := .parked) cause rfl
  rw [left] at moved
  have parked := State.changeRotor_state (s.setRotor i { s.rotor i with attempts := 0 }) i .parked cause
  rw [State.settle, left]
  exact moved.handOn_eq_self road off (by rw [parked]; rfl)

/-- Settles O38: SPIN UP by `startLift_lifts`, RESET FAULT by `settle_still`. -/
theorem spinUpAndResetFault : Obligations.SpinUpAndResetFault := by
  refine ⟨fun s tag p i asks => ?_, fun s tag p i asks => ?_⟩
  · rw [exec_spinUp, State.taking_request asks rfl ownSpinUp]
    refine ⟨fun unnamed => ?_, fun named halted => ?_, fun named running state => ?_, fun named running parked => ?_⟩
    · rw [ownSpinUp_badSlot unnamed]
      rfl
    · rw [ownSpinUp_halted named halted]
      rfl
    · rw [ownSpinUp_wrongState named running state]
      rfl
    · rw [ownSpinUp_accepts named running parked]
      exact ⟨_, rfl, s.startLift_lifts i⟩
  · rw [exec_resetFault, State.taking_request asks rfl ownResetFault]
    refine ⟨fun unnamed => ?_, fun named refused => ?_, fun named may road => ?_⟩
    · rw [ownResetFault_badSlot unnamed]
      rfl
    · rw [ownResetFault_named named, if_neg (mt (mayReset_iff _).mp refused)]
      rfl
    · have cleared : RoadInv (s.setRotor i { s.rotor i with latched := .none }) := road.rewrite rfl
      have still : movingState ((s.setRotor i { s.rotor i with latched := .none }).rotor i).state = false := by
        rw [State.rotor_setRotor_self, may.1]
        rfl
      rw [ownResetFault_named named, if_pos ((mayReset_iff _).mpr may), State.settle_still cleared still]
      obtain ⟨frame, noted, others, record⟩ :=
        (State.changeRotor_recordNoted _ i .parked .host).of_setRotor.of_setRotor
      refine ⟨_, rfl, frame, noted, others, record.trans ?_⟩
      rw [State.rotor_setRotor_self, State.rotor_setRotor_self]

end Sys2Proof.Machine
end

section
/-! The expiries of the rotor timers (R124, R129 to R131, R133, R134, R139, R144): O49. The lift timer trips, the spin-up
timer brakes, the sync timer brakes after the third attempt; before that it sends the rotor back to the tail of the sync
queue, which is handed the unit that it has just freed. -/

namespace Sys2Proof.Machine

theorem State.advanceTo_eq (s : State) (t : Tick) :
    s.advanceTo t = s.withTick (if (t - s.tickCount).toNat < 2 ^ 63 then t else s.tickCount) := by
  have ahead : notBefore t s.tickCount = decide ((t - s.tickCount).toNat < 2 ^ 63) := rfl
  rw [State.advanceTo, ahead]
  by_cases before : (t - s.tickCount).toNat < 2 ^ 63
  · rw [if_pos (decide_eq_true before), if_pos before]
  · rw [if_neg (by simpa using before), if_neg before]
    rfl

theorem Beside.withTick {s w : State} {i : Slot} (beside : Beside s w i) (t : Tick) : Beside s (w.withTick t) i :=
  ⟨beside.blocks, beside.lif, beside.stu, beside.others⟩

/-! ## Back to the sync queue (R133, R134) -/

/-- The record of a SYNCING rotor that goes back to the sync queue: handed the unit again if no other waits for it. -/
def rejoinsSync (s : State) (r : RotorRecord) : RotorRecord :=
  if s.rsq.syncQueue = [] then { r with attempts := r.attempts + 1 } else { r with state := .syncWait }

theorem rejoinsSync_ne_tripped (s : State) {r : RotorRecord} (syncing : r.state = .syncing) :
    (rejoinsSync s r).state ≠ .tripped := by
  unfold rejoinsSync
  split
  · rw [syncing]; nofun
  · nofun

/-- Moved to the sync queue from the unit, the slot is handed the unit again if it is alone there, and otherwise waits as
the last, since the head has been handed the unit (R133). -/
theorem Moved.rejoinsSync {s u : State} {i : Slot} {tripped : Bool} (moved : Moved s u i tripped) (road : RoadInv s)
    {r : RotorRecord} (record : u.rotor i = { r with state := .syncWait }) (syncing : r.state = .syncing)
    (before : (s.rotor i).state = .syncing) :
    u.handOn.rotor i = Machine.rejoinsSync s r ∧ standsWhereItShould s u.handOn i u.tickCount := by
  have handed := moved.handed road
  have state : (u.rotor i).state = .syncWait := by rw [record]
  have free : u.rsq.syncUnit = none := by rw [moved.unit, if_pos ((road.unit i).mpr before)]
  have apart : i ∉ s.rsq.syncQueue := fun waits => by rw [(road.syncHolds i).mp waits] at before; cases before
  have queue : u.rsq.syncQueue = s.rsq.syncQueue ++ [i] := by
    rw [moved.sync, state, waitingThen,
      List.filter_eq_self.mpr fun j mem => bne_iff_ne.mpr (ne_of_mem_of_not_mem mem apart)]
    rfl
  have next : u.handsUnitTo = (s.rsq.syncQueue ++ [i]).head? := by rw [State.handsUnitTo, if_pos free, queue]
  unfold Machine.rejoinsSync standsWhereItShould
  cases waiting : s.rsq.syncQueue with
  | nil =>
    rw [waiting] at next queue
    obtain ⟨taken, timer⟩ := handed.unit i next
    rw [if_pos rfl, taken, timer, record, handed.syncUnit, if_pos free, queue]
    exact ⟨by rw [← syncing], rfl, rfl⟩
  | cons k rest =>
    rw [waiting] at next queue apart
    have out : i ∉ u.admits := fun mem => by
      rw [moved.admits_state road mem] at state
      cases state
    have notNext : u.handsUnitTo ≠ some i := fun own => by
      rw [next] at own
      exact apart (Option.some.inj own ▸ List.mem_cons_self)
    obtain ⟨kept, timer⟩ := handed.kept i out notNext
    rw [if_neg (List.cons_ne_nil k rest), kept, record, timer, moved.timer, if_pos rfl, handed.syncQueue, if_pos free,
      queue]
    exact ⟨rfl, List.getLast?_concat, rfl⟩

section
variable {s w : State} {i : Slot} (road : RoadInv s) (beside : Beside s w i) (rsq : w.rsq = s.rsq)
  (same : w.rotor i = s.rotor i) (syncing : (s.rotor i).state = .syncing)
include road beside rsq same syncing

theorem State.joinSync_rejoins : MovesTo s w (w.joinSync i) i (rejoinsSync s (s.rotor i)) := by
  have moved := beside.joinsSync rsq
  have record : (((w.leaveRoad i).withRsq { (w.leaveRoad i).rsq with
      syncQueue := (w.leaveRoad i).rsq.syncQueue ++ [i] }).changeRotor i .syncWait none).rotor i =
        { s.rotor i with state := .syncWait } := by
    rw [State.rotor_changeRotor, if_pos rfl, ← same]; rfl
  obtain ⟨joined, stands⟩ := moved.rejoinsSync road record syncing syncing
  exact moved.movesTo_onTheRoad road joined stands (rejoinsSync_ne_tripped s syncing) (by simp) (by simp)

/-- A failed attempt: the third brakes the rotor, any before it sends the rotor back to the sync queue (R134). -/
theorem State.syncFails_movesTo (atMost : (s.rotor i).attempts ≤ 3) :
    MovesTo s w (w.syncFails i) i
      (if (s.rotor i).attempts = 3 then { s.rotor i with state := .decelerating, cause := some .syncFail }
      else rejoinsSync s (s.rotor i)) := by
  unfold State.syncFails
  rw [same, maxAttempts]
  by_cases third : (s.rotor i).attempts = 3
  · have offline : (w.rotor i).state ≠ .online := by rw [same, syncing]; nofun
    have move := State.brake_movesTo road beside rsq .syncFail
    rw [if_neg offline, same] at move
    rw [if_neg (by omega), if_pos third]
    exact move
  · rw [if_pos (by omega), if_neg third]
    exact State.joinSync_rejoins road beside rsq same syncing

end

/-! ## The expiries -/

/-- A stopped timer does not expire, nor does one in a state that it does not belong to (R124). -/
theorem State.timerExpires_idle {s : State} {i : Slot} {st : RotorState} (act : State → State)
    (idle : s.rsq.timer i = none ∨ (s.rotor i).state ≠ st) : s.timerExpires i st act = s := by
  unfold State.timerExpires
  split
  · rfl
  · next running =>
    obtain stopped | other := idle
    · rw [stopped] at running; cases running
    · exact if_neg other

theorem State.timerExpires_acts {s : State} {i : Slot} {st : RotorState} {e : Tick} (act : State → State)
    (running : s.rsq.timer i = some e) (state : (s.rotor i).state = st) :
    s.timerExpires i st act = act (s.advanceTo e) := by
  simp only [State.timerExpires, running, if_pos state]

/-- Settles O49: each expiry is a move from the state at the tick of the expiry. -/
theorem rotorTimersExpire : Obligations.RotorTimersExpire := by
  intro s i up st
  rw [exec_liftTimerExpiry, exec_spinupTimerExpiry, exec_syncTimerExpiry, State.taking_up up, State.taking_up up,
    State.taking_up up]
  refine ⟨fun stopped => ?_, fun other => ?_, fun other => ?_, fun other => ?_, fun e running road table => ?_⟩
  · simp only [State.timerExpires_idle _ (.inl stopped), and_self]
  · rw [State.timerExpires_idle _ (.inr other)]
  · rw [State.timerExpires_idle _ (.inr other)]
  · rw [State.timerExpires_idle _ (.inr other)]
  intro now
  have beside : Beside s (s.withTick now) i := (Beside.refl s i).withTick now
  refine ⟨fun lifting => ?_, fun accelerating => ?_, fun syncing => ?_⟩
  · have move := State.trip_movesTo road beside rfl .liftTimeout
    rw [State.timerExpires_acts _ running lifting, State.advanceTo_eq]
    exact ⟨_, rfl, move.tickCount, move.rbi, move.frame, move.offRoad rfl, move.record⟩
  · have move := State.brake_movesTo road beside rfl .spinupTimeout
    have offline : ((s.withTick now).rotor i).state ≠ .online := fun online => by
      rw [show st = .online from online] at accelerating; cases accelerating
    rw [if_neg offline] at move
    rw [State.timerExpires_acts _ running accelerating, State.advanceTo_eq]
    exact ⟨_, rfl, move.tickCount, move.rbi, move.frame, move.offRoad rfl, move.record⟩
  · have move := State.syncFails_movesTo road beside rfl rfl syncing (table i).attempts
    rw [State.timerExpires_acts _ running syncing, State.advanceTo_eq]
    refine ⟨_, rfl, move.tickCount, move.rbi, ?_, move.stands, move.record⟩
    have untripped : ((if (s.rotor i).attempts = 3 then { s.rotor i with state := .decelerating, cause := some .syncFail }
        else rejoinsSync s (s.rotor i)).state == .tripped) = false := by
      split
      · rfl
      · exact beq_eq_false_iff_ne.mpr (rejoinsSync_ne_tripped s syncing)
    exact untripped ▸ move.frame

end Sys2Proof.Machine
end

section
/-! REPLY_WINDOW_CLOSE (R123, R126, R154 to R156, R158): O48. What the RSQ makes of a late poll is a record rewritten, or a
move off the road (`LateActs`); the round then goes on. -/

namespace Sys2Proof.Machine

/-! ## The record after a late poll (R123, R126, R154) -/

section
variable {r : RotorRecord}

theorem afterLate_offline (offline : r.state = .offline) : afterLate r = r := if_pos offline

theorem afterLate_probing (probing : r.state = .probing) :
    afterLate r = { RotorRecord.empty with cause := some .noModule, probeNoModule := true } := by
  rw [afterLate, if_neg (probing ▸ nofun), if_pos probing]

variable (enrolled : r.state ≠ .offline) (probed : r.state ≠ .probing)
include enrolled probed

theorem afterLate_counted (below : r.countLate.lateCount ≠ lateLimit) : afterLate r = r.countLate := by
  have fewer : min 3 (r.lateCount + 1) < 3 := lt_of_le_of_ne (Nat.min_le_left _ _) below
  rw [afterLate, if_neg enrolled, if_neg probed, if_pos fewer]
  rfl

/-- The third late poll (R123). -/
theorem afterLate_third (third : r.countLate.lateCount = lateLimit) :
    afterLate r =
      if r.state = .tripped then { r.countLate with cause := some .lost }
      else trippedRecord r.countLate .lost r.countLate.latched := by
  have limit : ¬ min 3 (r.lateCount + 1) < 3 := (Nat.lt_irrefl 3 <| · |> third.symm.trans_lt)
  rw [afterLate, if_neg enrolled, if_neg probed, if_neg limit]
  rfl

end

/-! ## What the RSQ makes of a late poll -/

/-- From s to x, by way of w, a late poll has moved slot i off the road, with what that frees handed on. -/
structure LateMove (s w x : State) (i : Slot) (after_ : RotorRecord) : Prop where
  record : x.rotor i = after_
  frame : MoveFrame s x i ((s.rotor i).state != .tripped && after_.state == .tripped)
  offRoad : offRoad x i
  tickCount : x.tickCount = w.tickCount
  rbi : x.rbi = w.rbi

/-- What the RSQ has made of w, at slot i: its record rewritten, with the state and the cause that it had in s, or a move
to another state or cause. -/
def LateActs (s w x : State) (i : Slot) (after_ : RotorRecord) : Prop :=
  (x = w.setRotor i after_ ∧ after_.state = (s.rotor i).state ∧ after_.cause = (s.rotor i).cause) ∨
    (LateMove s w x i after_ ∧ (after_.state ≠ (s.rotor i).state ∨ after_.cause ≠ (s.rotor i).cause))

theorem State.setRotor_setRotor (s : State) (i : Slot) (r r' : RotorRecord) :
    (s.setRotor i r).setRotor i r' = s.setRotor i r' :=
  congrArg (fun rotors => { s with rotors := rotors }) (Vector.set_set r i.isLt)

theorem State.setRotor_rotor (s : State) (i : Slot) : s.setRotor i (s.rotor i) = s :=
  congrArg (fun rotors => { s with rotors := rotors }) (Vector.set_getElem_self _)

theorem State.setRotor_changeRotor (s : State) (i : Slot) (r : RotorRecord) :
    (s.setRotor i r).changeRotor i r.state none = (s.setRotor i r).noteRotor i := by
  rw [State.changeRotor, State.rotor_setRotor_self, State.setRotor_setRotor]

section
variable {s w : State} {i : Slot} (road : RoadInv s) (beside : Beside s w i) (rsq : w.rsq = s.rsq)
  (same : w.rotor i = s.rotor i)
include road beside rsq

/-- A rotor that does not move before it or after it has nothing to let go of when its record is rewritten and noted. -/
theorem State.noteStill_lateMove {r : RotorRecord} (before : movingState (s.rotor i).state = false)
    (after_ : movingState r.state = false) (untripped : (s.rotor i).state = .tripped ∨ r.state ≠ .tripped) :
    LateMove s w ((w.setRotor i r).noteRotor i) i r := by
  obtain ⟨off, untimed⟩ := offRoad_of_still before
  obtain ⟨off', -⟩ := offRoad_of_still after_
  have differs {st : RotorState} (on : onTheRoad st = true) : r.state ≠ st := fun state => by
    rw [state, on] at off'; cases off'
  have moved := (beside.setRotor r).movedOff none (st := r.state) ⟨differs rfl, differs rfl⟩
    ⟨differs rfl, differs rfl⟩ (rsq.trans (road.leave_eq_self off untimed).symm)
  rw [State.setRotor_changeRotor] at moved
  have record : ((w.setRotor i r).noteRotor i).rotor i = r := (w.setRotor_noteRotor i r).record
  have settled := moved.handOn_eq_self road off (by rw [record]; exact off')
  have frame := moved.moveFrame road
  obtain ⟨-, offRoad⟩ := moved.offRoad road (by rw [record]; exact differs rfl) (by rw [record]; exact differs rfl)
  rw [settled] at frame offRoad
  have flag : ((s.rotor i).state != .tripped && r.state == .tripped) = false := by
    obtain tripped | runs := untripped
    · rw [tripped]; rfl
    · rw [beq_eq_false_iff_ne.mpr runs, Bool.and_false]
  exact ⟨record, flag ▸ frame, offRoad, by simp, by simp⟩

/-- R126. -/
theorem State.probeFailed_lateActs (probing : (s.rotor i).state = .probing) :
    LateActs s w (w.probeFailed i) i (afterLate (s.rotor i)) := by
  have still : movingState (s.rotor i).state = false := by rw [probing]; rfl
  obtain ⟨off, untimed⟩ := offRoad_of_still still
  have left : w.leaveRoad i = w := by
    rw [State.leaveRoad, rsq, road.leave_eq_self off untimed, ← rsq]
    rfl
  rw [afterLate_probing probing, State.probeFailed, left]
  exact .inr ⟨State.noteStill_lateMove road beside rsq still rfl (.inr nofun), .inl (probing ▸ nofun)⟩

include same

/-- R123, of an enrolled rotor that is neither PROBING nor TRIPPED. -/
theorem State.lateTrip_lateActs (enrolled : (s.rotor i).state ≠ .offline) (probed : (s.rotor i).state ≠ .probing)
    (runs : (s.rotor i).state ≠ .tripped) : LateActs s w (w.lateTrip i) i (afterLate (s.rotor i)) := by
  simp only [State.lateTrip, State.rotor_setRotor_self, same]
  split
  · next third =>
    have move := State.trip_movesTo road (beside.setRotor (s.rotor i).countLate) rsq .lost
    rw [State.rotor_setRotor_self] at move
    rw [afterLate_third enrolled probed third, if_neg runs]
    have flag : ((s.rotor i).state != .tripped && RotorState.tripped == .tripped) = true := by
      rw [bne_iff_ne.mpr runs]; rfl
    exact .inr ⟨⟨move.record, flag ▸ move.frame, move.offRoad rfl, move.tickCount, move.rbi⟩, .inl (Ne.symm runs)⟩
  · next below =>
    rw [afterLate_counted enrolled probed below]
    exact .inl ⟨rfl, rfl, rfl⟩

/-- R123, of a TRIPPED rotor. -/
theorem State.sequenceLate_tripped_lateActs (tripped : (s.rotor i).state = .tripped) :
    LateActs s w (w.sequenceLate i) i (afterLate (s.rotor i)) := by
  have enrolled : (s.rotor i).state ≠ .offline := tripped ▸ nofun
  have probed : (s.rotor i).state ≠ .probing := tripped ▸ nofun
  have still : movingState (s.rotor i).state = false := by rw [tripped]; rfl
  simp only [State.sequenceLate, State.rewriteLost, State.rotor_setRotor_self, same, tripped]
  split
  · next third =>
    rw [afterLate_third enrolled probed third, if_pos tripped]
    split
    · next lost =>
      have kept : { (s.rotor i).countLate with cause := some .lost } = (s.rotor i).countLate := by rw [← lost]
      rw [kept]
      exact .inl ⟨rfl, rfl, rfl⟩
    · next other =>
      rw [State.setRotor_setRotor]
      exact .inr ⟨State.noteStill_lateMove road beside rsq still still (.inl tripped), .inr (Ne.symm other)⟩
  · next below =>
    rw [afterLate_counted enrolled probed below]
    exact .inl ⟨rfl, rfl, rfl⟩

/-- The RSQ acts on a late poll as `afterLate` says (R123, R126). -/
theorem State.sequenceLate_lateActs : LateActs s w (w.sequenceLate i) i (afterLate (s.rotor i)) := by
  cases state : (s.rotor i).state
  case offline =>
    have kept : w.setRotor i (s.rotor i) = w := same ▸ w.setRotor_rotor i
    simp only [State.sequenceLate, same, state]
    rw [afterLate_offline state]
    exact .inl ⟨kept.symm, rfl, rfl⟩
  case probing =>
    simp only [State.sequenceLate, same, state]
    exact State.probeFailed_lateActs road beside rsq state
  case tripped => exact State.sequenceLate_tripped_lateActs road beside rsq same state
  all_goals
    simp only [State.sequenceLate, same, state]
    exact State.lateTrip_lateActs road beside rsq same (state ▸ nofun) (state ▸ nofun) (state ▸ nofun)

end

/-! ## The command -/

/-- The poll in flight ended, at the given tick. -/
def State.pollEnded (s : State) (now : Tick) : State := (s.withTick now).withRbi { s.rbi with inFlight := none }

theorem State.pollEnded_beside (s : State) (now : Tick) (i : Slot) : Beside s (s.pollEnded now) i :=
  ⟨⟨rfl, rfl, rfl, rfl, rfl, rfl⟩, rfl, rfl, fun _ _ => rfl⟩

/-- What the RSQ makes of a late poll, and the round that then goes on. -/
theorem State.pollEnded_outcome {s : State} (road : RoadInv s) (now : Tick) (i : Slot) :
    let before := s.rotor i
    let after_ := afterLate before
    let t := ((s.pollEnded now).sequenceLate i).continueRound
    t.tickCount = now ∧ t.rotor i = after_ ∧ t.rbi = roundGoesOn { s.rbi with inFlight := none } t.rotor ∧
      (after_.state = before.state → after_.cause = before.cause →
        t = { s with tickCount := now, rotors := setSlot s.rotors i after_, rbi := t.rbi }) ∧
      (after_.state ≠ before.state ∨ after_.cause ≠ before.cause →
        MoveFrame s t i (before.state != .tripped && after_.state == .tripped) ∧ offRoad t i) := by
  intro before after_
  have acts : LateActs s (s.pollEnded now) ((s.pollEnded now).sequenceLate i) i after_ :=
    State.sequenceLate_lateActs road (s.pollEnded_beside now i) rfl rfl
  generalize (s.pollEnded now).sequenceLate i = x at acts ⊢
  obtain ⟨rfl, state, cause⟩ | ⟨move, moves⟩ := acts
  · have going := State.continueRound_eq (s := (s.pollEnded now).setRotor i after_) rfl
    rw [going]
    exact ⟨rfl, State.rotor_setRotor_self _ _ _, rfl, fun _ _ => rfl,
      fun moves => (moves.elim (· state) (· cause)).elim⟩
  · have idle : x.rbi.inFlight = none := by rw [move.rbi]; rfl
    have going := State.continueRound_eq idle
    rw [move.rbi] at going
    rw [going]
    exact ⟨move.tickCount, move.record, rfl, fun state cause => (moves.elim (· state) (· cause)).elim, fun _ =>
      ⟨move.frame.withRbi _, move.offRoad⟩⟩

theorem State.windowCloses_idle {s : State} (idle : s.rbi.inFlight = none) : s.windowCloses = s := by
  simp only [State.windowCloses, idle]

theorem State.windowCloses_flight {s : State} {p : Poll} (flight : s.rbi.inFlight = some p) :
    let now := if (p.windowClose - s.tickCount).toNat < 2 ^ 63 then p.windowClose else s.tickCount
    s.windowCloses =
      (if p.abandoned then s.pollEnded now else (s.pollEnded now).sequenceLate p.slot).continueRound := by
  simp only [State.windowCloses, flight, State.advanceTo_eq]
  rfl

/-- Settles O48: no poll is in flight, or an abandoned one, or one that the RSQ acts on as late. -/
theorem latePollIsCounted : Obligations.LatePollIsCounted := by
  intro s up
  rw [exec_replyWindowClose, State.taking_up up]
  refine ⟨fun idle => by rw [State.windowCloses_idle idle], fun p flight => ?_⟩
  intro now
  rw [State.windowCloses_flight flight]
  refine ⟨fun abandoned => ?_, fun kept road => ?_⟩
  · rw [if_pos abandoned, State.continueRound_eq rfl]
    rfl
  · rw [if_neg (by rw [kept]; nofun)]
    obtain ⟨tick, record, rbi, stays, moves⟩ := State.pollEnded_outcome road now p.slot
    exact ⟨_, rfl, tick, record, rbi, stays, moves⟩

end Sys2Proof.Machine
end

section
/-! POLL (R146, R149 to R152, R155, R156, R199): O45. What a turn of a round is, by what it finds at the head of the round's
two parts; and the twelve bytes of a poll. -/

namespace Sys2Proof.Machine

/-! ## The commands of the slot part (R148, R150) -/

/-- A slot of the slot part is polled with the command of its state, unless it has become OFFLINE or PROBING. -/
theorem pollTable_eq (st : RotorState) : pollTable st = if polledState st then some (commandOf st) else none := by
  cases st <;> rfl

theorem commandOf_setpoint_iff (st : RotorState) : commandOf st = .setpoint ↔ st = .online := by
  cases st <;> simp [commandOf]

/-! ## A turn (R146, R149, R155, R156) -/

/-- The RBI once a poll has been sent: the slot's tag raised by 1, the poll in flight with its reply window open to the
given tick (R149, R151, R152). -/
def Rbi.sends (b : Rbi) (i : Slot) (command : PollCommand) (setpoint : Int) (offered : Option Limits)
    (windowClose : Tick) : Rbi :=
  { b with
    tags := setSlot b.tags i (b.tags[i] + 1#8)
    inFlight := some
      { slot := i
        tag := b.tags[i] + 1#8
        command := command
        setpoint := setpoint
        offered := offered
        windowClose := windowClose
        abandoned := false } }

theorem State.sendPoll_eq (s : State) (i : Slot) (command : PollCommand) (carried : Int) :
    s.sendPoll i command carried = s.withRbi (s.rbi.sends i command (if command = .setpoint then carried else 0)
      (s.rotor i).staged (s.tickCount + 4000#64)) := rfl

section
variable {s : State} {r : Round} {i : Slot} {rest : List Slot}

theorem State.pollNext_idle (idle : s.rbi.inFlight ≠ none ∨ s.rbi.round = none) : s.pollNext = s := by
  unfold State.pollNext
  split
  · next free round =>
    obtain busy | none_ := idle
    · exact absurd free busy
    · rw [round] at none_; cases none_
  · rfl

theorem State.pollNext_turn (free : s.rbi.inFlight = none) (round : s.rbi.round = some r) :
    s.pollNext = s.takeTurn r := by
  simp only [State.pollNext, free, round]

theorem Rbi.quiet_iff (b : Rbi) : b.quiet = true ↔ b.assembly = [] := List.isEmpty_iff

theorem State.takeTurn_polls (turn : r.slotPart = i :: rest) (polled : polledState (s.rotor i).state = true) :
    s.takeTurn r = s.withRbi
      (if s.rbi.assembly = [] then
        Rbi.sends { s.rbi with round := some { r with slotPart := rest } } i (commandOf (s.rotor i).state)
          (if (s.rotor i).state = .online then r.setpoints[i] else 0) (s.rotor i).staged (s.tickCount + 4000#64)
      else s.rbi) := by
  simp only [State.takeTurn, turn, if_pos polled, Rbi.quiet_iff, State.sendPoll_eq, commandOf_setpoint_iff]
  split <;> rfl

/-- Passing over a slot does not wait for the bus. -/
theorem State.takeTurn_passesOver (turn : r.slotPart = i :: rest) (unpolled : polledState (s.rotor i).state = false)
    (free : s.rbi.inFlight = none) :
    s.takeTurn r =
      s.withRbi (roundGoesOn { s.rbi with round := some { r with slotPart := rest } } s.rotor) := by
  have passed : s.takeTurn r =
      (s.withRbi { s.rbi with round := some { r with slotPart := rest } }).continueRound := by
    simp only [State.takeTurn, turn, unpolled, Bool.false_eq_true, if_false]
  exact passed.trans (State.continueRound_eq (s := s.withRbi _) free)

theorem State.takeTurn_probes (slotsDone : r.slotPart = []) (turn : r.probePart = i :: rest) :
    s.takeTurn r = s.withRbi
      (if s.rbi.assembly = [] then
        Rbi.sends { s.rbi with round := some { r with probePart := rest } } i .ident 0 (s.rotor i).staged
          (s.tickCount + 4000#64)
      else s.rbi) := by
  simp only [State.takeTurn, slotsDone, turn, Rbi.quiet_iff]
  split <;> rfl

/-- A round with no turn left ends as it does when it goes on after its last turn. -/
theorem State.takeTurn_ends (slotsDone : r.slotPart = []) (probesDone : r.probePart = [])
    (free : s.rbi.inFlight = none) (round : s.rbi.round = some r) :
    s.takeTurn r = s.withRbi (roundGoesOn s.rbi s.rotor) := by
  have ends : s.takeTurn r = s.endRound := by simp only [State.takeTurn, slotsDone, probesDone]
  rw [ends, ← State.continueRound_eq free]
  simp only [State.continueRound, round, free, slotsDone, probesDone, List.isEmpty_nil, Bool.and_self, if_true]

end

/-! ## The bytes of a poll (R199) -/

/-- The ten bytes of a poll before its check value. -/
def pollBody (p : Poll) : List Byte :=
  [0xB1#8, byteOf p.slot.val, p.tag, byteOf (pollCommandCode p.command)] ++ beIntBytes 2 p.setpoint ++
    [0#8, byteOf (bitAt 0 p.offered.isSome),
     byteOf (match p.offered with | some l => l.rating / 2 | none => 0),
     byteOf (match p.offered with | some l => l.derate | none => 0)]

theorem pollFrame_eq (p : Poll) : pollFrame p = pollBody p ++ crcBytes (pollBody p) := rfl

theorem pollBody_length (p : Poll) : (pollBody p).length = 10 := by simp [pollBody]

/-- A body of ten bytes and its check value come apart at the tenth byte. -/
theorem pollFrame_parts (p : Poll) :
    (pollFrame p).take 10 = pollBody p ∧ (pollFrame p).drop 10 = crcBytes (pollBody p) := by
  rw [pollFrame_eq]
  exact ⟨List.take_left' (pollBody_length p), List.drop_left' (pollBody_length p)⟩

theorem pollFrame_length (p : Poll) : (pollFrame p).length = 12 := by
  rw [pollFrame_eq, List.length_append, pollBody_length, crcBytes_length]

/-- The places of the setpoint and of what is offered, behind the two bytes of the setpoint. -/
theorem pollFrame_fields (p : Poll) :
    ((pollFrame p).drop 4).take 2 = beIntBytes 2 p.setpoint ∧
      ((pollFrame p).drop 6).take 4 =
        (match p.offered with
         | none => [0#8, 0#8, 0#8, 0#8]
         | some l => [0#8, 1#8, byteOf (l.rating / 2), byteOf l.derate]) := by
  obtain ⟨high, low, bytes⟩ := List.length_eq_two.mp (beIntBytes_length 2 p.setpoint)
  rw [pollFrame_eq, pollBody, bytes]
  refine ⟨rfl, ?_⟩
  cases p.offered <;> rfl

/-! ## The obligation -/

/-- Settles O45: a turn by the head of the slot part, then by the head of the probe part, then the end of the round. -/
theorem pollSendsNextTurn : Obligations.PollSendsNextTurn := by
  refine ⟨fun dt s up => ?_, fun p => ?_⟩
  · rw [exec_poll, State.taking_up up]
    intro now sent
    rw [show s.advance dt = s.withTick now from rfl]
    refine ⟨fun idle => ?_, fun r free round => ?_⟩
    · rw [State.pollNext_idle (s := s.withTick now) idle]
      rfl
    rw [State.pollNext_turn (s := s.withTick now) free round]
    refine ⟨fun i rest turn => ⟨fun passed => ?_, fun command listed => ?_⟩, fun i rest slotsDone turn => ?_,
      fun slotsDone probesDone => ?_⟩
    · have unpolled : polledState (s.rotor i).state = false := by
        rw [pollTable_eq] at passed
        simpa using passed
      rw [State.takeTurn_passesOver (s := s.withTick now) turn unpolled free]
      rfl
    · rw [pollTable_eq] at listed
      obtain ⟨polled, named⟩ := Option.ite_none_right_eq_some.mp listed
      obtain rfl := Option.some.inj named
      rw [State.takeTurn_polls (s := s.withTick now) turn polled]
      rfl
    · rw [State.takeTurn_probes (s := s.withTick now) slotsDone turn]
      rfl
    · rw [State.takeTurn_ends (s := s.withTick now) slotsDone probesDone free round]
      rfl
  · obtain ⟨body, check⟩ := pollFrame_parts p
    obtain ⟨setpoint, offered⟩ := pollFrame_fields p
    refine ⟨pollFrame_length p, rfl, ?_, setpoint, offered, by rw [check, body]⟩
    change some (byteOf (pollCommandCode p.command)) = _
    cases p.command <;> rfl

end Sys2Proof.Machine
end

section
/-! What the spec says always holds of rounds, probes and the poll in flight (`RoundInv`), through what the RBI itself does:
rounds begin, go on and end, turns are taken, polls end, bytes come (R147 to R149, R154 to R156, R199). What happens
elsewhere concerns the invariant only where it writes the RBI or where a slot becomes, or ceases to be, OFFLINE or
PROBING (`ProbeFrame`). -/

namespace Sys2Proof.Machine

/-! ## What leaves rounds and probes as they are -/

/-- From s to t the RBI is unchanged, and the same slots are in each state that the slot part does not poll: the same are
OFFLINE, and the same PROBING. -/
structure ProbeFrame (s t : State) : Prop where
  rbi : t.rbi = s.rbi
  unpolled : ∀ i st, polledState st = false → ((t.rotor i).state = st ↔ (s.rotor i).state = st)

namespace ProbeFrame

theorem refl (s : State) : ProbeFrame s s := ⟨rfl, fun _ _ _ => Iff.rfl⟩

theorem of_states {s t : State} (rbi : t.rbi = s.rbi) (states : ∀ i, (t.rotor i).state = (s.rotor i).state) :
    ProbeFrame s t := ⟨rbi, fun i st _ => by rw [states]⟩

theorem roundInv {s t : State} (frame : ProbeFrame s t) (h : RoundInv s) : RoundInv t := by
  obtain ⟨rbi, unpolled⟩ := frame
  have probing (i : Slot) := unpolled i .probing rfl
  refine ⟨rbi ▸ h.probesOnce, fun i waits => (probing i).mpr (h.probing i (rbi ▸ waits)), rbi ▸ h.once,
    fun r round i turn => ?_, fun p flight kept => ?_, rbi ▸ h.assembled⟩
  · rw [rbi] at round ⊢
    exact (h.part r round i turn).imp_left (probing i).mpr
  · rw [rbi] at flight ⊢
    obtain ⟨enrolled, probe⟩ := h.flight p flight kept
    exact ⟨mt (unpolled p.slot .offline rfl).mp enrolled, fun state => probe ((probing p.slot).mp state)⟩

end ProbeFrame

theorem RoundInv.congr {s t : State} (h : RoundInv s) (rbi : t.rbi = s.rbi)
    (states : ∀ i, (t.rotor i).state = (s.rotor i).state) : RoundInv t := (ProbeFrame.of_states rbi states).roundInv h

/-! ## Rounds (R147, R148, R156) -/

/-- With no round in progress there is none to agree with the pending probes and the poll in flight. -/
theorem RoundInv.noRound {s : State} (h : RoundInv s) (b : Rbi) (probes : b.pendingProbes = s.rbi.pendingProbes)
    (flight : b.inFlight = s.rbi.inFlight) (assembly : b.assembly = s.rbi.assembly) (round : b.round = none) :
    RoundInv (s.withRbi b) where
  probesOnce := probes ▸ h.probesOnce
  probing := probes ▸ h.probing
  once := fun r busy => absurd (round.symm.trans busy) nofun
  part := fun r busy => absurd (round.symm.trans busy) nofun
  flight := fun p sent kept => by
    obtain ⟨enrolled, probe⟩ := h.flight p (flight ▸ sent) kept
    refine ⟨enrolled, fun state => ?_⟩
    obtain ⟨ident, notPending, -⟩ := probe state
    exact ⟨ident, probes.symm ▸ notPending, fun r busy => absurd (round.symm.trans busy) nofun⟩
  assembled := assembly ▸ h.assembled

namespace RoundInv

variable {s : State}

/-- A round takes each polled slot once and each pending probe once, and a PROBING slot is not polled; afterwards no probe
is pending (R148). -/
theorem beginRound (h : RoundInv s) (setpoints : Vector Int 16) : RoundInv (s.beginRound setpoints) := by
  have parts {r : Round} (round : (s.beginRound setpoints).rbi.round = some r) :
      r = ⟨setpoints, allSlots.filter fun i => polledState (s.rotor i).state, s.rbi.pendingProbes⟩ := by
    simp only [State.beginRound, State.withRbi_rbi] at round
    exact (Option.some.inj (Option.ite_none_left_eq_some.mp round).2).symm
  refine ⟨List.nodup_nil, nofun, fun r round => ?_, fun r round i turn => ?_, fun p flight kept => ?_, h.assembled⟩
  · rw [parts round]
    have slotsOnce : (allSlots.filter fun i => polledState (s.rotor i).state).Nodup := (List.nodup_finRange 16).filter _
    refine slotsOnce.append h.probesOnce fun i polled probed => ?_
    have state := (List.mem_filter.mp polled).2
    rw [h.probing i probed] at state
    cases state
  · rw [parts round] at turn
    exact ⟨h.probing i turn, List.not_mem_nil⟩
  · obtain ⟨enrolled, probe⟩ := h.flight p flight kept
    refine ⟨enrolled, fun state => ?_⟩
    obtain ⟨ident, notPending, -⟩ := probe state
    exact ⟨ident, List.not_mem_nil, fun r round => by rw [parts round]; exact notPending⟩

theorem endRound (h : RoundInv s) : RoundInv s.endRound := by
  unfold State.endRound
  split
  · exact h.noRound _ rfl rfl rfl rfl
  · exact (h.noRound { s.rbi with round := none, pendingResult := none } rfl rfl rfl rfl).beginRound _

theorem continueRound (h : RoundInv s) : RoundInv s.continueRound := by
  unfold State.continueRound
  split
  · split
    · exact h.endRound
    · exact h
  · exact h

/-! ## Turns (R149, R155) -/

/-- Turns leave the round as they are taken. -/
theorem turnTaken (h : RoundInv s) {r r' : Round} (round : s.rbi.round = some r)
    (slots : r'.slotPart.Sublist r.slotPart) (probes : r'.probePart.Sublist r.probePart) :
    RoundInv (s.withRbi { s.rbi with round := some r' }) := by
  refine ⟨h.probesOnce, h.probing, fun q later => ?_, fun q later i turn => ?_, fun p flight kept => ?_, h.assembled⟩
  · obtain rfl := Option.some.inj later
    exact (h.once r round).sublist (slots.append probes)
  · obtain rfl := Option.some.inj later
    exact h.part r round i (probes.subset turn)
  · obtain ⟨enrolled, probe⟩ := h.flight p flight kept
    refine ⟨enrolled, fun state => ?_⟩
    obtain ⟨ident, notPending, notInPart⟩ := probe state
    refine ⟨ident, notPending, fun q later turn => ?_⟩
    obtain rfl := Option.some.inj later
    exact notInPart r round (probes.subset turn)

/-- A poll may be sent to an enrolled slot, and to a PROBING one as the probe that waits no longer (R150, R155). -/
theorem sends {b : Rbi} (h : RoundInv (s.withRbi b)) {i : Slot} {command : PollCommand} (setpoint : Int)
    (offered : Option Limits) (windowClose : Tick) (enrolled : (s.rotor i).state ≠ .offline)
    (probe : (s.rotor i).state = .probing →
      command = .ident ∧ i ∉ b.pendingProbes ∧ ∀ r, b.round = some r → i ∉ r.probePart) :
    RoundInv (s.withRbi (b.sends i command setpoint offered windowClose)) := by
  refine ⟨h.probesOnce, h.probing, h.once, h.part, fun p flight _ => ?_, h.assembled⟩
  obtain rfl := Option.some.inj flight
  exact ⟨enrolled, probe⟩

/-- A round that goes on with no poll in flight. -/
theorem goesOn {b : Rbi} (h : RoundInv (s.withRbi b)) (free : b.inFlight = none) :
    RoundInv (s.withRbi (roundGoesOn b s.rotor)) := by
  have continued := h.continueRound
  rwa [State.continueRound_eq (s := s.withRbi b) free] at continued

theorem takeTurn (h : RoundInv s) {r : Round} (free : s.rbi.inFlight = none) (round : s.rbi.round = some r) :
    RoundInv (s.takeTurn r) := by
  cases turn : r.slotPart with
  | cons i rest =>
    have passed : RoundInv (s.withRbi { s.rbi with round := some { r with slotPart := rest } }) :=
      h.turnTaken round (turn ▸ List.sublist_cons_self i rest) (List.Sublist.refl _)
    cases polled : polledState (s.rotor i).state with
    | false =>
      rw [State.takeTurn_passesOver turn polled free]
      exact passed.goesOn free
    | true =>
      have differs {st : RotorState} (unpolled : polledState st = false) : (s.rotor i).state ≠ st := fun state => by
        rw [state, unpolled] at polled
        cases polled
      rw [State.takeTurn_polls turn polled]
      split
      · exact passed.sends _ _ _ (differs rfl) fun probing => absurd probing (differs rfl)
      · exact h
  | nil =>
    cases turn' : r.probePart with
    | cons i rest =>
      have passed : RoundInv (s.withRbi { s.rbi with round := some { r with probePart := rest } }) :=
        h.turnTaken round (List.Sublist.refl _) (turn' ▸ List.sublist_cons_self i rest)
      obtain ⟨probing, notPending⟩ := h.part r round i (turn' ▸ List.mem_cons_self)
      have once : (i :: rest).Nodup := turn' ▸ (h.once r round).of_append_right
      rw [State.takeTurn_probes turn turn']
      split
      · refine passed.sends _ _ _ (probing ▸ nofun) fun _ => ⟨rfl, notPending, fun q later => ?_⟩
        obtain rfl := Option.some.inj later
        exact (List.nodup_cons.mp once).1
      · exact h
    | nil =>
      rw [State.takeTurn_ends turn turn' free round]
      exact RoundInv.goesOn (b := s.rbi) h free

theorem pollNext (h : RoundInv s) : RoundInv s.pollNext := by
  unfold State.pollNext
  split
  · next free round => exact h.takeTurn free round
  · exact h

/-! ## The end of a poll (R153, R154, R158, R199) -/

end RoundInv

/-- A slot waits for its probe among the pending probes or in the probe part of the round (R155). -/
def Rbi.probeWaits (b : Rbi) (i : Slot) : Prop := i ∈ b.pendingProbes ∨ ∃ r, b.round = some r ∧ i ∈ r.probePart

/-- The bytes that the RBI may hold of a frame that is being received (R199). -/
def unfinishedFrame (l : List Byte) : Prop := l = [] ∨ (l.head? = some 0xB2#8 ∧ l.length < 12)

namespace RoundInv

variable {s : State}

theorem probing_of_probeWaits (h : RoundInv s) {i : Slot} (waits : s.rbi.probeWaits i) :
    (s.rotor i).state = .probing := by
  obtain pending | ⟨r, round, turn⟩ := waits
  · exact h.probing i pending
  · exact (h.part r round i turn).1

/-- The probe of a slot that a poll is in flight to waits no more, unless the poll has been abandoned. -/
theorem not_probeWaits_of_flight (h : RoundInv s) {p : Poll} (flight : s.rbi.inFlight = some p)
    (kept : p.abandoned = false) : ¬ s.rbi.probeWaits p.slot := fun waits => by
  obtain ⟨-, probe⟩ := h.flight p flight kept
  obtain ⟨-, notPending, notInPart⟩ := probe (h.probing_of_probeWaits waits)
  obtain pending | ⟨r, round, turn⟩ := waits
  · exact notPending pending
  · exact notInPart r round turn

/-- With no poll in flight, only the slots whose probes wait need be PROBING. -/
theorem endFlight (h : RoundInv s) {x : State} {l : List Byte} (unfinished : unfinishedFrame l)
    (rbi : x.rbi = { s.rbi with inFlight := none, assembly := l })
    (probing : ∀ i, s.rbi.probeWaits i → (x.rotor i).state = .probing) : RoundInv x := by
  refine ⟨?_, fun i waits => ?_, fun r round => ?_, fun r round i turn => ?_, fun p flight => ?_, ?_⟩ <;>
    rw [rbi] at *
  · exact h.probesOnce
  · exact probing i (.inl waits)
  · exact h.once r round
  · exact ⟨probing i (.inr ⟨r, round, turn⟩), (h.part r round i turn).2⟩
  · cases flight
  · exact unfinished

theorem withTick (h : RoundInv s) (now : Tick) : RoundInv (s.withTick now) := h.congr rfl fun _ => rfl

theorem withAssembly (h : RoundInv s) {l : List Byte} (unfinished : unfinishedFrame l) :
    RoundInv (s.withRbi { s.rbi with assembly := l }) :=
  ⟨h.probesOnce, h.probing, h.once, h.part, h.flight, unfinished⟩

end RoundInv

end Sys2Proof.Machine
end

section
/-! Moves of the rotors, as far as rounds and probes go (R122 to R142, R154, R158): what is handed on goes to slots that
wait in a queue, and so never to an OFFLINE or a PROBING one; the slot of a poll may leave PROBING, since its probe no
longer waits. -/

namespace Sys2Proof.Machine

/-! ## Moves -/

/-- Between two states that the slot part polls, a slot neither enters nor leaves a state that it does not poll. -/
theorem iff_of_polled {before after_ st : RotorState} (polled : polledState before = true)
    (polled' : polledState after_ = true) (unpolled : polledState st = false) : after_ = st ↔ before = st := by
  refine iff_of_false (fun same => ?_) fun same => ?_
  · rw [same, unpolled] at polled'; cases polled'
  · rw [same, unpolled] at polled; cases polled

theorem MoveFrame.unpolled_other {s u : State} {i j : Slot} {tripped : Bool} (frame : MoveFrame s u i tripped)
    (road : RoadInv s) (other : j ≠ i) {st : RotorState} (unpolled : polledState st = false) :
    (u.rotor j).state = st ↔ (s.rotor j).state = st := by
  obtain ⟨-, admitted, -, -, unitTaken, others⟩ := frame.handedOn
  have waited {queue : List Slot} {joins : Bool} (mem : j ∈ waitingThen queue i joins) : j ∈ queue := by
    obtain ⟨waits, -⟩ | ⟨-, same⟩ := mem_waitingThen.mp mem
    · exact waits
    · exact absurd same other
  by_cases head : j ∈ (spinUpWaiting s u i).take (spinUpFree s i)
  · have before := (road.spinUpHolds j).mp (waited (List.mem_of_mem_take head))
    obtain ⟨after_, -⟩ := admitted j head
    exact iff_of_polled (before ▸ rfl) (after_ ▸ rfl) unpolled
  · by_cases next : unitFree s i ∧ (syncWaiting s u i).head? = some j
    · obtain ⟨free, next⟩ := next
      obtain ⟨rest, waiting⟩ := List.head?_eq_some_iff.mp next
      have before := (road.syncHolds j).mp (waited (waiting ▸ List.mem_cons_self : j ∈ syncWaiting s u i))
      obtain ⟨-, -, after_, -⟩ := unitTaken j rest free waiting
      exact iff_of_polled (before ▸ rfl) (after_ ▸ rfl) unpolled
    · rw [(others j other head next).1]

/-- A move between states that the slot part polls. -/
theorem MovesTo.probeFrame {s w x : State} {i : Slot} {after_ : RotorRecord} (move : MovesTo s w x i after_)
    (road : RoadInv s) (rbi : w.rbi = s.rbi) (before : polledState (s.rotor i).state = true)
    (polled : polledState after_.state = true) : ProbeFrame s x := by
  refine ⟨move.rbi.trans rbi, fun j st unpolled => ?_⟩
  by_cases same : j = i
  · rw [same, move.record]
    exact iff_of_polled before polled unpolled
  · exact move.frame.unpolled_other road same unpolled

/-! ## The end of a poll (R153, R154, R158) -/

namespace RoundInv

variable {s : State} (h : RoundInv s) (road : RoadInv s)
include h road

omit road in
/-- What the RSQ makes of the reply to a poll that has not been abandoned, or of its absence. -/
theorem pollActedOn {p : Poll} (flight : s.rbi.inFlight = some p) (kept : p.abandoned = false) {x : State}
    {l : List Byte} (unfinished : unfinishedFrame l) (rbi : x.rbi = { s.rbi with inFlight := none, assembly := l })
    (others : ∀ j, j ≠ p.slot → ((x.rotor j).state = .probing ↔ (s.rotor j).state = .probing)) : RoundInv x :=
  h.endFlight unfinished rbi fun j waits =>
    have other : j ≠ p.slot := fun same => h.not_probeWaits_of_flight flight kept (same ▸ waits)
    (others j other).mpr (h.probing_of_probeWaits waits)

/-- A matching frame ends the poll in flight, and is delivered unless the poll has been abandoned. -/
theorem busBytes_matching (now : Tick) {bytes : List Byte} {p : Poll} {m : ModuleReport} (some_bytes : bytes ≠ [])
    (read : (assembleReply (s.rbi.assembly ++ bytes)).bind readReply = some m) (flight : s.rbi.inFlight = some p)
    (matched : (windowOpen p now && answers p m) = true) : RoundInv ((s.withTick now).busBytes bytes) := by
  rw [State.busBytes_matching now some_bytes read flight matched]
  refine RoundInv.continueRound ?_
  cases abandoned : p.abandoned with
  | true => exact h.endFlight (.inl rfl) rfl fun i => h.probing_of_probeWaits
  | false =>
    have beside := State.reportTaken_beside (s := s) (p := p) (m := m) now
    have acts := State.sequenceReply_acts road beside rfl (by rw [State.reportTaken_rotor]; rfl)
    generalize (s.reportTaken now p m).sequenceReply p.slot = x at acts ⊢
    refine h.pollActedOn flight abandoned (.inl rfl) (x := x) ?_ fun j other => ?_
    · obtain ⟨rfl, -⟩ | ⟨move, -⟩ := acts
      · rfl
      · exact move.rbi
    · obtain ⟨rfl, -⟩ | ⟨move, -⟩ := acts
      · rw [beside.others j other]
      · exact move.frame.unpolled_other road other rfl

/-- Bytes that complete no matching frame are held, or dropped (R199). -/
theorem busBytes (now : Tick) (bytes : List Byte) : RoundInv ((s.withTick now).busBytes bytes) := by
  by_cases matching : ∃ p m, bytes ≠ [] ∧ (assembleReply (s.rbi.assembly ++ bytes)).bind readReply = some m ∧
      s.rbi.inFlight = some p ∧ (windowOpen p now && answers p m) = true
  · obtain ⟨p, m, some_bytes, read, flight, matched⟩ := matching
    exact h.busBytes_matching road now some_bytes read flight matched
  · rw [State.busBytes_unmatched now fun p m some_bytes read flight matched =>
      matching ⟨p, m, some_bytes, read, flight, matched⟩]
    refine (h.withTick now).withAssembly ?_
    split
    · exact .inl rfl
    · next held =>
      obtain ⟨-, short⟩ := not_or.mp held
      exact (replyBytesFrom_head _).imp_right fun head => ⟨head, Nat.not_le.mp short⟩

theorem windowCloses : RoundInv s.windowCloses := by
  cases flight : s.rbi.inFlight with
  | none => rw [State.windowCloses_idle flight]; exact h
  | some p =>
    rw [State.windowCloses_flight flight]
    generalize (if (p.windowClose - s.tickCount).toNat < 2 ^ 63 then p.windowClose else s.tickCount) = now
    refine RoundInv.continueRound ?_
    cases abandoned : p.abandoned with
    | true => exact h.endFlight h.assembled rfl fun i => h.probing_of_probeWaits
    | false =>
      have acts := State.sequenceLate_lateActs road (s.pollEnded_beside now p.slot) rfl rfl
      generalize (s.pollEnded now).sequenceLate p.slot = x at acts ⊢
      refine h.pollActedOn flight abandoned h.assembled (x := x) ?_ fun j other => ?_
      · obtain ⟨rfl, -, -⟩ | ⟨move, -⟩ := acts
        · rfl
        · exact move.rbi
      · obtain ⟨rfl, -, -⟩ | ⟨move, -⟩ := acts
        · rw [State.rotor_setRotor_ne _ other]; rfl
        · exact move.frame.unpolled_other road other rfl

end RoundInv

end Sys2Proof.Machine
end

section
/-! What the spec says always holds of rounds, probes and the poll in flight, through everything else that an arrival can
do: ENROL makes a probe wait, RELEASE abandons a poll, a sample may begin a round; the moves of the other requests and of
the timers are between states that the slot part polls; the rest leaves the RBI and the lifecycle as they are. -/

namespace Sys2Proof.Machine

/-! ## ENROL and RELEASE (R125, R142, R155, R158) -/

theorem nodup_insertAscending {i : Slot} {l : List Slot} (once : l.Nodup) (apart : i ∉ l) :
    (insertAscending i l).Nodup := by
  induction l with
  | nil => exact List.nodup_singleton i
  | cons j rest ih =>
    obtain ⟨notHead, notRest⟩ := not_or.mp (mt List.mem_cons.mpr apart)
    obtain ⟨head, restOnce⟩ := List.nodup_cons.mp once
    simp only [insertAscending, if_neg notHead]
    split
    · exact List.nodup_cons.mpr ⟨apart, once⟩
    · refine List.nodup_cons.mpr ⟨fun mem => ?_, ih restOnce notRest⟩
      obtain same | mem := (mem_insertAscending i j rest).mp mem
      · exact notHead same.symm
      · exact head mem

namespace RoundInv

variable {s : State} (h : RoundInv s)
include h

/-- An OFFLINE slot waits for no probe and has no poll in flight, so it may become PROBING with its probe pending. -/
theorem enrol {i : Slot} (offline : (s.rotor i).state = .offline) {r : RotorRecord} (probing : r.state = .probing) :
    RoundInv (s.enrol i r) := by
  have rbi : (s.enrol i r).rbi = { s.rbi with pendingProbes := insertAscending i s.rbi.pendingProbes } := by
    simp [State.enrol]
  have idle : ¬ s.rbi.probeWaits i := fun waits => by
    rw [h.probing_of_probeWaits waits] at offline
    cases offline
  obtain ⟨notPending, notInPart⟩ := not_or.mp idle
  have stays {j : Slot} (waits : s.rbi.probeWaits j) : ((s.enrol i r).rotor j).state = .probing := by
    rw [State.rotor_enrol, if_neg fun same : j = i => idle (same ▸ waits)]
    exact h.probing_of_probeWaits waits
  refine ⟨?_, fun j waits => ?_, fun q round => ?_, fun q round j turn => ?_, fun p flight kept => ?_, ?_⟩ <;>
    rw [rbi] at *
  · exact nodup_insertAscending h.probesOnce notPending
  · obtain rfl | waits := (mem_insertAscending i j _).mp waits
    · rw [State.rotor_enrol, if_pos rfl]; exact probing
    · exact stays (.inl waits)
  · exact h.once q round
  · refine ⟨stays (.inr ⟨q, round, turn⟩), fun mem => ?_⟩
    obtain rfl | mem := (mem_insertAscending i j _).mp mem
    · exact notInPart ⟨q, round, turn⟩
    · exact (h.part q round j turn).2 mem
  · obtain ⟨enrolled, probe⟩ := h.flight p flight kept
    have other : p.slot ≠ i := fun same => enrolled (same ▸ offline)
    rw [State.rotor_enrol, if_neg other]
    refine ⟨enrolled, fun state => ?_⟩
    obtain ⟨ident, notPending, notInPart⟩ := probe state
    exact ⟨ident, fun mem => ((mem_insertAscending i p.slot _).mp mem).elim other notPending, notInPart⟩
  · exact h.assembled

/-- A slot that is released waits for no probe, and a poll in flight to it counts no more. -/
theorem releaseSlot {i : Slot} (may : mayRelease (s.rotor i) = true) : RoundInv (s.releaseSlot i) := by
  obtain ⟨-, -, others, -⟩ := s.setRotor_noteRotor i RotorRecord.empty
  have probing {j : Slot} (state : (s.rotor j).state = .probing) : ((s.releaseSlot i).rotor j).state = .probing := by
    have other : j ≠ i := fun same => by
      rw [mayRelease_iff, ← same, state] at may
      exact may.elim nofun fun tripped => nomatch tripped.1
    rw [State.releaseSlot_eq]
    exact (congrArg RotorRecord.state (others j other)).trans state
  have rbi : (s.releaseSlot i).rbi = s.rbi.abandonPollTo i := by rw [State.releaseSlot_eq]; rfl
  refine ⟨?_, fun j waits => ?_, fun r round => ?_, fun r round j turn => ?_, fun p flight kept => ?_, ?_⟩ <;>
    rw [rbi] at *
  · exact h.probesOnce
  · exact probing (h.probing j waits)
  · exact h.once r round
  · exact (h.part r round j turn).imp_left probing
  · obtain ⟨p', before, sent⟩ := Option.map_eq_some_iff.mp flight
    split at sent
    · rw [← sent] at kept
      cases kept
    · next other =>
      subst sent
      have record : (s.releaseSlot i).rotor p'.slot = s.rotor p'.slot := by
        rw [State.releaseSlot_eq]; exact others p'.slot other
      rw [record]
      exact h.flight p' before kept
  · exact h.assembled

theorem ownEnrol (p : List Byte) : RoundInv (ownEnrol s p).state := by
  unfold Machine.ownEnrol
  split
  · exact h
  · split
    · exact h
    · split
      · exact h
      · next offline =>
        split
        · dsimp only
          split
          · exact h
          · exact h.enrol (not_not.mp offline) rfl
        · exact h

theorem ownRelease (p : List Byte) : RoundInv (ownRelease s p).state := by
  unfold Machine.ownRelease
  split
  · exact h
  · split
    · next may => exact h.releaseSlot may
    · exact h

end RoundInv

/-! ## The requests that move a rotor (R128, R136, R137, R141) -/

theorem ProbeFrame.answer_ite {c : Prop} [Decidable c] {s : State} {a b : Answer} (ha : ProbeFrame s a.state)
    (hb : ProbeFrame s b.state) : ProbeFrame s (if c then a else b).state := by
  split
  · exact ha
  · exact hb

theorem ownSpinUp_probeFrame (s : State) (p : List Byte) : ProbeFrame s (ownSpinUp s p).state := by
  have lifted {i : Slot} (parked : (s.rotor i).state = .parked) : ProbeFrame s (s.startLift i) := by
    obtain ⟨frame, -, others, record, -⟩ := s.startLift_lifts i
    refine ⟨by rw [frame], fun j st unpolled => ?_⟩
    by_cases same : j = i
    · rw [same, record]
      exact iff_of_polled (parked ▸ rfl) rfl unpolled
    · rw [(others j same).1]
  unfold ownSpinUp
  split
  · exact .refl s
  · refine .answer_ite (.refl s) ?_
    split
    · exact .refl s
    · next parked => exact lifted (not_not.mp parked)

section
variable {s w : State} {i : Slot} (road : RoadInv s) (beside : Beside s w i) (rsq : w.rsq = s.rsq) (rbi : w.rbi = s.rbi)
  (polled : polledState (s.rotor i).state = true)
include road beside rsq rbi polled

theorem State.brake_probeFrame (cause : RotorCause) : ProbeFrame s (w.brake i cause) := by
  refine (State.brake_movesTo road beside rsq cause).probeFrame road rbi polled ?_
  split <;> rfl

theorem State.settle_probeFrame (cause : Option RotorCause) : ProbeFrame s (w.settle i cause) :=
  (State.settle_movesTo road beside rsq cause).probeFrame road rbi polled rfl

theorem State.trip_probeFrame (cause : RotorCause) : ProbeFrame s (w.trip i cause) :=
  (State.trip_movesTo road beside rsq cause).probeFrame road rbi polled rfl

end

/-- A failed attempt brakes the rotor, or sends it back to the sync queue (R134). -/
theorem State.syncFails_probeFrame {s w : State} {i : Slot} (road : RoadInv s) (beside : Beside s w i)
    (rsq : w.rsq = s.rsq) (rbi : w.rbi = s.rbi) (same : w.rotor i = s.rotor i)
    (syncing : (s.rotor i).state = .syncing) : ProbeFrame s (w.syncFails i) := by
  have polled : polledState (s.rotor i).state = true := syncing ▸ rfl
  unfold State.syncFails
  split
  · refine (State.joinSync_rejoins road beside rsq same syncing).probeFrame road rbi polled ?_
    unfold Machine.rejoinsSync
    split
    · exact polled
    · rfl
  · exact State.brake_probeFrame road beside rsq rbi polled .syncFail

theorem ownPark_probeFrame {s : State} (road : RoadInv s) (p : List Byte) : ProbeFrame s (ownPark s p).state := by
  have braked {i : Slot} {st : RotorState} (state : (s.rotor i).state = st) (polled : polledState st = true) :
      ProbeFrame s (s.brake i .host) := State.brake_probeFrame road (.refl s i) rfl rfl (state ▸ polled) .host
  unfold ownPark
  split
  · exact .refl s
  · split
    case h_4 state =>
      exact .answer_ite (State.settle_probeFrame road (.refl s _) rfl rfl (state ▸ rfl) _) (braked state rfl)
    case h_9 state => exact .answer_ite (.refl s) (braked state rfl)
    case h_5 state | h_6 state | h_7 state | h_8 state => exact braked state rfl
    all_goals exact .refl s

theorem ownResetFault_probeFrame {s : State} (road : RoadInv s) (p : List Byte) :
    ProbeFrame s (ownResetFault s p).state := by
  unfold ownResetFault
  split
  · exact .refl s
  · next i _ =>
    split
    · next may =>
      obtain ⟨tripped, -⟩ := (mayReset_iff _).mp may
      exact State.settle_probeFrame road ((Beside.refl s i).setRotor _) rfl rfl (tripped ▸ rfl) _
    · exact .refl s

/-! ## The rotor timers (R124, R129, R131, R134) -/

/-- A rotor timer expires in the state that it belongs to, at the tick of its expiry. -/
theorem State.timerExpires_probeFrame {s : State} {i : Slot} {st : RotorState} {act : State → State}
    (kept : ∀ now, (s.rotor i).state = st → ProbeFrame s (act (s.withTick now))) :
    ProbeFrame s (s.timerExpires i st act) := by
  unfold State.timerExpires
  split
  · exact .refl s
  · split
    · next state => rw [State.advanceTo_eq]; exact kept _ state
    · exact .refl s

end Sys2Proof.Machine
end

section
/-! Every command keeps what the spec says always holds of rounds, probes and the poll in flight: first what leaves the RBI as
it is (the link, the requests to the other blocks), then samples, the stop line and resets, then every command. This
settles O58. -/

namespace Sys2Proof.Machine

/-! ## The Link Interface (chapter 09) -/

@[simp] theorem State.abandonFrame_rbi (s : State) : s.abandonFrame.rbi = s.rbi := rfl

@[simp] theorem State.checkRequest_rbi (s : State) (r : Request) : (s.checkRequest r).rbi = s.rbi := by
  unfold State.checkRequest
  split
  · rfl
  · split
    · rfl
    · split <;> rfl

@[simp] theorem State.checkFrame_rbi (s : State) (frame : List Byte) : (s.checkFrame frame).rbi = s.rbi := by
  have offered (s : State) (r : Request) : (s.offerRequest r).rbi = s.rbi := by
    unfold State.offerRequest
    split <;> simp
  simp only [State.checkFrame]
  split
  · exact offered _ _
  · rfl

theorem State.completeFrame_rbi (s : State) : s.completeFrame.rbi = s.rbi := by
  unfold State.completeFrame
  split <;> simp

theorem State.gapExpires_rbi (s : State) : s.gapExpires.rbi = s.rbi := by
  unfold State.gapExpires
  split
  · rfl
  · exact State.advanceTo_rbi s _

theorem State.takeByte_rbi (s : State) (b : Byte) (broken : Bool) : (s.takeByte b broken).rbi = s.rbi := by
  have hunted (s : State) : (s.huntByte b broken).rbi = s.rbi := by
    unfold State.huntByte
    split <;> rfl
  have joined (bytes : List Byte) : (s.joinByte bytes b).rbi = s.rbi := by
    simp only [State.joinByte]
    split
    · rfl
    · split
      · rfl
      · split <;> rfl
  unfold State.takeByte
  split
  · exact hunted s
  · split
    · rfl
    · exact joined _
  · rw [hunted, State.checkFrame_rbi]

theorem State.beginReply_rbi (s : State) : s.beginReply.rbi = s.rbi := by
  unfold State.beginReply
  split <;> rfl

theorem State.beginNotice_rbi (s : State) (k : NoticeKind) : (s.beginNotice k).rbi = s.rbi := by
  have emptied : (s.emptyChangeSet k).rbi = s.rbi := by cases k <;> rfl
  unfold State.beginNotice
  split
  · exact emptied
  · rfl

theorem State.endNotice_rbi (s : State) : s.endNotice.rbi = s.rbi := by
  unfold State.endNotice
  split
  · split <;> rfl
  · rfl

/-! ## The owners of the requests to the other blocks (chapters 02, 03, 04, 06, 09, 10) -/

/-- A choice between two answers leaves the RBI as it is when both answers do. -/
theorem answer_ite_rbi {c : Prop} [Decidable c] {s : State} {a b : Answer} (ha : a.state.rbi = s.rbi)
    (hb : b.state.rbi = s.rbi) : (if c then a else b).state.rbi = s.rbi := by
  split
  · exact ha
  · exact hb

theorem ownSetMode_rbi (s : State) (p : List Byte) : (ownSetMode s p).state.rbi = s.rbi := by
  unfold ownSetMode
  split
  · rfl
  · split <;> rfl

theorem ownSetMeasurement_rbi (s : State) (p : List Byte) : (ownSetMeasurement s p).state.rbi = s.rbi := by
  refine answer_ite_rbi rfl ?_
  split
  · rfl
  · simp [accept, State.setMeasurement]

theorem ownSetEvent_rbi (s : State) (p : List Byte) : (ownSetEvent s p).state.rbi = s.rbi := by
  unfold ownSetEvent
  split <;> rfl

theorem ownSetBankLimits_rbi (s : State) (p : List Byte) : (ownSetBankLimits s p).state.rbi = s.rbi :=
  answer_ite_rbi rfl rfl

theorem ownSetCurve_rbi (s : State) (p : List Byte) : (ownSetCurve s p).state.rbi = s.rbi := 
  answer_ite_rbi rfl (answer_ite_rbi rfl rfl)

theorem ownSetNotices_rbi (s : State) (p : List Byte) : (ownSetNotices s p).state.rbi = s.rbi := by
  unfold ownSetNotices
  split <;> rfl

theorem ownRestart_rbi (s : State) (p : List Byte) : (ownRestart s p).state.rbi = s.rbi := 
  answer_ite_rbi rfl (answer_ite_rbi rfl rfl)

theorem ownSnapshotPart0_rbi (s : State) (p : List Byte) : (ownSnapshotPart0 s p).state.rbi = s.rbi :=
  answer_ite_rbi rfl rfl

theorem ownSnapshotPart1_rbi (s : State) (p : List Byte) : (ownSnapshotPart1 s p).state.rbi = s.rbi := by
  unfold ownSnapshotPart1
  split <;> rfl

theorem ownSetRotorLimits_rbi (s : State) (p : List Byte) : (ownSetRotorLimits s p).state.rbi = s.rbi := by
  unfold ownSetRotorLimits
  split
  · rfl
  · exact answer_ite_rbi rfl rfl

theorem ownSetRotorRole_rbi (s : State) (p : List Byte) : (ownSetRotorRole s p).state.rbi = s.rbi := by
  unfold ownSetRotorRole
  split
  · rfl
  · refine answer_ite_rbi rfl ?_
    split <;> rfl

theorem ownRotorStatus_rbi (s : State) (p : List Byte) : (ownRotorStatus s p).state.rbi = s.rbi := by
  unfold ownRotorStatus
  split
  · rfl
  · exact answer_ite_rbi rfl rfl

theorem afterRotorStatus_rbi (s : State) (p : List Byte) : (afterRotorStatus s p).rbi = s.rbi := by
  unfold afterRotorStatus
  split
  · rfl
  · split <;> rfl

theorem ownPlaceOrder_rbi (s : State) (p : List Byte) : (ownPlaceOrder s p).state.rbi = s.rbi := by
  unfold ownPlaceOrder
  split
  · rfl
  · exact answer_ite_rbi rfl <| answer_ite_rbi rfl <| answer_ite_rbi rfl <| answer_ite_rbi rfl <|
      answer_ite_rbi rfl rfl

theorem ownCancelOrder_rbi (s : State) (p : List Byte) : (ownCancelOrder s p).state.rbi = s.rbi := by
  refine answer_ite_rbi rfl ?_
  split
  · rfl
  · exact answer_ite_rbi rfl (State.reviseOrders_rbi s _)

theorem ownResumeOrder_rbi (s : State) (p : List Byte) : (ownResumeOrder s p).state.rbi = s.rbi := by
  refine answer_ite_rbi rfl ?_
  split
  · rfl
  · split
    case h_1 => exact State.reviseOrders_rbi s _
    all_goals rfl

theorem ownOrderStatus_rbi (s : State) (p : List Byte) : (ownOrderStatus s p).state.rbi = s.rbi := by
  refine answer_ite_rbi rfl ?_
  split <;> rfl

theorem afterOrderStatus_rbi (s : State) (p : List Byte) : (afterOrderStatus s p).rbi = s.rbi := by
  have retired (id : Nat) : (s.retireOrder id).rbi = s.rbi := by
    simp only [State.retireOrder]
    split <;> rfl
  unfold afterOrderStatus
  split
  · rfl
  · split
    · exact retired _
    · rfl

/-! ## Resets, the stop line and samples (R140, R147, R159) -/

/-- Every reset leaves the RBI and the slots as a POWER_ON reset does (R77, R159, R184). -/
theorem State.takeReset_roundInv (s : State) (cause : ResetCause) (t : Tick) (line : StopLevel) :
    RoundInv (s.takeReset cause t line) := by
  have after_ := s.takeReset_afterReset cause t line
  refine roundInv_reset.congr ?_ fun i => ?_
  · rw [State.takeReset_eq]; rfl
  · rw [(after_.rotorStates i).1, State.rotor_reset]; rfl

/-- A stop assertion trips moving rotors, and no others (R140). -/
theorem State.assertStop_probeFrame (s : State) : ProbeFrame s s.assertStop := by
  obtain ⟨⟨-, -, rbi, -⟩, trips, -⟩ := s.assertStop_stopTaken
  refine ⟨rbi, fun i st unpolled => ?_⟩
  by_cases moving : movingState (s.rotor i).state = true
  · have polled : polledState (s.rotor i).state = true := by
      cases state : (s.rotor i).state
      case offline | probing => rw [state] at moving; cases moving
      all_goals rfl
    rw [trips.record i moving]
    exact iff_of_polled polled rfl unpolled
  · rw [(trips.kept i moving).1]

namespace RoundInv

variable {s : State} (h : RoundInv s)
include h

theorem endReply (line : StopLevel) : RoundInv (s.endReply line) := by
  unfold State.endReply
  split
  · split
    · split
      · exact s.takeReset_roundInv _ _ line
      · exact h.congr rfl fun _ => rfl
    · exact h
  · exact h

/-- A sample begins a round, or hands the one in progress its pending result; it changes no rotor's state (R147). -/
theorem passage (t : Tick) (valid : Bool) : RoundInv (s.passage t valid) := by
  have states := s.passage_rotor_state t valid
  obtain ⟨begins, waits⟩ := s.passage_rbi_round t valid
  by_cases idle : s.rbi.round = none
  · have begun := h.beginRound (Vector.ofFn fun i : Fin 16 => (s.dispatched t valid).slots[i].n)
    refine begun.congr ?_ states
    rw [begins idle, State.beginRound_rbi]
  · have pending : RoundInv (s.withRbi (s.passage t valid).rbi) := by
      rw [waits idle]
      exact ⟨h.probesOnce, h.probing, h.once, h.part, h.flight, h.assembled⟩
    exact pending.congr rfl states

theorem withFmu (u : Fmu) : RoundInv (s.withFmu u) := h.congr rfl fun _ => rfl

theorem edge : RoundInv s.edge := by
  cases last : s.fmu.lastEdge with
  | none => rw [State.edge_first last]; exact h.withFmu _
  | some last' => rw [State.edge_next last]; exact (h.withFmu _).passage _ _

theorem missingEdge : RoundInv s.missingEdge := by
  have later : RoundInv (s.advanceTo s.fmu.expiry) := by rw [State.advanceTo_eq]; exact h.withTick _
  exact (later.withFmu _).passage _ _

/-! ## Every command -/

section
variable {c : Instr} {t : State} {f : State → State} {k : RequestKind} {suits : List Byte → Bool}
  {owner : State → List Byte → Answer} {after_ : State → List Byte → State}

theorem taking (meaning : exec c s = s.taking f) (he : exec c s = .next t) (kept : RoundInv (f s)) : RoundInv t := by
  rw [meaning] at he
  cases up : s.supply with
  | up => rw [State.taking_up up] at he; cases he; exact kept
  | down => rw [State.taking_down up] at he; cases he; exact h

/-- A command that leaves the RBI and every rotor's state as they are. -/
theorem framed (meaning : exec c s = s.taking f) (he : exec c s = .next t) (frame : LifecycleFrame s (f s))
    (rbi : (f s).rbi = s.rbi) : RoundInv t :=
  h.taking meaning he (h.congr rbi frame.states)

theorem request (meaning : exec c s = s.taking fun s => s.takeRequest k suits owner after_) (he : exec c s = .next t)
    (owned : ∀ p, RoundInv (owner s p).state) (frame : ∀ u p, LifecycleFrame u (after_ u p))
    (rbi : ∀ u p, (after_ u p).rbi = u.rbi) : RoundInv t := by
  refine h.taking meaning he ?_
  obtain same | ⟨r, -, -, -, -, answered⟩ := s.takeRequest_cases k suits owner after_
  · rw [same]; exact h
  · rw [answered]
    exact (owned r.payload).congr (rbi _ _) (frame _ _).states

/-- A request that nothing follows. -/
theorem plainRequest (meaning : exec c s = s.taking fun s => s.takeRequest k suits owner nothingAfter)
    (he : exec c s = .next t) (owned : ∀ p, RoundInv (owner s p).state) : RoundInv t :=
  h.request meaning he owned (fun u _ => .refl u) fun _ _ => rfl

/-- A request whose owner leaves the RBI and every rotor's state as they are. -/
theorem keptRequest (meaning : exec c s = s.taking fun s => s.takeRequest k suits owner nothingAfter)
    (he : exec c s = .next t) (frame : ∀ p, LifecycleFrame s (owner s p).state)
    (rbi : ∀ p, (owner s p).state.rbi = s.rbi) : RoundInv t :=
  h.plainRequest meaning he fun p => h.congr (rbi p) (frame p).states

end

end RoundInv

/-- Every command keeps rounds, pending probes and the poll in flight in agreement. -/
theorem exec_roundInv (c : Instr) {s t : State} (road : RoadInv s) (h : RoundInv s) (he : exec c s = .next t) :
    RoundInv t := by
  have later (dt : Nat) : RoundInv (s.advance dt) := h.withTick _
  have advanced (dt : Nat) : LifecycleFrame s (s.advance dt) := s.advance_lifecycleFrame dt
  have beside (now : Tick) (i : Slot) : Beside s (s.withTick now) i := (Beside.refl s i).withTick now
  cases c with
  | zeroCrossingEdge dt => exact h.taking (exec_zeroCrossingEdge dt s) he (later dt).edge
  | missingEdgeTimeout => exact h.taking (exec_missingEdgeTimeout s) he h.missingEdge
  | stopAssertion dt steady =>
    refine h.taking (exec_stopAssertion dt steady s) he ?_
    split
    · exact (State.assertStop_probeFrame _).roundInv (later dt)
    · exact later dt
  | stopRelease dt steady =>
    refine h.taking (exec_stopRelease dt steady s) he ?_
    split
    · rw [State.releaseStop_eq]; exact (later dt).congr rfl fun _ => rfl
    · exact later dt
  | powerOn line => cases he; exact s.takeReset_roundInv _ _ line
  | supplyDip line => cases he; exact s.takeReset_roundInv _ _ line
  | frameCompleted =>
    exact h.framed (exec_frameCompleted s) he s.completeFrame_lifecycleFrame s.completeFrame_rbi
  | gapTimerExpiry => exact h.framed (exec_gapTimerExpiry s) he s.gapExpires_lifecycleFrame s.gapExpires_rbi
  | replySend => exact h.framed (exec_replySend s) he s.beginReply_lifecycleFrame s.beginReply_rbi
  | requestSlotRelease dt line => exact h.taking (exec_requestSlotRelease dt line s) he ((later dt).endReply line)
  | start => exact h.framed (exec_start s) he (s.beginNotice_lifecycleFrame _) (s.beginNotice_rbi _)
  | eventChange => exact h.framed (exec_eventChange s) he (s.beginNotice_lifecycleFrame _) (s.beginNotice_rbi _)
  | rotorChange => exact h.framed (exec_rotorChange s) he (s.beginNotice_lifecycleFrame _) (s.beginNotice_rbi _)
  | orderChange => exact h.framed (exec_orderChange s) he (s.beginNotice_lifecycleFrame _) (s.beginNotice_rbi _)
  | measurementChange =>
    exact h.framed (exec_measurementChange s) he (s.beginNotice_lifecycleFrame _) (s.beginNotice_rbi _)
  | haltChange => exact h.framed (exec_haltChange s) he (s.beginNotice_lifecycleFrame _) (s.beginNotice_rbi _)
  | identify => exact h.plainRequest (exec_identify s) he fun _ => h
  | status => exact h.plainRequest (exec_status s) he fun _ => h
  | clearSummary => exact h.plainRequest (exec_clearSummary s) he fun _ => h.congr rfl fun _ => rfl
  | setClock => exact h.plainRequest (exec_setClock s) he fun _ => h.congr rfl fun _ => rfl
  | setMode => exact h.keptRequest (exec_setMode s) he (ownSetMode_lifecycleFrame s) (ownSetMode_rbi s)
  | setMeasurement =>
    exact h.keptRequest (exec_setMeasurement s) he (ownSetMeasurement_lifecycleFrame s) (ownSetMeasurement_rbi s)
  | setEvent => exact h.keptRequest (exec_setEvent s) he (ownSetEvent_lifecycleFrame s) (ownSetEvent_rbi s)
  | setBankLimits =>
    exact h.keptRequest (exec_setBankLimits s) he (ownSetBankLimits_lifecycleFrame s) (ownSetBankLimits_rbi s)
  | setCurve => exact h.keptRequest (exec_setCurve s) he (ownSetCurve_lifecycleFrame s) (ownSetCurve_rbi s)
  | readCurve => exact h.plainRequest (exec_readCurve s) he fun _ => h
  | readEvents => exact h.plainRequest (exec_readEvents s) he fun _ => h
  | setNotices => exact h.keptRequest (exec_setNotices s) he (ownSetNotices_lifecycleFrame s) (ownSetNotices_rbi s)
  | restart => exact h.keptRequest (exec_restart s) he (ownRestart_lifecycleFrame s) (ownRestart_rbi s)
  | snapshotPart0 =>
    exact h.keptRequest (exec_snapshotPart0 s) he (ownSnapshotPart0_lifecycleFrame s) (ownSnapshotPart0_rbi s)
  | snapshotPart1 =>
    exact h.keptRequest (exec_snapshotPart1 s) he (ownSnapshotPart1_lifecycleFrame s) (ownSnapshotPart1_rbi s)
  | enrol => exact h.plainRequest (exec_enrol s) he h.ownEnrol
  | release => exact h.plainRequest (exec_release s) he h.ownRelease
  | spinUp => exact h.plainRequest (exec_spinUp s) he fun p => (ownSpinUp_probeFrame s p).roundInv h
  | park => exact h.plainRequest (exec_park s) he fun p => (ownPark_probeFrame road p).roundInv h
  | resetFault => exact h.plainRequest (exec_resetFault s) he fun p => (ownResetFault_probeFrame road p).roundInv h
  | setRotorLimits =>
    exact h.keptRequest (exec_setRotorLimits s) he (ownSetRotorLimits_lifecycleFrame s) (ownSetRotorLimits_rbi s)
  | setRotorRole =>
    exact h.keptRequest (exec_setRotorRole s) he (ownSetRotorRole_lifecycleFrame s) (ownSetRotorRole_rbi s)
  | rotorStatus =>
    exact h.request (exec_rotorStatus s) he
      (fun p => h.congr (ownRotorStatus_rbi s p) (ownRotorStatus_lifecycleFrame s p).states)
      afterRotorStatus_lifecycleFrame afterRotorStatus_rbi
  | placeOrder => exact h.keptRequest (exec_placeOrder s) he (ownPlaceOrder_lifecycleFrame s) (ownPlaceOrder_rbi s)
  | cancelOrder =>
    exact h.keptRequest (exec_cancelOrder s) he (ownCancelOrder_lifecycleFrame s) (ownCancelOrder_rbi s)
  | resumeOrder =>
    exact h.keptRequest (exec_resumeOrder s) he (ownResumeOrder_lifecycleFrame s) (ownResumeOrder_rbi s)
  | orderStatus =>
    exact h.request (exec_orderStatus s) he
      (fun p => h.congr (ownOrderStatus_rbi s p) (ownOrderStatus_lifecycleFrame s p).states)
      afterOrderStatus_lifecycleFrame afterOrderStatus_rbi
  | listOrders => exact h.plainRequest (exec_listOrders s) he fun _ => h
  | poll dt => exact h.taking (exec_poll dt s) he (later dt).pollNext
  | moduleReply dt bytes => exact h.taking (exec_moduleReply dt bytes s) he (h.busBytes road _ bytes)
  | replyWindowClose => exact h.taking (exec_replyWindowClose s) he (h.windowCloses road)
  | liftTimerExpiry i =>
    exact h.taking (exec_liftTimerExpiry i s) he <| ProbeFrame.roundInv (State.timerExpires_probeFrame fun now state =>
      State.trip_probeFrame road (beside now i) rfl rfl (state ▸ rfl) .liftTimeout) h
  | spinupTimerExpiry i =>
    exact h.taking (exec_spinupTimerExpiry i s) he <| ProbeFrame.roundInv (State.timerExpires_probeFrame fun now state =>
      State.brake_probeFrame road (beside now i) rfl rfl (state ▸ rfl) .spinupTimeout) h
  | syncTimerExpiry i =>
    exact h.taking (exec_syncTimerExpiry i s) he <| ProbeFrame.roundInv (State.timerExpires_probeFrame fun now state =>
      State.syncFails_probeFrame road (beside now i) rfl rfl rfl state) h
  | linkByteReceived dt byte broken =>
    exact h.framed (exec_linkByteReceived dt byte broken s) he
      ((advanced dt).trans (State.takeByte_lifecycleFrame _ byte broken)) (State.takeByte_rbi _ byte broken)
  | noticeFrameEnd dt =>
    exact h.framed (exec_noticeFrameEnd dt s) he ((advanced dt).trans (State.endNotice_lifecycleFrame _))
      (State.endNotice_rbi _)
  | supplyFall dt => exact h.framed (exec_supplyFall dt s) he (.of_eq rfl rfl id) rfl

/-- Settles O58: the idle step changes nothing, the queue of commands is no part of the invariant, and every command keeps
it. -/
theorem stepKeepsRoundInv : Obligations.StepKeepsRoundInv := fun s t road h stepped => by
  cases waiting : s.pending with
  | nil => simp only [step, waiting] at stepped; cases stepped; exact h
  | cons c rest =>
    simp only [step, waiting] at stepped
    exact exec_roundInv c (road.withPending rest) (h.congr rfl fun _ => rfl) stepped

end Sys2Proof.Machine
end

section
/-! The Link Interface's own operations, case by case (R160 to R169): what the receiver makes of a byte, what the check of a
complete frame does, and what is read from a frame. -/

namespace Sys2Proof.Machine

/-! ## The receiver (R160 to R162) -/

/-- The frame in assembly waits for its next byte: the gap timer is started afresh (R161, R162). -/
def State.awaitByte (s : State) (frame : List Byte) : State :=
  s.withLif { s.lif with receiver := .assembling frame, gapExpiry := some (tickAfter s.tickCount gapTicks) }

/-- The last byte has been taken: the frame is held for its check, the gap timer stopped (R161, R163). -/
def State.holdFrame (s : State) (frame : List Byte) : State :=
  s.withLif { s.lif with receiver := .complete frame, gapExpiry := none }

/-- The receiver hunts (R161). -/
def State.hunt (s : State) : State := s.withLif { s.lif with receiver := .hunting, gapExpiry := none }

theorem State.huntByte_start (s : State) : s.huntByte 0xC3#8 false = s.awaitByte [0xC3#8] := rfl

theorem State.huntByte_other {b : Byte} {broken : Bool} (other : ¬ (b = 0xC3#8 ∧ broken = false)) (s : State) :
    s.huntByte b broken = s := if_neg other

/-- Before LEN has been taken every byte is followed by another (R161). -/
theorem State.joinByte_short {bytes : List Byte} {b : Byte} (short : (bytes ++ [b]).length < 4) (s : State) :
    s.joinByte bytes b = s.awaitByte (bytes ++ [b]) := if_pos short

/-- From LEN on, LEN decides (R161). -/
theorem State.joinByte_long {bytes : List Byte} {b : Byte} (long : 4 ≤ (bytes ++ [b]).length) (s : State) :
    s.joinByte bytes b =
      if maxPayload < field (bytes ++ [b]) 3 1 then s.abandonFrame
      else if (bytes ++ [b]).length = 6 + field (bytes ++ [b]) 3 1 then s.holdFrame (bytes ++ [b])
      else s.awaitByte (bytes ++ [b]) := if_neg (Nat.not_lt.mpr long)

theorem State.takeByte_hunting {s : State} (h : s.lif.receiver = .hunting) (b : Byte) (broken : Bool) :
    s.takeByte b broken = s.huntByte b broken := by simp only [State.takeByte, h]

theorem State.takeByte_broken {s : State} {bytes : List Byte} (h : s.lif.receiver = .assembling bytes) (b : Byte) :
    s.takeByte b true = s.abandonFrame := by simp only [State.takeByte, h, if_true]

theorem State.takeByte_joins {s : State} {bytes : List Byte} (h : s.lif.receiver = .assembling bytes) (b : Byte) :
    s.takeByte b false = s.joinByte bytes b := by simp only [State.takeByte, h, Bool.false_eq_true, if_false]

theorem State.takeByte_complete {s : State} {frame : List Byte} (h : s.lif.receiver = .complete frame) (b : Byte)
    (broken : Bool) : s.takeByte b broken = (s.checkFrame frame).huntByte b broken := by
  simp only [State.takeByte, h]

theorem State.completeFrame_complete {s : State} {frame : List Byte} (h : s.lif.receiver = .complete frame) :
    s.completeFrame = s.checkFrame frame := by simp only [State.completeFrame, h]

/-! ## The check of a frame (R163 to R167) -/

theorem State.checkFrame_agrees {frame : List Byte} (agrees : linkFrameAgrees frame = true) (s : State) :
    s.checkFrame frame = s.hunt.offerRequest (requestOf frame) := if_pos agrees

theorem State.checkFrame_differs {frame : List Byte} (differs : linkFrameAgrees frame = false) (s : State) :
    s.checkFrame frame = s.abandonFrame := if_neg (by rw [differs]; exact Bool.false_ne_true)

/-- A frame that finds the slot occupied is counted as an overrun and marked (R164, R166). -/
theorem State.offerRequest_occupied {s : State} (occupied : s.lif.slot ≠ none) (r : Request) :
    s.offerRequest r =
      (s.withLif { s.lif with overrunCount := countLink s.lif.overrunCount, overrunMark := true }).raise .overrun := by
  obtain ⟨held, slot⟩ := Option.ne_none_iff_exists'.mp occupied
  simp only [State.offerRequest, slot]

theorem State.offerRequest_empty {s : State} (empty : s.lif.slot = none) (r : Request) :
    s.offerRequest r = (s.withLif { s.lif with slot := some r }).checkRequest r := by
  simp only [State.offerRequest, empty]

/-- A well-formed frame that finds the slot empty enters it (R165). -/
theorem State.checkFrame_enters {s : State} {frame : List Byte} (agrees : linkFrameAgrees frame = true)
    (empty : s.lif.slot = none) {r : Request} (carried : requestOf frame = r) :
    s.checkFrame frame = (s.hunt.withLif { s.hunt.lif with slot := some r }).checkRequest r := by
  rw [State.checkFrame_agrees agrees, State.offerRequest_empty (s := s.hunt) empty, carried]

theorem requestKindOfByte_requestKindByte (k : RequestKind) : requestKindOfByte (requestKindByte k) = some k := by
  cases k <;> rfl

theorem requestKindOfByte_eq_none {b : Byte} (unknown : ∀ k, requestKindByte k ≠ b) : requestKindOfByte b = none :=
  List.find?_eq_none.mpr fun k _ same => unknown k (beq_iff_eq.mp same)

theorem State.checkRequest_unknown {r : Request} (unknown : ∀ k, requestKindByte k ≠ r.kind) (s : State) :
    s.checkRequest r = s.formReply r .badKind [] := by
  simp only [State.checkRequest, requestKindOfByte_eq_none unknown]

theorem State.checkRequest_badLength {r : Request} {k : RequestKind} {n : Nat} (kind : requestKindByte k = r.kind)
    (fixed : fixedLength k = some n) (length : r.payload.length ≠ n) (s : State) :
    s.checkRequest r = s.formReply r .badLength [] := by
  simp only [State.checkRequest, ← kind, requestKindOfByte_requestKindByte, fixed, if_neg length]

/-- A request of a known kind, with the length fixed for it if there is one, waits for its owner (R165, R167). -/
theorem State.checkRequest_passes {r : Request} {k : RequestKind} (kind : requestKindByte k = r.kind)
    (length : ∀ n, fixedLength k = some n → r.payload.length = n) (s : State) : s.checkRequest r = s := by
  simp only [State.checkRequest, ← kind, requestKindOfByte_requestKindByte]
  cases fixed : fixedLength k with
  | none => rfl
  | some n => exact if_pos (length n fixed)

/-- The LIF's own checks leave the request to its owner, or answer it (R167). -/
theorem State.checkRequest_cases (s : State) (r : Request) :
    s.checkRequest r = s ∨ ∃ code, s.checkRequest r = s.formReply r code [] := by
  by_cases known : ∃ k, requestKindByte k = r.kind
  · obtain ⟨k, kind⟩ := known
    by_cases length : ∀ n, fixedLength k = some n → r.payload.length = n
    · exact .inl (State.checkRequest_passes kind length s)
    · simp only [not_forall] at length
      obtain ⟨n, fixed, length⟩ := length
      exact .inr ⟨_, State.checkRequest_badLength kind fixed length s⟩
  · exact .inr ⟨_, State.checkRequest_unknown (not_exists.mp known) s⟩

/-- Every check ends with the receiver hunting (R161). -/
theorem State.checkFrame_receiver (s : State) (frame : List Byte) : (s.checkFrame frame).lif.receiver = .hunting := by
  cases agrees : linkFrameAgrees frame with
  | false => rw [State.checkFrame_differs agrees]; rfl
  | true =>
    rw [State.checkFrame_agrees agrees]
    by_cases empty : s.hunt.lif.slot = none
    · rw [State.offerRequest_empty empty]
      obtain same | ⟨code, answered⟩ := State.checkRequest_cases (s.hunt.withLif _) (requestOf frame)
      · rw [same]; rfl
      · rw [answered]; rfl
    · rw [State.offerRequest_occupied empty]; rfl

/-! ## The bytes of a frame (R161, R163, R191) -/

/-- A one-byte field is the byte at its offset (R189). -/
theorem field_of_getElem? {bytes : List Byte} {i : Nat} {b : Byte} (h : bytes[i]? = some b) :
    field bytes i 1 = b.toNat := by
  obtain ⟨inRange, rfl⟩ := List.getElem?_eq_some_iff.mp h
  rw [field, List.drop_eq_getElem_cons inRange, List.take_succ_cons, List.take_zero, beNat_singleton]

/-- LEN is read as soon as it has been taken, whatever follows it (R161). -/
theorem field_append {bytes : List Byte} {i : Nat} (inRange : i < bytes.length) (more : List Byte) :
    field (bytes ++ more) i 1 = field bytes i 1 := by
  rw [field_of_getElem? (List.getElem?_append_left inRange ▸ List.getElem?_eq_getElem inRange),
    field_of_getElem? (List.getElem?_eq_getElem inRange)]

/-- What a frame's CRC covers is all between START and the two check bytes (R163). -/
theorem coveredBytes_frame (start : Byte) (body : List Byte) {check : List Byte} (length : check.length = 2) :
    coveredBytes (start :: (body ++ check)) = body := by
  rw [coveredBytes, List.drop_one, List.tail_cons]
  exact List.take_left' (by simp [length])

theorem checkBytes_frame (start : Byte) (body : List Byte) {check : List Byte} (length : check.length = 2) :
    (start :: (body ++ check)).drop ((start :: (body ++ check)).length - 2) = check := by
  rw [← List.cons_append]
  exact List.drop_left' (by simp [length])

theorem linkFrameAgrees_iff (frame : List Byte) :
    linkFrameAgrees frame = true ↔
      frame.drop (frame.length - 2) = crcBytes ((frame.drop 1).take (frame.length - 3)) := beq_iff_eq

/-- A frame closed by the CRC of its covered bytes agrees (R163). -/
theorem linkFrameAgrees_linkFrame (kind tag : Byte) (payload : List Byte) :
    linkFrameAgrees (linkFrame kind tag payload) = true := by
  rw [linkFrame, List.cons_append, linkFrameAgrees, checkBytes_frame _ _ (crcBytes_length _),
    coveredBytes_frame _ _ (crcBytes_length _)]
  exact beq_self_eq_true _

/-- A frame is read as the kind, tag and payload that it carries (R191). -/
theorem requestOf_frame (start kind tag len : Byte) (payload : List Byte) {check : List Byte}
    (length : check.length = 2) :
    requestOf (start :: kind :: tag :: len :: payload ++ check) = ⟨kind, tag, payload, false⟩ := by
  have payload_read : (payload ++ check).take
      ((start :: kind :: tag :: len :: payload ++ check).length - 6) = payload :=
    List.take_left' (by simp [length])
  have byte_read {i : Nat} {b : Byte} (place : (start :: kind :: tag :: len :: payload ++ check)[i]? = some b) :=
    byteOf_field (field_of_getElem? place)
  rw [requestOf, byte_read (i := 1) rfl, byte_read (i := 2) rfl]
  exact congrArg (Request.mk kind tag · false) payload_read

end Sys2Proof.Machine
end

section
/-! What the spec says always holds of the link (`LinkInv`), through the Link Interface's own operations: those that leave
the slot, the replies and the receiver as they are (`LinkKept`), the receiver's, the slot's, the transmitter's (R160 to
R171). -/

namespace Sys2Proof.Machine

/-- From s to t the receiver, the slot and the replies are left, and no link counter has risen. -/
structure LinkKept (s t : State) : Prop where
  receiver : t.lif.receiver = s.lif.receiver
  gapExpiry : t.lif.gapExpiry = s.lif.gapExpiry
  slot : t.lif.slot = s.lif.slot
  waiting : t.lif.waiting = s.lif.waiting
  sending : t.lif.sending = s.lif.sending
  counters : t.lif.gapCount ≤ s.lif.gapCount ∧ t.lif.crcCount ≤ s.lif.crcCount ∧
    t.lif.overrunCount ≤ s.lif.overrunCount

namespace LinkKept

/-- An operation that writes none of the LIF but the pending notices. -/
theorem of_notices {s t : State} {n : NoticeSet} (lif : t.lif = { s.lif with pendingNotices := n }) : LinkKept s t := by
  constructor <;> simp [lif]

theorem of_lif {s t : State} (lif : t.lif = s.lif) : LinkKept s t := of_notices lif

theorem refl (s : State) : LinkKept s s := of_lif rfl

theorem trans {s t u : State} (h : LinkKept s t) (k : LinkKept t u) : LinkKept s u where
  receiver := k.receiver.trans h.receiver
  gapExpiry := k.gapExpiry.trans h.gapExpiry
  slot := k.slot.trans h.slot
  waiting := k.waiting.trans h.waiting
  sending := k.sending.trans h.sending
  counters :=
    have ⟨gap, crc, overrun⟩ := h.counters
    have ⟨gap', crc', overrun'⟩ := k.counters
    ⟨gap'.trans gap, crc'.trans crc, overrun'.trans overrun⟩

/-- A branch keeps the link when both its arms do. -/
theorem ite {c : Prop} [Decidable c] {s t u : State} (ht : LinkKept s t) (hu : LinkKept s u) :
    LinkKept s (if c then t else u) := by
  split
  · exact ht
  · exact hu

/-- A choice between two answers keeps the link when both answers do. -/
theorem answer_ite {c : Prop} [Decidable c] {s : State} {a b : Answer} (ha : LinkKept s a.state)
    (hb : LinkKept s b.state) : LinkKept s (if c then a else b).state := by
  split
  · exact ha
  · exact hb

end LinkKept

theorem countLink_le (n : Nat) : countLink n ≤ 65535 := Nat.min_le_left _ _

namespace LinkInv

variable {s : State}

theorem kept {t : State} (h : LinkInv s) (kept : LinkKept s t) : LinkInv t := by
  obtain ⟨receiver, gapExpiry, slot, waiting, sending, gap, crc, overrun⟩ := kept
  have taken : t.lif.slotTaken = s.lif.slotTaken := by rw [Lif.slotTaken, slot]; rfl
  have replying : t.lif.sendingReply = s.lif.sendingReply := by rw [Lif.sendingReply, sending]; rfl
  have assembly : t.lif.inAssembly = s.lif.inAssembly := by rw [Lif.inAssembly, receiver]; rfl
  obtain ⟨gap', crc', overrun'⟩ := h.counters
  refine ⟨?_, ?_, ?_, ?_, gap.trans gap', crc.trans crc', overrun.trans overrun'⟩
  · rw [taken, waiting, replying]; exact h.reply
  · rw [waiting, replying]; exact h.oneReply
  · rw [gapExpiry, assembly]; exact h.gap
  · rw [receiver]; exact h.fits

/-! ## The receiver (R160 to R162, R164) -/

theorem awaitByte (h : LinkInv s) {frame : List Byte} (fits : (Receiver.assembling frame).fits) :
    LinkInv (s.awaitByte frame) := ⟨h.reply, h.oneReply, rfl, fits, h.counters⟩

theorem holdFrame (h : LinkInv s) {frame : List Byte} (fits : (Receiver.complete frame).fits) :
    LinkInv (s.holdFrame frame) := ⟨h.reply, h.oneReply, rfl, fits, h.counters⟩

theorem hunt (h : LinkInv s) : LinkInv s.hunt := ⟨h.reply, h.oneReply, rfl, trivial, h.counters⟩

theorem abandonFrame (h : LinkInv s) : LinkInv s.abandonFrame :=
  have ⟨gap, _, overrun⟩ := h.counters
  ⟨h.reply, h.oneReply, rfl, trivial, gap, countLink_le _, overrun⟩

theorem abandonByGap (h : LinkInv s) : LinkInv s.abandonByGap :=
  have ⟨_, crc, overrun⟩ := h.counters
  ⟨h.reply, h.oneReply, rfl, trivial, countLink_le _, crc, overrun⟩

theorem huntByte (h : LinkInv s) (b : Byte) (broken : Bool) : LinkInv (s.huntByte b broken) := by
  by_cases start : b = 0xC3#8 ∧ broken = false
  · obtain ⟨rfl, rfl⟩ := start
    exact h.awaitByte (.inl (by decide))
  · rw [State.huntByte_other start]
    exact h

/-- A frame in assembly is short of what LEN asks for, so one more byte completes it or leaves it short (R161). -/
theorem joinByte (h : LinkInv s) {bytes : List Byte} (assembling : s.lif.receiver = .assembling bytes) (b : Byte) :
    LinkInv (s.joinByte bytes b) := by
  have length : (bytes ++ [b]).length = bytes.length + 1 := by simp
  by_cases short : (bytes ++ [b]).length < 4
  · rw [State.joinByte_short short]
    exact h.awaitByte (.inl short)
  · rw [State.joinByte_long (Nat.not_lt.mp short)]
    split
    · exact h.abandonFrame
    · next len =>
      split
      · next last => exact h.holdFrame ⟨Nat.not_lt.mp len, last⟩
      · next more =>
        have fits := h.fits
        rw [assembling] at fits
        refine h.awaitByte (.inr ⟨Nat.not_lt.mp len, ?_⟩)
        obtain few | ⟨-, asked⟩ := fits
        · omega
        · by_cases four : 3 < bytes.length
          · rw [field_append four] at more ⊢
            omega
          · omega

/-! ## The slot (R165 to R167) -/

/-- A reply is formed for a request that has not been taken, so none waits and none is being sent (R165, R169). -/
theorem formReply (h : LinkInv s) (untaken : s.lif.slotTaken = false) (r : Request) (code : ResultCode)
    (body : List Byte) : LinkInv (s.formReply r code body) := by
  have none_ := h.reply
  rw [untaken, eq_comm, Bool.or_eq_false_iff] at none_
  exact ⟨rfl, none_.2, h.gap, h.fits, h.counters⟩

theorem offerRequest (h : LinkInv s) {r : Request} (untaken : r.taken = false) : LinkInv (s.offerRequest r) := by
  by_cases empty : s.lif.slot = none
  · have unreplied : s.lif.slotTaken = false := by rw [Lif.slotTaken, empty]
    have filled : LinkInv (s.withLif { s.lif with slot := some r }) :=
      ⟨untaken.trans (unreplied.symm.trans h.reply), h.oneReply, h.gap, h.fits, h.counters⟩
    rw [State.offerRequest_empty empty]
    obtain same | ⟨code, answered⟩ := State.checkRequest_cases (s.withLif { s.lif with slot := some r }) r
    · rw [same]; exact filled
    · rw [answered]; exact filled.formReply untaken r code []
  · rw [State.offerRequest_occupied empty]
    have ⟨gap, crc, _⟩ := h.counters
    exact ⟨h.reply, h.oneReply, h.gap, h.fits, gap, crc, countLink_le _⟩

theorem checkFrame (h : LinkInv s) (frame : List Byte) : LinkInv (s.checkFrame frame) := by
  cases agrees : linkFrameAgrees frame with
  | true => rw [State.checkFrame_agrees agrees]; exact h.hunt.offerRequest rfl
  | false => rw [State.checkFrame_differs agrees]; exact h.abandonFrame

theorem completeFrame (h : LinkInv s) : LinkInv s.completeFrame := by
  unfold State.completeFrame
  split
  case h_3 => exact h.checkFrame _
  all_goals exact h

theorem takeByte (h : LinkInv s) (b : Byte) (broken : Bool) : LinkInv (s.takeByte b broken) := by
  cases receiver : s.lif.receiver with
  | hunting => rw [State.takeByte_hunting receiver]; exact h.huntByte b broken
  | complete frame => rw [State.takeByte_complete receiver]; exact (h.checkFrame frame).huntByte b broken
  | assembling bytes =>
    cases broken with
    | true => rw [State.takeByte_broken receiver]; exact h.abandonFrame
    | false => rw [State.takeByte_joins receiver]; exact h.joinByte receiver b

theorem gapExpires (h : LinkInv s) : LinkInv s.gapExpires := by
  unfold State.gapExpires
  split
  · exact h
  · exact (h.kept (.of_lif (State.advanceTo_lif s _))).abandonByGap

/-! ## The transmitter (R170, R171) -/

/-- A reply that waits is none that is being sent, so the slot is taken for it alone (R165, R170). -/
theorem beginReply (h : LinkInv s) : LinkInv s.beginReply := by
  unfold State.beginReply
  split
  · next sending waiting =>
    have taken := h.reply
    rw [waiting] at taken
    exact ⟨taken, rfl, h.gap, h.fits, h.counters⟩
  · exact h

/-- A notice is no reply: its beginning and its end leave the replies as they are (R170). -/
theorem sendNotice (h : LinkInv s) (quiet : s.lif.sendingReply = false) {sending : Option Sending}
    (notice : ∀ f, sending = some f → f.isReply = false) {n : NoticeSet} {t : State}
    (lif : t.lif = { s.lif with sending := sending, pendingNotices := n }) : LinkInv t := by
  have still : t.lif.sendingReply = s.lif.sendingReply := by
    rw [quiet, Lif.sendingReply, lif]
    cases sending with
    | none => rfl
    | some f => exact notice f rfl
  have taken : t.lif.slotTaken = s.lif.slotTaken := by rw [lif]; rfl
  have waiting : t.lif.waiting = s.lif.waiting := by rw [lif]
  refine ⟨?_, ?_, ?_, ?_, ?_⟩
  · rw [taken, waiting, still]; exact h.reply
  · rw [waiting, still]; exact h.oneReply
  all_goals rw [lif]
  · exact h.gap
  · exact h.fits
  · exact h.counters

theorem beginNotice (h : LinkInv s) (k : NoticeKind) : LinkInv (s.beginNotice k) := by
  by_cases may : s.lif.mayBegin k = true
  · obtain ⟨⟨sending, waiting⟩, lowest⟩ := (s.lif.mayBegin_iff k).mp may
    rw [State.beginNotice_begins sending waiting lowest]
    refine h.sendNotice ?_ (fun f begun => ?_) rfl
    · rw [Lif.sendingReply, sending]
    · cases begun; rfl
  · rw [State.beginNotice, if_neg may]
    exact h

theorem endNotice (h : LinkInv s) : LinkInv s.endNotice := by
  unfold State.endNotice
  split
  · next f sending =>
    split
    · exact h
    · next notice =>
      refine h.sendNotice (sending := none) ?_ nofun rfl
      rw [Lif.sendingReply, sending]
      exact Bool.eq_false_of_not_eq_true notice
  · exact h

/-- A reset leaves the link as a POWER_ON reset does (R176, R184). -/
theorem takeReset (s : State) (cause : ResetCause) (t : Tick) (line : StopLevel) :
    LinkInv (s.takeReset cause t line) := by
  refine linkInv_reset.kept ?_
  rw [State.takeReset_eq]
  exact .of_notices rfl

/-- With its last byte the reply leaves the transmitter, and its request the slot (R165, R171). -/
theorem endReply (h : LinkInv s) (line : StopLevel) : LinkInv (s.endReply line) := by
  unfold State.endReply
  split
  · next f sending =>
    split
    · next reply =>
      split
      · exact takeReset s _ _ line
      · have alone := h.oneReply
        simp only [Lif.sendingReply, sending, reply, Bool.and_true] at alone
        refine ⟨?_, ?_, h.gap, h.fits, h.counters⟩
        · rw [State.withLif_lif, alone]; rfl
        · rw [State.withLif_lif, alone]; rfl
    · exact h
  · exact h

end LinkInv

end Sys2Proof.Machine
end

section
/-! What leaves the link as it is but for its notices (R92, R114, R144, R172): the rotors and their bus, samples, the stop
line, and the owners of the requests. One lemma an operation, in the order of the model's definitions. -/

namespace Sys2Proof.Machine

theorem State.withRsq_linkKept (s : State) (x : Rsq) : LinkKept s (s.withRsq x) := .of_lif rfl
theorem State.withRbi_linkKept (s : State) (x : Rbi) : LinkKept s (s.withRbi x) := .of_lif rfl
theorem State.withFmu_linkKept (s : State) (x : Fmu) : LinkKept s (s.withFmu x) := .of_lif rfl
theorem State.setRotor_linkKept (s : State) (i : Slot) (r : RotorRecord) : LinkKept s (s.setRotor i r) := .of_lif rfl
theorem State.advanceTo_linkKept (s : State) (t : Tick) : LinkKept s (s.advanceTo t) := .of_lif (s.advanceTo_lif t)

/-! ## The Rotor Sequencer (chapter 07) -/

theorem State.noteRotor_linkKept (s : State) (i : Slot) : LinkKept s (s.noteRotor i) := .of_notices (s.noteRotor_lif i)

theorem State.changeRotor_linkKept (s : State) (i : Slot) (st : RotorState) (cause : Option RotorCause) :
    LinkKept s (s.changeRotor i st cause) := .of_notices (s.changeRotor_lif i st cause)

theorem State.handOn_linkKept (s : State) : LinkKept s s.handOn := by
  have admitted (fuel : Nat) (u : State) : LinkKept u (State.admitAll fuel u) := by
    induction fuel generalizing u with
    | zero => exact .refl u
    | succ fuel ih =>
      obtain same | ⟨_, i, rest, more, -, -, admits⟩ := State.admit_cases (fuel + 1) u
      · rw [same]; exact .refl u
      · cases more
        rw [admits]
        exact ((u.withRsq_linkKept _).trans (State.changeRotor_linkKept _ i _ _)).trans (ih _)
  refine (admitted spinUpSlots s).trans ?_
  obtain ⟨same, -⟩ | ⟨i, rest, -, -, hands⟩ := (State.admitAll spinUpSlots s).handOver_cases
  · rw [State.handOn, same]; exact .refl _
  · rw [State.handOn, hands]
    exact (State.withRsq_linkKept _ _).trans <| (State.setRotor_linkKept _ i _).trans <|
      State.changeRotor_linkKept _ i _ _

/-- What a move leaves of its slot is noted, and what it frees or fills is handed on (R121, R130, R133, R144). -/
theorem LinkKept.move {s u : State} (written : LinkKept s u) (i : Slot) (st : RotorState) (cause : Option RotorCause) :
    LinkKept s (u.changeRotor i st cause).handOn :=
  written.trans ((u.changeRotor_linkKept i st cause).trans (State.handOn_linkKept _))

theorem State.joinSpinUp_linkKept (s : State) (i : Slot) : LinkKept s (s.joinSpinUp i) :=
  ((s.withRsq_linkKept _).trans (State.withRsq_linkKept _ _)).move i _ _

theorem State.joinSync_linkKept (s : State) (i : Slot) : LinkKept s (s.joinSync i) :=
  ((s.withRsq_linkKept _).trans (State.withRsq_linkKept _ _)).move i _ _

theorem State.brake_linkKept (s : State) (i : Slot) (cause : RotorCause) : LinkKept s (s.brake i cause) :=
  ((s.withRsq_linkKept _).trans (State.setRotor_linkKept _ i _)).move i _ _

theorem State.settle_linkKept (s : State) (i : Slot) (cause : Option RotorCause) : LinkKept s (s.settle i cause) :=
  ((s.withRsq_linkKept _).trans (State.setRotor_linkKept _ i _)).move i _ _

theorem State.trip_linkKept (s : State) (i : Slot) (cause : RotorCause) : LinkKept s (s.trip i cause) :=
  (LinkKept.of_notices (s.tripOnly_lif i cause)).trans (State.handOn_linkKept _)

theorem State.tripFault_linkKept (s : State) (i : Slot) (code : FaultCode) : LinkKept s (s.tripFault i code) :=
  (s.setRotor_linkKept i _).trans (State.trip_linkKept _ i _)

theorem State.probeReply_linkKept (s : State) (i : Slot) : LinkKept s (s.probeReply i) :=
  .ite (s.tripFault_linkKept i _) <| .ite (s.changeRotor_linkKept i _ _) <| .ite (s.trip_linkKept i _) <|
    .ite (s.joinSync_linkKept i) (s.joinSpinUp_linkKept i)

theorem State.progress_linkKept (s : State) (i : Slot) : LinkKept s (s.progress i) := by
  simp only [State.progress]
  split
  case h_4 => exact .ite (s.joinSpinUp_linkKept i) (.refl s)
  case h_6 => exact .ite (s.joinSync_linkKept i) (.refl s)
  case h_7 => exact .ite (s.joinSpinUp_linkKept i) (.refl s)
  case h_8 =>
    exact .ite (((s.withRsq_linkKept _).trans (State.setRotor_linkKept _ i _)).move i _ _) (.refl s)
  case h_10 => exact .ite (s.settle_linkKept i none) (.refl s)
  all_goals exact .refl s

theorem State.sequenceReply_linkKept (s : State) (i : Slot) : LinkKept s (s.sequenceReply i) := by
  have tested : LinkKept s (s.replyTests i) :=
    .ite (s.tripFault_linkKept i _) <| .ite (s.trip_linkKept i _) (s.progress_linkKept i)
  unfold State.sequenceReply
  split
  case h_1 | h_11 => exact .refl s
  case h_2 => exact s.probeReply_linkKept i
  all_goals exact tested

theorem State.sequenceLate_linkKept (s : State) (i : Slot) : LinkKept s (s.sequenceLate i) := by
  have counted : LinkKept s (s.setRotor i (s.rotor i).countLate) := s.setRotor_linkKept i _
  have tripped : LinkKept s (s.lateTrip i) := counted.trans (.ite (State.trip_linkKept _ i _) (.refl _))
  have rewritten (u : State) : LinkKept u (u.rewriteLost i) :=
    .ite (.refl u) ((u.setRotor_linkKept i _).trans (State.noteRotor_linkKept _ i))
  unfold State.sequenceLate
  split
  case h_1 => exact .refl s
  case h_2 =>
    exact (s.withRsq_linkKept _).trans ((State.setRotor_linkKept _ i _).trans (State.noteRotor_linkKept _ i))
  case h_3 => exact counted.trans (.ite (rewritten _) (.refl _))
  all_goals exact tripped

/-! ## The Rotor Bus Interface (chapter 08) -/

theorem State.continueRound_linkKept (s : State) : LinkKept s s.continueRound := .of_lif s.continueRound_lif

theorem State.pollNext_linkKept (s : State) : LinkKept s s.pollNext := by
  unfold State.pollNext
  split
  · unfold State.takeTurn
    split
    · exact .ite (.ite (.of_lif rfl) (.refl s)) ((s.withRbi_linkKept _).trans (State.continueRound_linkKept _))
    · exact .ite (.of_lif rfl) (.refl s)
    · exact .of_lif s.endRound_lif
  · exact .refl s

/-- A poll has ended, and the round goes on (R153, R154, R156). -/
theorem LinkKept.pollEnds {s : State} {c : Prop} [Decidable c] {x : Rbi} {u : State} (acts : LinkKept (s.withRbi x) u) :
    LinkKept s (if c then s.withRbi x else u).continueRound :=
  (s.withRbi_linkKept x).trans ((LinkKept.ite (.refl _) acts).trans (State.continueRound_linkKept _))

theorem State.takeReport_linkKept (s : State) (p : Poll) (m : ModuleReport) : LinkKept s (s.takeReport p m) :=
  .pollEnds ((State.setRotor_linkKept _ _ _).trans (State.sequenceReply_linkKept _ _))

theorem State.busBytes_linkKept (s : State) (bytes : List Byte) : LinkKept s (s.busBytes bytes) := by
  have received (u : State) (frame : List Byte) : LinkKept u (u.busFrame frame) := by
    unfold State.busFrame
    split
    · exact .ite (u.takeReport_linkKept _ _) (.refl u)
    · exact .refl u
  obtain ⟨-, h⟩ | ⟨-, -, h⟩ | ⟨frame, -, -, h⟩ := s.busBytes_cases bytes <;> rw [h]
  · exact s.withRbi_linkKept _
  · exact s.withRbi_linkKept _
  · exact (s.withRbi_linkKept _).trans (received _ frame)

theorem State.windowCloses_linkKept (s : State) : LinkKept s s.windowCloses := by
  unfold State.windowCloses
  split
  · exact .refl s
  · exact (s.advanceTo_linkKept _).trans (.pollEnds (State.sequenceLate_linkKept _ _))

/-- A rotor timer's expiry leaves the link when what it does leaves it. -/
theorem State.timerExpires_linkKept (s : State) (i : Slot) (st : RotorState) {act : State → State}
    (h : ∀ s, LinkKept s (act s)) : LinkKept s (s.timerExpires i st act) := by
  unfold State.timerExpires
  split
  · exact .refl s
  · exact .ite ((s.advanceTo_linkKept _).trans (h _)) (.refl s)

/-! ## Samples and the stop line (R6, R52, R53) -/

theorem State.passage_linkKept (s : State) (t : Tick) (valid : Bool) : LinkKept s (s.passage t valid) :=
  .of_notices (s.passage_lif t valid)

theorem State.edge_linkKept (s : State) : LinkKept s s.edge := by
  cases last : s.fmu.lastEdge with
  | none => rw [State.edge_first last]; exact s.withFmu_linkKept _
  | some last' => rw [State.edge_next last]; exact (s.withFmu_linkKept _).trans (State.passage_linkKept _ _ _)

theorem State.missingEdge_linkKept (s : State) : LinkKept s s.missingEdge :=
  (s.advanceTo_linkKept _).trans ((State.withFmu_linkKept _ _).trans (State.passage_linkKept _ _ _))

theorem State.assertStop_linkKept (s : State) : LinkKept s s.assertStop :=
  have ⟨_, _, _, lif⟩ := s.assertStop_stopTaken.lif
  .of_notices lif

theorem State.releaseStop_linkKept (s : State) : LinkKept s s.releaseStop := by
  rw [State.releaseStop_eq]
  exact .of_notices rfl

/-! ## The owners of the requests (chapters 02, 03, 09, 10) -/

theorem ownSetMode_linkKept (s : State) (p : List Byte) : LinkKept s (ownSetMode s p).state := by
  unfold ownSetMode
  split
  · exact .refl s
  · split <;> exact .of_lif rfl

theorem ownSetMeasurement_linkKept (s : State) (p : List Byte) : LinkKept s (ownSetMeasurement s p).state := by
  refine .answer_ite (.refl s) ?_
  split
  · exact .refl s
  · rw [accept, State.setMeasurement, State.addMeasurementNoticeIf_eq]
    exact .of_notices rfl

theorem ownSetEvent_linkKept (s : State) (p : List Byte) : LinkKept s (ownSetEvent s p).state := by
  unfold ownSetEvent
  split <;> exact .of_lif rfl

theorem ownSetNotices_linkKept (s : State) (p : List Byte) : LinkKept s (ownSetNotices s p).state := by
  unfold ownSetNotices
  split
  · exact .refl s
  · exact ⟨rfl, rfl, rfl, rfl, rfl, le_rfl, le_rfl, le_rfl⟩

/-- The counters are cleared, and nothing else of the link (R178). -/
theorem ownClearSummary_linkKept (s : State) (p : List Byte) : LinkKept s (ownClearSummary s p).state :=
  ⟨rfl, rfl, rfl, rfl, rfl, Nat.zero_le _, Nat.zero_le _, Nat.zero_le _⟩

theorem ownSnapshotPart1_linkKept (s : State) (p : List Byte) : LinkKept s (ownSnapshotPart1 s p).state := by
  unfold ownSnapshotPart1
  split <;> exact .of_lif rfl

/-! ## The owners of the requests (chapters 04 and 07) -/

theorem ownEnrol_linkKept (s : State) (p : List Byte) : LinkKept s (ownEnrol s p).state := by
  have enrolled (i : Slot) (r : RotorRecord) : LinkKept s (s.enrol i r) := .of_notices (State.noteRotor_lif _ i)
  unfold ownEnrol
  split
  · exact .refl s
  · refine .answer_ite (.refl s) (.answer_ite (.refl s) ?_)
    split
    · exact .answer_ite (.refl s) (enrolled _ _)
    · exact .refl s

theorem ownRelease_linkKept (s : State) (p : List Byte) : LinkKept s (ownRelease s p).state := by
  have released (i : Slot) : LinkKept s (s.releaseSlot i) := .of_notices (State.noteRotor_lif _ i)
  unfold ownRelease
  split
  · exact .refl s
  · exact .answer_ite (released _) (.refl s)

theorem ownSpinUp_linkKept (s : State) (p : List Byte) : LinkKept s (ownSpinUp s p).state := by
  have lifted (i : Slot) : LinkKept s (s.startLift i) := .of_notices (State.changeRotor_lif _ i _ _)
  unfold ownSpinUp
  split
  · exact .refl s
  · exact .answer_ite (.refl s) (.answer_ite (.refl s) (lifted _))

theorem ownPark_linkKept (s : State) (p : List Byte) : LinkKept s (ownPark s p).state := by
  have braked (i : Slot) : LinkKept s (s.brake i .host) := s.brake_linkKept i .host
  unfold ownPark
  split
  · exact .refl s
  · split
    case h_4 => exact .answer_ite (s.settle_linkKept _ _) (braked _)
    case h_9 => exact .answer_ite (.refl s) (braked _)
    case h_5 | h_6 | h_7 | h_8 => exact braked _
    all_goals exact .refl s

theorem ownResetFault_linkKept (s : State) (p : List Byte) : LinkKept s (ownResetFault s p).state := by
  unfold ownResetFault
  split
  · exact .refl s
  · exact .answer_ite ((s.setRotor_linkKept _ _).trans (State.settle_linkKept _ _ _)) (.refl s)

theorem ownSetRotorLimits_linkKept (s : State) (p : List Byte) : LinkKept s (ownSetRotorLimits s p).state := by
  unfold ownSetRotorLimits
  split
  · exact .refl s
  · exact .answer_ite (.refl s) (.of_lif rfl)

theorem ownSetRotorRole_linkKept (s : State) (p : List Byte) : LinkKept s (ownSetRotorRole s p).state := by
  unfold ownSetRotorRole
  split
  · exact .refl s
  · refine .answer_ite (.refl s) ?_
    split <;> exact .of_lif rfl

theorem ownRotorStatus_linkKept (s : State) (p : List Byte) : LinkKept s (ownRotorStatus s p).state := by
  unfold ownRotorStatus
  split
  · exact .refl s
  · exact .answer_ite (.refl s) (.refl s)

theorem afterRotorStatus_linkKept (s : State) (p : List Byte) : LinkKept s (afterRotorStatus s p) := by
  unfold afterRotorStatus
  split
  · exact .refl s
  · exact .ite (.of_lif rfl) (.refl s)

/-! ## The owners of the requests (chapter 06) -/

theorem ownPlaceOrder_linkKept (s : State) (p : List Byte) : LinkKept s (ownPlaceOrder s p).state := by
  unfold ownPlaceOrder
  split
  · exact .refl s
  · exact .answer_ite (.refl s) <| .answer_ite (.refl s) <| .answer_ite (.refl s) <| .answer_ite (.refl s) <|
      .answer_ite (.refl s) (.of_lif rfl)

theorem ownCancelOrder_linkKept (s : State) (p : List Byte) : LinkKept s (ownCancelOrder s p).state := by
  refine .answer_ite (.refl s) ?_
  split
  · exact .refl s
  · exact .answer_ite (.refl s) (.of_notices (State.reviseOrders_lif s _))

theorem ownResumeOrder_linkKept (s : State) (p : List Byte) : LinkKept s (ownResumeOrder s p).state := by
  refine .answer_ite (.refl s) ?_
  split
  · exact .refl s
  · split
    case h_1 => exact .of_notices (State.reviseOrders_lif s _)
    all_goals exact .refl s

theorem ownOrderStatus_linkKept (s : State) (p : List Byte) : LinkKept s (ownOrderStatus s p).state := by
  refine .answer_ite (.refl s) ?_
  split <;> exact .refl s

/-- A retired id may take its notice with it (R112, R114). -/
theorem afterOrderStatus_linkKept (s : State) (p : List Byte) : LinkKept s (afterOrderStatus s p) := by
  unfold afterOrderStatus
  split
  · exact .refl s
  · exact .ite (.ite (.of_notices rfl) (.of_lif rfl)) (.refl s)

end Sys2Proof.Machine
end

section
/-! Every command keeps what the spec says always holds of the request slot, the replies, the receiver and the link counters.
This settles O56. -/

namespace Sys2Proof.Machine

namespace LinkInv

section
variable {c : Instr} {s t : State} {f : State → State} {k : RequestKind} {suits : List Byte → Bool}
  {owner : State → List Byte → Answer} {after_ : State → List Byte → State} (h : LinkInv s)
include h

/-- A command keeps the link when what the part does for it does. -/
theorem taking (meaning : exec c s = s.taking f) (he : exec c s = .next t) (inv : LinkInv (f s)) : LinkInv t := by
  rw [meaning] at he
  cases up : s.supply with
  | up => rw [State.taking_up up] at he; cases he; exact inv
  | down => rw [State.taking_down up] at he; cases he; exact h

/-- A command that is no concern of the link's. -/
theorem beside (meaning : exec c s = s.taking f) (he : exec c s = .next t) (kept : LinkKept s (f s)) : LinkInv t :=
  h.taking meaning he (h.kept kept)

/-- The owner of a request finds it untaken, and leaves it in the slot until its reply is formed (R165, R169). -/
theorem request (meaning : exec c s = s.taking fun s => s.takeRequest k suits owner after_) (he : exec c s = .next t)
    (owned : ∀ p, LinkKept s (owner s p).state) (followed : ∀ u p, LinkKept u (after_ u p)) : LinkInv t := by
  refine h.taking meaning he ?_
  obtain same | ⟨r, slot, -, taken, -, answered⟩ := s.takeRequest_cases k suits owner after_
  · rw [same]; exact h
  · have untaken : (owner s r.payload).state.lif.slotTaken = false := by
      rw [Lif.slotTaken, (owned r.payload).slot, slot]; exact taken
    rw [answered]
    exact ((h.kept (owned r.payload)).formReply untaken _ _ _).kept (followed _ _)

/-- A request that nothing follows. -/
theorem plainRequest (meaning : exec c s = s.taking fun s => s.takeRequest k suits owner nothingAfter)
    (he : exec c s = .next t) (owned : ∀ p, LinkKept s (owner s p).state) : LinkInv t :=
  h.request meaning he owned fun u _ => .refl u

end

end LinkInv

/-- Every command keeps the request slot, the replies, the receiver and the gap timer in agreement. -/
theorem exec_linkInv (c : Instr) {s t : State} (h : LinkInv s) (he : exec c s = .next t) : LinkInv t := by
  have advanced (dt : Nat) : LinkKept s (s.advance dt) := .of_lif rfl
  have later (dt : Nat) : LinkInv (s.advance dt) := h.kept (advanced dt)
  cases c with
  | zeroCrossingEdge dt => exact h.beside (exec_zeroCrossingEdge dt s) he ((advanced dt).trans (State.edge_linkKept _))
  | missingEdgeTimeout => exact h.beside (exec_missingEdgeTimeout s) he s.missingEdge_linkKept
  | stopAssertion dt steady =>
    exact h.beside (exec_stopAssertion dt steady s) he
      (.ite ((advanced dt).trans (State.assertStop_linkKept _)) (advanced dt))
  | stopRelease dt steady =>
    exact h.beside (exec_stopRelease dt steady s) he
      (.ite ((advanced dt).trans (State.releaseStop_linkKept _)) (advanced dt))
  | powerOn line => cases he; exact .takeReset s _ _ line
  | supplyDip line => cases he; exact .takeReset s _ _ line
  | frameCompleted => exact h.taking (exec_frameCompleted s) he h.completeFrame
  | gapTimerExpiry => exact h.taking (exec_gapTimerExpiry s) he h.gapExpires
  | replySend => exact h.taking (exec_replySend s) he h.beginReply
  | requestSlotRelease dt line => exact h.taking (exec_requestSlotRelease dt line s) he ((later dt).endReply line)
  | start => exact h.taking (exec_start s) he (h.beginNotice _)
  | eventChange => exact h.taking (exec_eventChange s) he (h.beginNotice _)
  | rotorChange => exact h.taking (exec_rotorChange s) he (h.beginNotice _)
  | orderChange => exact h.taking (exec_orderChange s) he (h.beginNotice _)
  | measurementChange => exact h.taking (exec_measurementChange s) he (h.beginNotice _)
  | haltChange => exact h.taking (exec_haltChange s) he (h.beginNotice _)
  | identify => exact h.plainRequest (exec_identify s) he fun _ => .refl s
  | status => exact h.plainRequest (exec_status s) he fun _ => .refl s
  | clearSummary => exact h.plainRequest (exec_clearSummary s) he (ownClearSummary_linkKept s)
  | setClock => exact h.plainRequest (exec_setClock s) he fun _ => .of_lif rfl
  | setMode => exact h.plainRequest (exec_setMode s) he (ownSetMode_linkKept s)
  | setMeasurement => exact h.plainRequest (exec_setMeasurement s) he (ownSetMeasurement_linkKept s)
  | setEvent => exact h.plainRequest (exec_setEvent s) he (ownSetEvent_linkKept s)
  | setBankLimits =>
    exact h.plainRequest (exec_setBankLimits s) he fun _ => .answer_ite (.refl s) (.of_lif rfl)
  | setCurve =>
    exact h.plainRequest (exec_setCurve s) he fun _ => .answer_ite (.refl s) (.answer_ite (.refl s) (.of_lif rfl))
  | readCurve => exact h.plainRequest (exec_readCurve s) he fun _ => .refl s
  | readEvents => exact h.plainRequest (exec_readEvents s) he fun _ => .refl s
  | setNotices => exact h.plainRequest (exec_setNotices s) he (ownSetNotices_linkKept s)
  | restart =>
    exact h.plainRequest (exec_restart s) he fun _ => .answer_ite (.refl s) (.answer_ite (.refl s) (.of_lif rfl))
  | snapshotPart0 =>
    exact h.plainRequest (exec_snapshotPart0 s) he fun _ => .answer_ite (.of_lif rfl) (.refl s)
  | snapshotPart1 => exact h.plainRequest (exec_snapshotPart1 s) he (ownSnapshotPart1_linkKept s)
  | enrol => exact h.plainRequest (exec_enrol s) he (ownEnrol_linkKept s)
  | release => exact h.plainRequest (exec_release s) he (ownRelease_linkKept s)
  | spinUp => exact h.plainRequest (exec_spinUp s) he (ownSpinUp_linkKept s)
  | park => exact h.plainRequest (exec_park s) he (ownPark_linkKept s)
  | resetFault => exact h.plainRequest (exec_resetFault s) he (ownResetFault_linkKept s)
  | setRotorLimits => exact h.plainRequest (exec_setRotorLimits s) he (ownSetRotorLimits_linkKept s)
  | setRotorRole => exact h.plainRequest (exec_setRotorRole s) he (ownSetRotorRole_linkKept s)
  | rotorStatus =>
    exact h.request (exec_rotorStatus s) he (ownRotorStatus_linkKept s) afterRotorStatus_linkKept
  | placeOrder => exact h.plainRequest (exec_placeOrder s) he (ownPlaceOrder_linkKept s)
  | cancelOrder => exact h.plainRequest (exec_cancelOrder s) he (ownCancelOrder_linkKept s)
  | resumeOrder => exact h.plainRequest (exec_resumeOrder s) he (ownResumeOrder_linkKept s)
  | orderStatus =>
    exact h.request (exec_orderStatus s) he (ownOrderStatus_linkKept s) afterOrderStatus_linkKept
  | listOrders => exact h.plainRequest (exec_listOrders s) he fun _ => .refl s
  | poll dt => exact h.beside (exec_poll dt s) he ((advanced dt).trans (State.pollNext_linkKept _))
  | moduleReply dt bytes =>
    exact h.beside (exec_moduleReply dt bytes s) he ((advanced dt).trans (State.busBytes_linkKept _ bytes))
  | replyWindowClose => exact h.beside (exec_replyWindowClose s) he s.windowCloses_linkKept
  | liftTimerExpiry i =>
    exact h.beside (exec_liftTimerExpiry i s) he (s.timerExpires_linkKept i _ fun s => s.trip_linkKept i _)
  | spinupTimerExpiry i =>
    exact h.beside (exec_spinupTimerExpiry i s) he (s.timerExpires_linkKept i _ fun s => s.brake_linkKept i _)
  | syncTimerExpiry i =>
    exact h.beside (exec_syncTimerExpiry i s) he (s.timerExpires_linkKept i _ fun s =>
      .ite (s.joinSync_linkKept i) (s.brake_linkKept i _))
  | linkByteReceived dt byte broken =>
    exact h.taking (exec_linkByteReceived dt byte broken s) he ((later dt).takeByte byte broken)
  | noticeFrameEnd dt => exact h.taking (exec_noticeFrameEnd dt s) he (later dt).endNotice
  | supplyFall dt => exact h.beside (exec_supplyFall dt s) he (.of_lif rfl)

/-- Settles O56: the idle step changes nothing, the queue of commands is no part of the invariant, and every command keeps
it. -/
theorem stepKeepsLinkInv : Obligations.StepKeepsLinkInv := fun s t h stepped => by
  cases waiting : s.pending with
  | nil => simp only [step, waiting] at stepped; cases stepped; exact h
  | cons c rest =>
    simp only [step, waiting] at stepped
    have queued : LinkInv (s.withPending rest) := h.kept (.of_lif rfl)
    exact exec_linkInv c queued stepped

end Sys2Proof.Machine
end

section
/-! The receiver and the request slot (R160 to R167, R191): O24, O25 and O26. -/

namespace Sys2Proof.Machine

/-! ## Bytes of the link (R160 to R162, R164) -/

theorem exec_linkByteReceived_up {s : State} (up : s.supply = .up) (dt : Nat) (b : Byte) (broken : Bool) :
    exec (.linkByteReceived dt b broken) s = .next ((s.advance dt).takeByte b broken) := by
  rw [exec_linkByteReceived, State.taking_up up]

theorem exec_frameCompleted_complete {s : State} (up : s.supply = .up) {frame : List Byte}
    (complete : s.lif.receiver = .complete frame) : exec .frameCompleted s = .next (s.checkFrame frame) := by
  rw [exec_frameCompleted, State.taking_up up, State.completeFrame_complete complete]

theorem State.advance_zero (s : State) : s.advance 0 = s :=
  congrArg s.withTick (BitVec.add_zero s.tickCount)

/-- A byte that comes before the check of a complete frame is taken as it would be after the check (log entry 7). -/
theorem takeByte_afterCheck {s : State} (up : s.supply = .up) {frame : List Byte}
    (complete : s.lif.receiver = .complete frame) (dt : Nat) (b : Byte) (broken : Bool) :
    exec (.linkByteReceived dt b broken) s =
      exec (.linkByteReceived 0 b broken) ((s.advance dt).checkFrame frame) := by
  have checked := (s.advance dt).checkFrame_receiver frame
  have still : ((s.advance dt).checkFrame frame).supply = .up :=
    ((s.advance dt).checkFrame_bankFrame frame).supply.trans up
  rw [exec_linkByteReceived_up up, exec_linkByteReceived_up still, State.advance_zero,
    State.takeByte_complete (s := s.advance dt) complete, State.takeByte_hunting checked]

/-- Settles O24: a byte by the receiver's state, and the gap timer's expiry. -/
theorem receiverTakesBytes : Obligations.ReceiverTakesBytes := by
  refine ⟨fun dt b broken s up => ?_, fun s up => ⟨fun stopped => ?_, fun e running => ?_⟩⟩
  · have taken := exec_linkByteReceived_up up dt b
    refine ⟨fun hunting => ?_, fun bytes assembling => ⟨?_, ?_, ?_⟩, fun frame complete => ?_⟩
    · rw [taken, State.takeByte_hunting (s := s.advance dt) hunting]
      split
      · next start =>
        obtain ⟨rfl, rfl⟩ := start
        rfl
      · next other => rw [State.huntByte_other other]; rfl
    · rintro rfl
      rw [taken, State.takeByte_broken (s := s.advance dt) assembling]
      rfl
    · rintro rfl short
      rw [taken, State.takeByte_joins (s := s.advance dt) assembling, State.joinByte_short short]
      rfl
    · rintro rfl len long lenByte
      obtain ⟨byte, place, rfl⟩ := Option.map_eq_some_iff.mp lenByte
      rw [taken, State.takeByte_joins (s := s.advance dt) assembling, State.joinByte_long long,
        field_of_getElem? place]
      unfold maxPayload
      split
      · rfl
      · split <;> rfl
    · exact ⟨_, exec_frameCompleted_complete (s := s.advance dt) up complete,
        State.checkFrame_receiver _ frame, takeByte_afterCheck up complete dt b broken⟩
  · rw [exec_gapTimerExpiry, State.taking_up up, State.gapExpires, stopped]
  · rw [exec_gapTimerExpiry, State.taking_up up, State.gapExpires, running]
    dsimp only
    rw [State.advanceTo_eq]
    rfl

/-! ## The check of a frame (R163 to R167) -/

/-- Settles O25: the check by its CRC, the slot, and the LIF's own checks of the request. -/
theorem frameCompletedChecks : Obligations.FrameCompletedChecks := by
  refine ⟨fun s frame up complete => ?_, fun k => by cases k <;> rfl⟩
  have checked := exec_frameCompleted_complete up complete
  refine ⟨fun differs => ?_, fun agrees occupied => ?_, ?_⟩
  · have differs := Bool.eq_false_of_not_eq_true (mt (linkFrameAgrees_iff frame).mp differs)
    rw [checked, State.checkFrame_differs differs]
    rfl
  · rw [checked, State.checkFrame_agrees ((linkFrameAgrees_iff frame).mpr agrees),
      State.offerRequest_occupied (s := s.hunt) occupied]
    rfl
  · rintro kind tag len payload check rfl length agrees empty r u
    have entered : exec .frameCompleted s = .next (u.checkRequest r) := by
      rw [checked, State.checkFrame_enters ((linkFrameAgrees_iff _).mpr agrees) empty
        (requestOf_frame _ kind tag len payload length)]
      rfl
    rw [entered]
    refine ⟨fun unknown => ?_, fun k known => ⟨fun n fixed wrong => ?_, fun length => ?_⟩⟩
    · rw [State.checkRequest_unknown (r := r) unknown]
    · rw [State.checkRequest_badLength (r := r) known fixed wrong]
    · rw [State.checkRequest_passes (r := r) known length]

/-! ## A frame as it comes byte by byte (R161, R191) -/

/-- The bytes of a frame taken so far are followed by others, and LEN asks for just these (R161). -/
structure Unfinished (taken more : List Byte) : Prop where
  whole : 4 ≤ (taken ++ more).length
  len : field (taken ++ more) 3 1 ≤ maxPayload
  length : (taken ++ more).length = 6 + field (taken ++ more) 3 1

theorem Unfinished.next {taken rest : List Byte} {b : Byte} (h : Unfinished taken (b :: rest)) :
    Unfinished (taken ++ [b]) rest := by
  have same : taken ++ b :: rest = taken ++ [b] ++ rest := by simp
  obtain ⟨whole, len, length⟩ := h
  rw [same] at whole len length
  exact ⟨whole, len, length⟩

/-- The next byte is the last exactly when none follows it (R161). -/
theorem Unfinished.joinByte {taken rest : List Byte} {b : Byte} (h : Unfinished taken (b :: rest)) (s : State) :
    s.joinByte taken b = if rest = [] then s.holdFrame (taken ++ [b]) else s.awaitByte (taken ++ [b]) := by
  obtain ⟨whole, len, length⟩ := h.next
  by_cases short : (taken ++ [b]).length < 4
  · have follows : rest ≠ [] := by
      rintro rfl
      rw [List.append_nil] at whole
      omega
    rw [State.joinByte_short short, if_neg follows]
  · rw [field_append (by omega)] at len length
    rw [List.length_append] at length
    rw [State.joinByte_long (Nat.not_lt.mp short), if_neg (Nat.not_lt.mpr len)]
    by_cases last : rest = []
    · rw [if_pos last, if_pos (by simpa [last] using length)]
    · have more := List.length_pos_iff.mpr last
      rw [if_neg last, if_neg (by omega)]

theorem takeBytes_cons {dt : Nat} {b : Byte} {s t : State} (taken : exec (.linkByteReceived dt b false) s = .next t)
    (rest : List Byte) : takeBytes dt (b :: rest) s = takeBytes dt rest t := by
  simp only [takeBytes, taken]

/-- The bytes that LEN asks for complete the frame, and change nothing else but the tick count (R161). -/
theorem takeBytes_unfinished (dt : Nat) {taken more : List Byte} {s : State} (up : s.supply = .up)
    (assembling : s.lif.receiver = .assembling taken) (follows : more ≠ []) (h : Unfinished taken more) :
    ∃ now, takeBytes dt more s = .next ((s.withTick now).holdFrame (taken ++ more)) := by
  induction more generalizing taken s with
  | nil => exact absurd rfl follows
  | cons b rest ih =>
    have joined : exec (.linkByteReceived dt b false) s = .next ((s.advance dt).joinByte taken b) := by
      rw [exec_linkByteReceived_up up, State.takeByte_joins (s := s.advance dt) assembling]
    rw [takeBytes_cons joined, h.joinByte]
    by_cases last : rest = []
    · rw [if_pos last, last]
      exact ⟨_, rfl⟩
    · obtain ⟨now, completed⟩ := ih (s := (s.advance dt).awaitByte (taken ++ [b])) up rfl last h.next
      rw [List.append_assoc] at completed
      rw [if_neg last]
      exact ⟨now, completed⟩

/-! ## The obligation -/

/-- After START the rest of a frame follows as its LEN says (R161, R191). -/
theorem linkFrame_unfinished (kind tag : Byte) {payload : List Byte} (fits : payload.length ≤ 240) :
    ∃ more, more ≠ [] ∧ linkFrame kind tag payload = [0xC3#8] ++ more ∧ Unfinished [0xC3#8] more := by
  refine ⟨_, List.cons_ne_nil _ _, rfl, ?_⟩
  have len : field (linkFrame kind tag payload) 3 1 = payload.length :=
    (field_of_getElem? (b := byteOf payload.length) rfl).trans (byteOf_toNat (by omega))
  have length := linkFrame_length kind tag payload
  refine ⟨?_, len.le.trans fits, ?_⟩
  · exact (Nat.le_add_left 4 (payload.length + 2)).trans length.ge
  · exact length.trans ((Nat.add_comm _ _).trans (congrArg (6 + ·) len.symm))

/-- A complete request frame of a known kind and of the length fixed for it enters the empty slot (R163, R165, R167). -/
theorem exec_frameCompleted_linkFrame {t : State} {kind tag : Byte} {payload : List Byte} (up : t.supply = .up)
    (complete : t.lif.receiver = .complete (linkFrame kind tag payload)) (stopped : t.lif.gapExpiry = none)
    {k : RequestKind} (known : requestKindByte k = kind) (length : ∀ n, fixedLength k = some n → payload.length = n)
    (empty : t.lif.slot = none) :
    exec .frameCompleted t =
      .next { t with lif := { t.lif with receiver := .hunting, slot := some ⟨kind, tag, payload, false⟩ } } := by
  have carried : requestOf (linkFrame kind tag payload) = ⟨kind, tag, payload, false⟩ :=
    requestOf_frame _ kind tag _ payload (crcBytes_length _)
  have hunts : t.hunt = t.withLif { t.lif with receiver := .hunting } := by rw [State.hunt, ← stopped]
  rw [exec_frameCompleted_complete up complete,
    State.checkFrame_enters (linkFrameAgrees_linkFrame kind tag payload) empty carried,
    State.checkRequest_passes (r := ⟨kind, tag, payload, false⟩) known length, hunts]
  rfl

/-- Settles O26: START, then the bytes after it one by one, then the check. -/
theorem linkFrameIsRead : Obligations.LinkFrameIsRead := by
  intro dt kind tag payload s up hunting fits
  obtain ⟨more, follows, frame, unfinished⟩ := linkFrame_unfinished kind tag fits
  have started : exec (.linkByteReceived dt 0xC3#8 false) s = .next ((s.advance dt).awaitByte [0xC3#8]) := by
    rw [exec_linkByteReceived_up up, State.takeByte_hunting (s := s.advance dt) hunting, State.huntByte_start]
  obtain ⟨now, completed⟩ :=
    takeBytes_unfinished dt (s := (s.advance dt).awaitByte [0xC3#8]) up rfl follows unfinished
  rw [← frame] at completed
  refine ⟨(s.withTick now).holdFrame (linkFrame kind tag payload), ?_, rfl, fun k known length empty =>
    exec_frameCompleted_linkFrame up rfl rfl known length empty⟩
  calc takeBytes dt (linkFrame kind tag payload) s
      = takeBytes dt more ((s.advance dt).awaitByte [0xC3#8]) := by
        rw [frame, List.singleton_append, takeBytes_cons started]
    _ = _ := completed

end Sys2Proof.Machine
end

section
/-! The end of a reply (R171, R184, R186), the reply as it is formed (R169, R191), and the requests to the STU and the LIF
that set something (R173, R174, R178, R185): O5, O27 and O30. -/

namespace Sys2Proof.Machine

/-! ## The end of a reply (R171, R186) -/

theorem State.endReply_releases {s : State} {f : Sending} (sending : s.lif.sending = some f) (reply : f.isReply = true)
    (running : s.stu.restartPending = false) (line : StopLevel) :
    s.endReply line = s.withLif { s.lif with sending := none, slot := none } := by
  simp only [State.endReply, sending, reply, running, if_true, Bool.false_eq_true, if_false]

theorem State.endReply_restarts {s : State} {f : Sending} (sending : s.lif.sending = some f) (reply : f.isReply = true)
    (pending : s.stu.restartPending = true) (line : StopLevel) :
    s.endReply line = s.takeReset .restart s.tickCount line := by
  simp only [State.endReply, sending, reply, pending, if_true]

/-- Settles O5: the slot is released, or the reset for RESTART takes effect. -/
theorem slotReleaseAndRestart : Obligations.SlotReleaseAndRestart := by
  intro dt line s f up sending reply
  rw [exec_requestSlotRelease, State.taking_up up]
  refine ⟨fun running => ?_, fun pending => ⟨_, rfl, ?_⟩⟩
  · rw [State.endReply_releases (s := s.advance dt) sending reply running]
    rfl
  · rw [State.endReply_restarts (s := s.advance dt) sending reply pending]
    exact (s.advance dt).takeReset_afterReset _ _ line

/-! ## The reply (R169, R191) -/

/-- The status byte's parts, by its marks (R191). -/
theorem statusByte_bits (m : Mode) (summary overrun notice curve : Bool) :
    let status := byteOf (modeCode m + bitAt 3 summary + bitAt 4 overrun + bitAt 5 notice + bitAt 6 curve)
    status.toNat % 8 = modeCode m ∧ status.getLsbD 3 = summary ∧ status.getLsbD 4 = overrun ∧
      status.getLsbD 5 = notice ∧ status.getLsbD 6 = curve ∧ status.getLsbD 7 = false := by
  revert summary overrun notice curve
  cases m <;> decide

theorem Summary.any_iff (f : Summary) :
    f.any = true ↔ f.saturated = true ∨ f.unserved = true ∨ f.rotorTrip = true ∨ f.counter = true ∨
      f.linkError = true ∨ f.overrun = true := by
  simp only [Summary.any, Bool.or_eq_true, or_assoc]

theorem NoticeSet.any_iff (n : NoticeSet) : n.any = true ↔ ∃ k, n.has k = true := by
  have listed (k : NoticeKind) : k ∈ noticeKinds := by cases k <;> decide
  simp only [NoticeSet.any, NoticeSet.lowest, List.find?_isSome, listed, true_and]

/-- Settles O27: the status byte by its marks, the result codes one by one. -/
theorem replyFormed : Obligations.ReplyFormed := by
  refine ⟨fun s r code body => ?_, fun code => by cases code <;> rfl⟩
  obtain ⟨mode, summary, overrun, notice, curve, unused⟩ := statusByte_bits s.evt.mode s.stu.flags.any
    s.lif.overrunMark s.lif.pendingNotices.any s.dse.pendingCurve.isSome
  refine ⟨rfl, mode.trans ?_, ?_, overrun, ?_, curve, unused⟩
  · cases s.evt.mode <;> rfl
  · rw [← Summary.any_iff, ← summary]; rfl
  · rw [← NoticeSet.any_iff, ← notice]; rfl

/-! ## SET CLOCK (R174) -/

/-- The offset that makes plant time read a value at a tick does so (R174). -/
theorem State.plantTime_setOffset (s : State) {v : Nat} (fits : v ≤ maxPlantTime) :
    (s.withStu { s.stu with offset := (v : Int) - (s.tickCount.toNat / ticksPerMs : Nat) }).plantTime = v := by
  have reads : ((s.tickCount.toNat / ticksPerMs : Nat) : Int) + ((v : Int) - (s.tickCount.toNat / ticksPerMs : Nat)) = v :=
    add_sub_cancel _ _
  simp only [State.plantTime, State.plantTimeAt, State.withStu_stu, State.withStu_tickCount]
  rw [reads, clampInt_within (Int.natCast_nonneg v) (Int.ofNat_le.mpr fits), Int.toNat_natCast]

/-- What six bytes carry is a plant time, so no clock that is sent is clamped (R174). -/
theorem field_le_maxPlantTime (p : List Byte) (offset : Nat) : field p offset 6 ≤ maxPlantTime :=
  Nat.le_of_lt_succ (field_lt p offset 6)

theorem ownSetClock_accepts (s : State) (p : List Byte) :
    ownSetClock s p =
      accept (s.withStu { s.stu with offset := (field p 0 6 : Int) - (s.tickCount.toNat / ticksPerMs : Nat) }) false := by
  rw [ownSetClock, clampNat_within (Nat.zero_le _) (field_le_maxPlantTime p 0), bne_self_eq_false]

/-! ## SET NOTICES (R173) -/

theorem byteOf_singleton (b : Byte) : byteOf (field [b] 0 1) = b := byteOf_field (field_of_getElem? rfl)

theorem ownSetNotices_badValue (s : State) {mask : Byte} (high : 64 ≤ mask.toNat) :
    ownSetNotices s [mask] = refuse s .badValue := by
  have unknown : noticeSetOfByte mask = none := if_neg (Nat.not_lt.mpr high)
  rw [ownSetNotices, byteOf_singleton mask, unknown]

/-- The kinds that a mask byte enables (R190). -/
def maskOf (mask : Byte) : NoticeSet :=
  ⟨mask.getLsbD 0, mask.getLsbD 1, mask.getLsbD 2, mask.getLsbD 3, mask.getLsbD 4, mask.getLsbD 5⟩

theorem ownSetNotices_accepts (s : State) {mask : Byte} (low : mask.toNat < 64) :
    ownSetNotices s [mask] = accept (s.setMask (maskOf mask)) false := by
  have known : noticeSetOfByte mask = some (maskOf mask) := if_pos low
  rw [ownSetNotices, byteOf_singleton mask, known]

/-! ## RESTART (R185) -/

theorem State.allParked_iff (s : State) :
    s.allParked = true ↔ ∀ i, (s.rotor i).state = .offline ∨ (s.rotor i).state = .parked := by
  simp only [State.allParked, List.all_eq_true, mem_allSlots, forall_const, Bool.or_eq_true, beq_iff_eq]

theorem ownRestart_notIdle {s : State} (running : s.evt.mode ≠ .idle) (p : List Byte) :
    ownRestart s p = refuse s .notIdle := by
  rw [ownRestart, if_pos running]

theorem ownRestart_wrongState {s : State} (idle : s.evt.mode = .idle) (moving : s.allParked = false) (p : List Byte) :
    ownRestart s p = refuse s .wrongState := by
  rw [ownRestart, if_neg (not_not.mpr idle), if_pos moving]

theorem ownRestart_accepts {s : State} (idle : s.evt.mode = .idle) (parked : s.allParked = true) (p : List Byte) :
    ownRestart s p = accept (s.withStu { s.stu with restartPending := true }) false := by
  rw [ownRestart, if_neg (not_not.mpr idle), if_neg (by simp [parked])]

/-! ## The obligation -/

/-- Settles O30, a request at a time, by its owner's answers. -/
theorem statusUnitAndLinkRequests : Obligations.StatusUnitAndLinkRequests := by
  refine ⟨fun s tag p asks => ?_, fun s tag p asks => ?_, fun s tag mask asks => ?_, fun s tag p asks => ?_⟩
  · rw [exec_clearSummary, State.taking_request asks rfl]
    exact ⟨summaryByte s.stu.flags, rfl, summaryByte_bits s.stu.flags⟩
  · rw [exec_setClock, State.taking_request asks rfl, ownSetClock_accepts]
    exact ⟨_, rfl, rfl, s.plantTime_setOffset (field_le_maxPlantTime p 0)⟩
  · rw [exec_setNotices, State.taking_request asks rfl]
    refine ⟨fun high => ?_, fun low => ?_⟩
    · rw [ownSetNotices_badValue s high]
      rfl
    · rw [ownSetNotices_accepts s low]
      exact ⟨_, rfl, rfl, ⟨rfl, rfl, rfl, rfl, rfl, rfl⟩, NoticeSet.has_inter _ _⟩
  · rw [exec_restart, State.taking_request asks rfl]
    refine ⟨fun running => ?_, fun idle ⟨i, enrolled, unparked⟩ => ?_, fun idle parked => ?_⟩
    · rw [ownRestart_notIdle running]
      rfl
    · have moving : s.allParked = false := Bool.eq_false_of_not_eq_true fun parked =>
        (s.allParked_iff.mp parked i).elim enrolled unparked
      rw [ownRestart_wrongState idle moving]
      rfl
    · rw [ownRestart_accepts idle (s.allParked_iff.mpr parked)]
      rfl

end Sys2Proof.Machine
end

section
/-! SNAPSHOT (R181 to R183) and the part held in reset (R184): O35 and O3. A run of slots of a capture is read off one
record at a time; every command but a rise of the supply is taken only while the supply is up. -/

namespace Sys2Proof.Machine

/-! ## A capture and its runs of slots (R181, R182) -/

theorem Capture.slots_zero (c : Capture) (first : Nat) : c.slots first 0 = [] := rfl

/-- A run of slots is its first record and the run from the next slot on. -/
theorem Capture.slots_succ (c : Capture) {first : Nat} (inRange : first < 16) (n : Nat) :
    c.slots first (n + 1) = c.records[first] ++ c.slots (first + 1) n := by
  have front : c.records.toList.drop first = c.records[first] :: c.records.toList.drop (first + 1) := by
    rw [List.drop_eq_getElem_cons (by simpa using inRange), Vector.getElem_toList]
  rw [Capture.slots, front, List.take_succ_cons, List.flatMap_cons, id_eq, Capture.slots]

/-- The slots that part 0 reports (R181). -/
theorem Capture.slots_lower (c : Capture) :
    c.slots 0 8 = c.records[0] ++ c.records[1] ++ c.records[2] ++ c.records[3] ++ c.records[4] ++ c.records[5] ++
      c.records[6] ++ c.records[7] := by
  simp [Capture.slots_succ, Capture.slots_zero]

/-- The slots that part 1 reports (R182). -/
theorem Capture.slots_upper (c : Capture) :
    c.slots 8 8 = c.records[8] ++ c.records[9] ++ c.records[10] ++ c.records[11] ++ c.records[12] ++ c.records[13] ++
      c.records[14] ++ c.records[15] := by
  simp [Capture.slots_succ, Capture.slots_zero]

@[simp] theorem State.captureNow_record (s : State) (i : Slot) :
    s.captureNow.records[i] = (s.rotor i).snapshot := by
  simp [State.captureNow]

/-! ## The owners (R181, R182; log entry 10) -/

theorem namesAnotherPart_of_ne {p : List Byte} (other : field p 0 1 ≠ 1) : namesAnotherPart p = true := by
  rw [namesAnotherPart, namesPart1, beq_false_of_ne other, Bool.not_false]

theorem namesPart1_of_eq {p : List Byte} (one : field p 0 1 = 1) : namesPart1 p = true := beq_iff_eq.mpr one

section
variable (s : State) (p : List Byte)

theorem ownSnapshotPart0_reports (zero : field p 0 1 = 0) :
    ownSnapshotPart0 s p =
      report (s.withStu { s.stu with capture := some s.captureNow }) (s.bankHeader ++ s.captureNow.slots 0 8) :=
  if_pos zero

theorem ownSnapshotPart0_badValue (other : field p 0 1 ≠ 0) : ownSnapshotPart0 s p = refuse s .badValue := if_neg other

theorem ownSnapshotPart1_noSnapshot (absent : s.stu.capture = none) :
    ownSnapshotPart1 s p = refuse s .noSnapshot := by
  simp only [ownSnapshotPart1, absent]

theorem ownSnapshotPart1_reports {c : Capture} (held : s.stu.capture = some c) :
    ownSnapshotPart1 s p = report (s.withStu { s.stu with capture := none }) (c.slots 8 8) := by
  simp only [ownSnapshotPart1, held]

end

/-! ## The obligations -/

/-- Settles O35: the owners' answers for each part, and the two runs of slots of a capture. -/
theorem snapshotParts : Obligations.SnapshotParts := by
  refine ⟨fun c => by cases c <;> rfl, fun s tag p asks => ⟨fun zero => ?_, fun high => ?_, fun one => ⟨?_, ?_⟩⟩⟩
  · refine ⟨s.bankHeader, s.captureNow.records, s.bankHeader_laidOut, fun i => ?_, ?_⟩
    · rw [State.captureNow_record]
      exact (s.rotor i).snapshot_laidOut
    · have suited : namesAnotherPart p = true := namesAnotherPart_of_ne (by omega)
      rw [exec_snapshotPart0, State.taking_request asks suited, ownSnapshotPart0_reports s p zero, Capture.slots_lower]
      simp only [← List.append_assoc]
      rfl
  · have suited : namesAnotherPart p = true := namesAnotherPart_of_ne (by omega)
    rw [exec_snapshotPart0, State.taking_request asks suited, ownSnapshotPart0_badValue s p (by omega)]
    rfl
  · intro absent
    rw [exec_snapshotPart1, State.taking_request asks (namesPart1_of_eq one), ownSnapshotPart1_noSnapshot s p absent]
    rfl
  · intro capture held
    rw [exec_snapshotPart1, State.taking_request asks (namesPart1_of_eq one), ownSnapshotPart1_reports s p held,
      Capture.slots_upper]
    rfl

/-- Every command but a rise of the supply acts through `State.taking`, which asks for the supply first (R184). -/
theorem exec_eq_taking {c : Instr} (noPowerOn : ∀ line, c ≠ .powerOn line) (noSupplyDip : ∀ line, c ≠ .supplyDip line)
    (s : State) : ∃ f, exec c s = s.taking f := by
  cases c with
  | powerOn line => exact absurd rfl (noPowerOn line)
  | supplyDip line => exact absurd rfl (noSupplyDip line)
  | _ => exact ⟨_, by rw [exec]; rfl⟩

/-- Settles O3: the fall takes the supply away, and nothing is taken without it. -/
theorem supplyFallHoldsThePart : Obligations.SupplyFallHoldsThePart := by
  refine ⟨fun dt s up => ?_, fun c s down noPowerOn noSupplyDip => ?_⟩
  · rw [exec_supplyFall, State.taking_up up]
    rfl
  · obtain ⟨f, meaning⟩ := exec_eq_taking noPowerOn noSupplyDip s
    rw [meaning, State.taking_down down]

end Sys2Proof.Machine
end

section
/-! The queue of commands: a step takes the command at its front (O1), and every command answers a next state with the
commands that wait left as they are (O2; log entries 4 and 8). What `BankFrame` and `SampleFrame` say of the queue is used
from there; here stand the operations that neither covers, and the owners of the requests. -/

namespace Sys2Proof.Machine

/-! ## Samples, the stop line and resets (R2 to R6, R52, R53, R184) -/

theorem State.passage_pending (s : State) (t : Tick) (valid : Bool) : (s.passage t valid).pending = s.pending :=
  (s.passage_sampleFrame t valid).pending.trans (by simp [State.measure])

theorem State.edge_pending (s : State) : s.edge.pending = s.pending := by
  cases last : s.fmu.lastEdge with
  | none => rw [State.edge_first last, State.withFmu_pending]
  | some last' => rw [State.edge_next last, State.passage_pending, State.withFmu_pending]

theorem State.missingEdge_pending (s : State) : s.missingEdge.pending = s.pending := by
  rw [State.missingEdge, State.passage_pending, State.withFmu_pending, State.advanceTo_pending]

theorem State.assertStop_pending (s : State) : s.assertStop.pending = s.pending := by
  have taken (u : State) (h : u.pending = s.pending) (now : Nat) :
      (((u.addNotice .halt).tripAll).cancelAll now).pending = s.pending := by
    rw [State.cancelAll_pending, (State.tripAll_bankFrame _).pending, State.addNotice_pending, h]
  refine taken _ ?_ _
  cases s.evt.mode
  case event => exact State.endEvent_pending _ _ _
  all_goals rfl

theorem State.releaseStop_pending (s : State) : s.releaseStop.pending = s.pending :=
  State.addNotice_pending _ _

theorem State.takeReset_pending (s : State) (cause : ResetCause) (t : Tick) (line : StopLevel) :
    (s.takeReset cause t line).pending = s.pending := by
  rw [State.takeReset_eq]
  rfl

theorem State.endReply_pending (s : State) (line : StopLevel) : (s.endReply line).pending = s.pending := by
  obtain frame | reset := s.endReply_cases line
  · exact frame.pending
  · rw [reset, State.takeReset_pending]

/-! ## The taking of a request (R165) -/

/-- A choice between two answers leaves the queue when both answers do. -/
theorem Answer.ite_pending {c : Prop} [Decidable c] {q : List Instr} {a b : Answer} (ha : a.state.pending = q)
    (hb : b.state.pending = q) : (if c then a else b).state.pending = q := by
  split
  · exact ha
  · exact hb

/-- The taking of a request leaves the queue when its owner does, and what follows the reply does. -/
theorem State.takeRequest_pending {s : State} {k : RequestKind} {suits : List Byte → Bool}
    {owner : State → List Byte → Answer} {after_ : State → List Byte → State}
    (owned : ∀ p, (owner s p).state.pending = s.pending) (followed : ∀ u p, (after_ u p).pending = u.pending) :
    (s.takeRequest k suits owner after_).pending = s.pending := by
  obtain same | ⟨r, -, -, -, -, answered⟩ := s.takeRequest_cases k suits owner after_
  · rw [same]
  · rw [answered, followed, State.formReply_pending, owned]

section
variable (s : State) (p : List Byte)

/-! ### The owners of the requests (chapters 02, 03, 09, 10) -/

theorem ownSetMode_pending : (ownSetMode s p).state.pending = s.pending := by
  unfold ownSetMode
  split
  · rfl
  · split <;> rfl

theorem ownSetMeasurement_pending : (ownSetMeasurement s p).state.pending = s.pending := by
  refine Answer.ite_pending rfl ?_
  split
  · rfl
  · exact State.addNoticeIf_pending _ _ _

theorem ownSetEvent_pending : (ownSetEvent s p).state.pending = s.pending := by
  unfold ownSetEvent
  split <;> rfl

theorem ownSetBankLimits_pending : (ownSetBankLimits s p).state.pending = s.pending := Answer.ite_pending rfl rfl

theorem ownSetCurve_pending : (ownSetCurve s p).state.pending = s.pending :=
  Answer.ite_pending rfl (Answer.ite_pending rfl rfl)

theorem ownSetNotices_pending : (ownSetNotices s p).state.pending = s.pending := by
  unfold ownSetNotices
  split <;> rfl

theorem ownRestart_pending : (ownRestart s p).state.pending = s.pending :=
  Answer.ite_pending rfl (Answer.ite_pending rfl rfl)

theorem ownSnapshotPart0_pending : (ownSnapshotPart0 s p).state.pending = s.pending := Answer.ite_pending rfl rfl

theorem ownSnapshotPart1_pending : (ownSnapshotPart1 s p).state.pending = s.pending := by
  unfold ownSnapshotPart1
  split <;> rfl

/-! ### The owners of the requests (chapters 04 and 07) -/

theorem ownEnrol_pending : (ownEnrol s p).state.pending = s.pending := by
  have enrolled (i : Slot) (r : RotorRecord) : (s.enrol i r).pending = s.pending := State.noteRotor_pending _ i
  unfold ownEnrol
  split
  · rfl
  · refine Answer.ite_pending rfl (Answer.ite_pending rfl ?_)
    split
    · exact Answer.ite_pending rfl (enrolled _ _)
    · rfl

theorem ownRelease_pending : (ownRelease s p).state.pending = s.pending := by
  unfold ownRelease
  split
  · rfl
  · exact Answer.ite_pending (State.noteRotor_pending _ _) rfl

theorem ownSpinUp_pending : (ownSpinUp s p).state.pending = s.pending := by
  unfold ownSpinUp
  split
  · rfl
  · exact Answer.ite_pending rfl (Answer.ite_pending rfl (State.changeRotor_pending _ _ _ _))

theorem ownPark_pending : (ownPark s p).state.pending = s.pending := by
  have braked (i : Slot) : (s.brake i .host).pending = s.pending := (s.brake_bankFrame i .host).pending
  unfold ownPark
  split
  · rfl
  · split
    case h_4 => exact Answer.ite_pending (s.settle_bankFrame _ _).pending (braked _)
    case h_5 | h_6 | h_7 | h_8 => exact braked _
    case h_9 => exact Answer.ite_pending rfl (braked _)
    all_goals rfl

theorem ownResetFault_pending : (ownResetFault s p).state.pending = s.pending := by
  unfold ownResetFault
  split
  · rfl
  · exact Answer.ite_pending (State.settle_bankFrame _ _ _).pending rfl

theorem ownSetRotorLimits_pending : (ownSetRotorLimits s p).state.pending = s.pending := by
  unfold ownSetRotorLimits
  split
  · rfl
  · exact Answer.ite_pending rfl rfl

theorem ownSetRotorRole_pending : (ownSetRotorRole s p).state.pending = s.pending := by
  unfold ownSetRotorRole
  split
  · rfl
  · refine Answer.ite_pending rfl ?_
    split <;> rfl

theorem ownRotorStatus_pending : (ownRotorStatus s p).state.pending = s.pending := by
  unfold ownRotorStatus
  split
  · rfl
  · exact Answer.ite_pending rfl rfl

/-! ### The owners of the requests (chapter 06) -/

theorem ownPlaceOrder_pending : (ownPlaceOrder s p).state.pending = s.pending := by
  unfold ownPlaceOrder
  split
  · rfl
  · exact Answer.ite_pending rfl <| Answer.ite_pending rfl <| Answer.ite_pending rfl <| Answer.ite_pending rfl <|
      Answer.ite_pending rfl rfl

theorem ownCancelOrder_pending : (ownCancelOrder s p).state.pending = s.pending := by
  refine Answer.ite_pending rfl ?_
  split
  · rfl
  · exact Answer.ite_pending rfl (State.reviseOrders_pending _ _)

theorem ownResumeOrder_pending : (ownResumeOrder s p).state.pending = s.pending := by
  refine Answer.ite_pending rfl ?_
  split
  · rfl
  · split
    case h_1 => exact State.reviseOrders_pending _ _
    all_goals rfl

theorem ownOrderStatus_pending : (ownOrderStatus s p).state.pending = s.pending := by
  refine Answer.ite_pending rfl ?_
  split <;> rfl

/-- A terminal record may be retired after the reply; the queue stays (R112). -/
theorem afterOrderStatus_pending : (afterOrderStatus s p).pending = s.pending := by
  have retired (id : Nat) : (s.retireOrder id).pending = s.pending := by
    simp only [State.retireOrder]
    split <;> rfl
  unfold afterOrderStatus
  split
  · rfl
  · split
    · exact retired _
    · rfl

end

/-! ## Every command -/

section
variable {c : Instr} {s : State} {f : State → State} {k : RequestKind} {suits : List Byte → Bool}
  {owner : State → List Byte → Answer} {after_ : State → List Byte → State}

/-- A command answers a next state, taken or not (R184), and leaves the queue when what the part does for it does. -/
theorem answers_of_taking (meaning : exec c s = s.taking f) (kept : (f s).pending = s.pending) :
    ∃ t, exec c s = .next t ∧ t.pending = s.pending := by
  rw [meaning]
  cases up : s.supply with
  | up => exact ⟨f s, State.taking_up up f, kept⟩
  | down => exact ⟨s, State.taking_down up f, rfl⟩

/-- A request that nothing follows. -/
theorem answers_of_request (meaning : exec c s = s.taking fun s => s.takeRequest k suits owner nothingAfter)
    (owned : ∀ p, (owner s p).state.pending = s.pending) : ∃ t, exec c s = .next t ∧ t.pending = s.pending :=
  answers_of_taking meaning (State.takeRequest_pending owned fun _ _ => rfl)

end

/-- Settles O1: the two equations of `step`. -/
theorem stepRunsFrontCommand : Obligations.StepRunsFrontCommand :=
  ⟨fun _ _ _ => rfl, fun s waiting => by simp only [step, waiting]⟩

/-- Settles O2: a rise of the supply resets the part, every other command goes through `answers_of_taking`. -/
theorem everyCommandAnswersNext : Obligations.EveryCommandAnswersNext := by
  intro c s
  cases c with
  | powerOn line => exact ⟨_, exec_powerOn line s, s.takeReset_pending _ _ line⟩
  | supplyDip line => exact ⟨_, exec_supplyDip line s, s.takeReset_pending _ _ line⟩
  | supplyFall dt => exact answers_of_taking (exec_supplyFall dt s) rfl
  | zeroCrossingEdge dt => exact answers_of_taking (exec_zeroCrossingEdge dt s) (State.edge_pending _)
  | missingEdgeTimeout => exact answers_of_taking (exec_missingEdgeTimeout s) s.missingEdge_pending
  | stopAssertion dt steady =>
    refine answers_of_taking (exec_stopAssertion dt steady s) ?_
    split
    · exact State.assertStop_pending _
    · rfl
  | stopRelease dt steady =>
    refine answers_of_taking (exec_stopRelease dt steady s) ?_
    split
    · exact State.releaseStop_pending _
    · rfl
  | frameCompleted => exact answers_of_taking (exec_frameCompleted s) s.completeFrame_bankFrame.pending
  | gapTimerExpiry => exact answers_of_taking (exec_gapTimerExpiry s) s.gapExpires_bankFrame.pending
  | replySend => exact answers_of_taking (exec_replySend s) s.beginReply_bankFrame.pending
  | requestSlotRelease dt line =>
    exact answers_of_taking (exec_requestSlotRelease dt line s) (State.endReply_pending _ line)
  | start => exact answers_of_taking (exec_start s) (s.beginNotice_bankFrame _).pending
  | eventChange => exact answers_of_taking (exec_eventChange s) (s.beginNotice_bankFrame _).pending
  | rotorChange => exact answers_of_taking (exec_rotorChange s) (s.beginNotice_bankFrame _).pending
  | orderChange => exact answers_of_taking (exec_orderChange s) (s.beginNotice_bankFrame _).pending
  | measurementChange => exact answers_of_taking (exec_measurementChange s) (s.beginNotice_bankFrame _).pending
  | haltChange => exact answers_of_taking (exec_haltChange s) (s.beginNotice_bankFrame _).pending
  | identify => exact answers_of_request (exec_identify s) fun _ => rfl
  | status => exact answers_of_request (exec_status s) fun _ => rfl
  | clearSummary => exact answers_of_request (exec_clearSummary s) fun _ => rfl
  | setClock => exact answers_of_request (exec_setClock s) fun _ => rfl
  | setMode => exact answers_of_request (exec_setMode s) (ownSetMode_pending s)
  | setMeasurement => exact answers_of_request (exec_setMeasurement s) (ownSetMeasurement_pending s)
  | setEvent => exact answers_of_request (exec_setEvent s) (ownSetEvent_pending s)
  | setBankLimits => exact answers_of_request (exec_setBankLimits s) (ownSetBankLimits_pending s)
  | setCurve => exact answers_of_request (exec_setCurve s) (ownSetCurve_pending s)
  | readCurve => exact answers_of_request (exec_readCurve s) fun _ => rfl
  | readEvents => exact answers_of_request (exec_readEvents s) fun _ => rfl
  | setNotices => exact answers_of_request (exec_setNotices s) (ownSetNotices_pending s)
  | restart => exact answers_of_request (exec_restart s) (ownRestart_pending s)
  | snapshotPart0 => exact answers_of_request (exec_snapshotPart0 s) (ownSnapshotPart0_pending s)
  | snapshotPart1 => exact answers_of_request (exec_snapshotPart1 s) (ownSnapshotPart1_pending s)
  | enrol => exact answers_of_request (exec_enrol s) (ownEnrol_pending s)
  | release => exact answers_of_request (exec_release s) (ownRelease_pending s)
  | spinUp => exact answers_of_request (exec_spinUp s) (ownSpinUp_pending s)
  | park => exact answers_of_request (exec_park s) (ownPark_pending s)
  | resetFault => exact answers_of_request (exec_resetFault s) (ownResetFault_pending s)
  | setRotorLimits => exact answers_of_request (exec_setRotorLimits s) (ownSetRotorLimits_pending s)
  | setRotorRole => exact answers_of_request (exec_setRotorRole s) (ownSetRotorRole_pending s)
  | rotorStatus =>
    exact answers_of_taking (exec_rotorStatus s)
      (State.takeRequest_pending (ownRotorStatus_pending s) fun u p => (afterRotorStatus_bankFrame u p).pending)
  | placeOrder => exact answers_of_request (exec_placeOrder s) (ownPlaceOrder_pending s)
  | cancelOrder => exact answers_of_request (exec_cancelOrder s) (ownCancelOrder_pending s)
  | resumeOrder => exact answers_of_request (exec_resumeOrder s) (ownResumeOrder_pending s)
  | orderStatus =>
    exact answers_of_taking (exec_orderStatus s)
      (State.takeRequest_pending (ownOrderStatus_pending s) afterOrderStatus_pending)
  | listOrders => exact answers_of_request (exec_listOrders s) fun _ => rfl
  | poll dt => exact answers_of_taking (exec_poll dt s) (State.pollNext_bankFrame _).pending
  | moduleReply dt bytes =>
    exact answers_of_taking (exec_moduleReply dt bytes s) (State.busBytes_bankFrame _ bytes).pending
  | replyWindowClose => exact answers_of_taking (exec_replyWindowClose s) s.windowCloses_bankFrame.pending
  | liftTimerExpiry i =>
    exact answers_of_taking (exec_liftTimerExpiry i s)
      (s.timerExpires_bankFrame i _ fun s => s.trip_bankFrame i _).pending
  | spinupTimerExpiry i =>
    exact answers_of_taking (exec_spinupTimerExpiry i s)
      (s.timerExpires_bankFrame i _ fun s => s.brake_bankFrame i _).pending
  | syncTimerExpiry i =>
    exact answers_of_taking (exec_syncTimerExpiry i s)
      (s.timerExpires_bankFrame i _ fun s => s.syncFails_bankFrame i).pending
  | linkByteReceived dt byte broken =>
    exact answers_of_taking (exec_linkByteReceived dt byte broken s) (State.takeByte_bankFrame _ byte broken).pending
  | noticeFrameEnd dt => exact answers_of_taking (exec_noticeFrameEnd dt s) (State.endNotice_bankFrame _).pending

end Sys2Proof.Machine
end
